-- ==== Sys2Proof/Word.lean ====
section
/-! DEFINITION. The word types of the PK-7 model, the serial comparison of R11 and the finite map every table of the device is kept in. -/

namespace Sys2Proof

/-- One byte. -/
abbrev Byte := BitVec 8

/-- A 64-bit device virtual address. -/
abbrev Va := BitVec 64

/-- Fabric time: a 64-bit unsigned count in units of 1/16 ns (R36 to R39). -/
abbrev Time := BitVec 64

/-- A frame number, 32 bits, wrapping (R50). -/
abbrev Frame := BitVec 32

/-- A status word: subsystem in bits [15:12], code in bits [11:0] (R6). -/
abbrev Status := BitVec 16

/-- A finite map from numbers, kept as a list with strictly rising keys, so that equal maps are equal lists. -/
abbrev Map (α : Type) := List (Nat × α)

/-- R11: `a` precedes `b` when 0 < (b − a) mod 2^w < 2^(w−1). -/
def serialLt {w : Nat} (a b : BitVec w) : Bool :=
  decide (0 < (b - a).toNat) && decide ((b - a).toNat < 2 ^ (w - 1))

/-- R11: `a` precedes or equals `b` when (b − a) mod 2^w < 2^(w−1). -/
def serialLe {w : Nat} (a b : BitVec w) : Bool :=
  decide ((b - a).toNat < 2 ^ (w - 1))

end Sys2Proof
end

