-- ==== Sys2Proof/Syntax.lean ====
section
/-! DEFINITION. The commands of the PK-7 and the records they carry, as the spec lays them out. -/

namespace Sys2Proof

/-! ## Requesters and completions -/

/-- R355: the fields of a message that its service sees: endpoints, class, tenant, channel, message ID, arrival port. -/
structure MsgHdr where
  src : Nat
  dst : Nat
  port : Nat
  tc : Nat
  cmplReq : Bool
  tenant : Nat
  channel : Nat
  csn : BitVec 32
  msgId : Nat
  deriving DecidableEq, Repr

/-- Who sent a command: a message of an Auvas partner (with the completion counter of its channel after its visibility, R385), a
logical device's mailbox (port, LD index), the management controller over MCTP, or the device itself (an automatic action). R127,
R128, R453. -/
inductive Requester
  | auvas (h : MsgHdr) (completions : BitVec 32)
  | ld (port : Nat) (index : Nat)
  | mctp
  | device
  deriving DecidableEq, Repr

/-- R27, R66: the operating profiles. -/
inductive Profile | throughput | balanced | latency | density
  deriving DecidableEq, Repr

/-- R66: the variants of a timetable. -/
inductive Variant | normal | solo | degraded | soloDegraded
  deriving DecidableEq, Repr

/-- R51: the slot classes. -/
inductive SlotClass | attend | result | wstream | promote | mirror | transit
  deriving DecidableEq, Repr

/-- R66: one slot entry of a timetable. Port 255 is the internal port code 0xFF. -/
structure SlotEntry where
  framePos : Nat
  slot : Nat
  startNs : Nat
  lengthNs : Nat
  cls : SlotClass
  port : Nat
  stream : Nat
  resultDframes : Nat
  resultSlot : Nat
  maxRows : Nat
  budgetQ : Nat
  deriving DecidableEq, Repr

/-- R66: a timetable: its header, the length its container states, and its slot entries. -/
structure Timetable where
  id : BitVec 16
  variant : Variant
  profile : Profile
  frameLenQ : Nat
  cycleFrames : Nat
  baseTime : Time
  slotCount : Nat
  maxAbsent : Nat
  slackPct : Nat
  distLead : Nat
  hyperId : BitVec 64
  containerLen : Nat
  slots : List SlotEntry
  deriving DecidableEq, Repr

/-- R42: what one SYNC message says of its sender, with the four timestamps of the exchange (R40). -/
structure SyncMsg where
  gmDevice : Nat
  announce : BitVec 16
  hops : Nat
  gmRank : Nat
  t1 : Time
  t2 : Time
  t3 : Time
  t4 : Time
  deriving DecidableEq, Repr

/-- R78, R79: what arrives on the timetable-distribution channel: a timetable with its effective time, resolved by the
sender, or the state of a running timetable that a starting device adopts. -/
inductive Distribution
  | activation (set : List Timetable) (effective : Time)
  | running (id : BitVec 16) (frame : Frame) (nextBoundary : Time)
  deriving DecidableEq, Repr

/-! ## Sequences and pages (03_sequences_and_pages.md) -/

/-- R110: the stored formats, codes 0 to 3. -/
inductive Format | bf16 | fp16 | e4m3 | e5m2
  deriving DecidableEq, Repr

/-- R88: the mirror classes, codes 0 to 2. -/
inductive MirrorClass | m0 | m1 | m2
  deriving DecidableEq, Repr

/-- The bytes of one token of one layer: K of every head and V of every head, each element exactly as appended (R102). -/
structure TokenKv where
  k : List Byte
  v : List Byte
  deriving DecidableEq, Repr

/-- R110: an APPEND message; `bodyLen` is the length of the message received, `format` its stored-format code. -/
structure AppendMsg where
  handle : BitVec 32
  position : Nat
  count : Nat
  layer : Nat
  format : Nat
  bodyLen : Nat
  tokens : List (BitVec 32)
  kv : List TokenKv
  deriving DecidableEq, Repr

/-! ## The prefix store (04_prefix_store.md) -/

/-- R168: a LOOKUP body. The scope 0xFFFF names the tenant's default scope (R134). -/
structure LookupMsg where
  handle : BitVec 32
  scope : Nat
  model : Nat
  attach : Bool
  startFrom : Bool
  format : Nat
  reservedFlags : Nat
  startKey : BitVec 96
  startGen : BitVec 32
  startDepth : Nat
  count : Nat
  tokens : List (BitVec 32)
  deriving DecidableEq, Repr

/-- R169: an ATTACH body. -/
structure AttachMsg where
  handle : BitVec 32
  depth : Nat
  nodeKey : BitVec 96
  nodeGen : BitVec 32
  scope : Nat
  deriving DecidableEq, Repr

/-- R160, R166: a soft error in one row of the match array: the bits of the unit that have changed. -/
structure ArrayUpset where
  bank : Nat
  row : Nat
  flips : BitVec 64
  deriving DecidableEq, Repr

/-- R164: the probe that waited behind a cuckoo move: that of block `block` of a LOOKUP, or of the offer of block `block` in
an APPEND. -/
inductive ProbeWait
  | lookup (rq : Requester) (m : LookupMsg) (block : Nat)
  | offer (rq : Requester) (m : AppendMsg) (block : Nat)
  deriving DecidableEq, Repr

/-! ## Attention requests (05_attention_requests.md, 06_attention_execution.md) -/

/-- R181: a segment-table entry. -/
structure SegEntry where
  handle : BitVec 32
  keyLimit : Nat
  deriving DecidableEq, Repr

/-- R181: a row-table entry. -/
structure RowEntry where
  position : Nat
  segment : Nat
  deriving DecidableEq, Repr

/-- R179, R180: an ATTEND message: header, tables and query block (elements in the order of R183, one-byte formats in the
low byte), with the length of the body received. -/
structure AttendMsg where
  stream : Nat
  model : Nat
  qFormat : Nat
  outFormat : Nat
  outMode : Nat
  layer : Nat
  kvhFirst : Nat
  kvhCount : Nat
  flags : BitVec 16
  window : Nat
  scale : BitVec 32
  softcap : BitVec 32
  segCount : Nat
  sinkTokens : Nat
  rowCount : Nat
  statsVa : Va
  bodyLen : Nat
  segs : List SegEntry
  rows : List RowEntry
  query : List (BitVec 16)
  deriving DecidableEq, Repr

/-- R500: a model descriptor with its execution block (R242); fields as the descriptor carries them. -/
structure ModelDesc where
  model : Nat
  headDimCode : Nat
  layers : Nat
  kvHeads : Nat
  g : Nat
  uid : BitVec 64
  t0Bytes : Nat
  seats : Nat
  t1Bytes : Nat
  slotCount : Nat
  sliceCode : Nat
  streamCount : Nat
  streams : List Nat
  deriving DecidableEq, Repr

/-- The data that have a home (R252): a page, a block of a weight object, or the tables of a sequence. -/
inductive Datum
  | page (p : Nat)
  | block (object : Nat) (index : Nat)
  | pendingArea (seq : Nat)
  | tables (seq : Nat)
  deriving DecidableEq, Repr

/-! ## Movement, weight objects and weight streams (07_tiers_and_movement.md) -/

/-- R276: a PROMOTE body. -/
structure PromoteMsg where
  handle : BitVec 32
  layerFirst : Nat
  layerCount : Nat
  pageFirst : Nat
  pageCount : Nat
  needBy : Time
  cancel : Bool
  reservedFlags : Nat
  deriving DecidableEq, Repr

/-- R294: a tile descriptor. -/
structure TileDesc where
  form : Nat
  elem : Nat
  tileRows : Nat
  tileCols : Nat
  pad : Nat
  srcRows : Nat
  srcCols : Nat
  srcStride : Nat
  tileOrder : Nat
  dstTileStride : Nat
  deriving DecidableEq, Repr

/-- R293: a WSTREAM item; `source` is an object index or a sequence handle. -/
structure WItem where
  srcKind : Nat
  plane : Nat
  kvHead : Nat
  source : Nat
  srcOffset : Nat
  srcLength : Nat
  destOffset : Nat
  tile : TileDesc
  deriving DecidableEq, Repr

/-- R293: a WSTREAM request. -/
structure WStreamMsg where
  stream : Nat
  itemCount : Nat
  flags : BitVec 16
  startTime : Time
  destChannel : Nat
  bodyLen : Nat
  items : List WItem
  deriving DecidableEq, Repr

/-! ## Flash (08_flash_store.md) -/

/-- R307: what a die's parameter page reports, when the die answers. -/
structure DieParams where
  dataBytes : Nat
  spareBytes : Nat
  planes : Nat
  pagesPerBlock : Nat
  blocksPerPlane : Nat
  suspend : Bool
  tReadMaxNs : Nat
  retryLevels : Nat
  deriving DecidableEq, Repr

/-- R308: the answer of one die slot of a channel at discovery. -/
structure DieFound where
  channel : Nat
  slot : Nat
  params : DieParams
  /-- R308: factory bad blocks, by plane and block. -/
  bad : List (Nat × Nat)
  deriving DecidableEq, Repr

/-- R323: how a read passed the correction ladder: the retry levels used, whether the stripe was rebuilt, whether it passed. -/
structure Ladder where
  retryLevels : Nat
  rebuilt : Bool
  good : Bool
  /-- The codeword, in units from the first one read, that needed the most. -/
  codeword : Nat
  deriving DecidableEq, Repr

/-- R309: the NAND operations that are timed. -/
inductive NandOp
  | read (id : Nat)
  | program (group : Nat) (reloc : Bool)
  | erase (group : Nat) (band : Nat) (position : Nat)
  deriving DecidableEq, Repr

/-! ## Administrative requests that a SEND or a mailbox may carry -/

/-- R127: a SEQ_ADMIN request. -/
structure SeqAdmin where
  subop : Nat
  format : Nat
  tenant : Nat
  handle : BitVec 32
  model : Nat
  scope : Nat
  length : Nat
  stream : Nat
  position : Nat
  deriving DecidableEq, Repr

/-- R291: an OBJ_ADMIN request. -/
structure ObjAdmin where
  subop : Nat
  flags : BitVec 8
  tenant : Nat
  object : Nat
  size : Nat
  offset : Nat
  region : Nat
  regionOffset : Nat
  deriving DecidableEq, Repr

/-- R388: a CHAN_ADMIN request. -/
structure ChanAdmin where
  subop : Nat
  kind : Nat
  tenant : Nat
  channel : Nat
  peer : Nat
  access : Nat
  tcMask : BitVec 8
  target : Nat
  base : Va
  len4k : Nat
  mask : BitVec 16
  deriving DecidableEq, Repr

/-- R378: a WAIT body. -/
structure WaitMsg where
  waitChannel : Nat
  threshold : BitVec 32
  timeoutUs : Nat
  abortChain : Bool
  deriving DecidableEq, Repr

/-- R352: what a SEND delivers: an administrative request to the management endpoint, or bytes to another endpoint. -/
inductive SendBody
  | seqAdmin (r : SeqAdmin)
  | objAdmin (r : ObjAdmin)
  | chanAdmin (r : ChanAdmin)
  | bytes (b : List Byte)
  deriving DecidableEq, Repr

/-! ## Auvas (09_auvas_links.md) -/

/-- R356: the message that a packet's payload completes, by opcode. -/
inductive Body
  | write
  | read
  | send (b : SendBody)
  | attend (m : AttendMsg)
  | append (m : AppendMsg)
  | lookup (m : LookupMsg)
  | attach (m : AttachMsg)
  | promote (m : PromoteMsg)
  | wstream (m : WStreamMsg)
  | wait (m : WaitMsg)
  | data
  deriving DecidableEq, Repr

/-- R355: a packet: header, validity of its two CRCs and of its reserved fields, payload, and the message it completes. -/
structure Packet where
  dst : Nat
  src : Nat
  opcode : Nat
  tc : Nat
  cmplReq : Bool
  resend : Bool
  tenant : Nat
  channel : Nat
  psn : BitVec 24
  pathId : Nat
  csn : BitVec 32
  msgId : Nat
  fragIndex : Nat
  fragCount : Nat
  length : Nat
  epoch : BitVec 8
  addr : Nat
  opWord : Nat
  headerOk : Bool
  payloadOk : Bool
  payload : List Byte
  body : Body
  deriving DecidableEq, Repr

/-- R361: an ACK body. -/
structure AckMsg where
  cum : BitVec 24
  epoch : BitVec 8
  reinit : Bool
  /-- R361: the psn values that the sack bitmap marks. -/
  sacked : List (BitVec 24)
  deriving DecidableEq, Repr

/-- R376: an RNR body. -/
structure RnrMsg where
  reason : Status
  msgId : Nat
  fragIndex : Nat
  retryAfterNs : Nat
  psn : BitVec 24
  deriving DecidableEq, Repr

/-- R432: a PROBE body. -/
structure ProbeMsg where
  kind : Nat
  init : Bool
  tookOver : Bool
  device : Nat
  hbCount : BitVec 32
  sendTime : Time
  commitSeq : BitVec 32
  takeoverEpoch : BitVec 32
  pairState : Nat
  subject : Nat
  deriving DecidableEq, Repr

/-- R346: what the far end reports in the identity step, with its pipeline delays in fabric-time units. -/
structure LinkIdentity where
  device : Nat
  port : Nat
  partner : Bool
  txDelay : Nat
  rxDelay : Nat
  deriving DecidableEq, Repr

/-- R350: a control flit. -/
structure ControlFlit where
  group : BitVec 8
  starts : List Nat
  credits : List (BitVec 32)
  laneHealth : BitVec 32
  deriving DecidableEq, Repr

/-- R350: a flit as received: data flit `index` of its group, or the group's control flit; with the packets that end in it. -/
inductive Flit
  | control (c : ControlFlit)
  | data (index : Nat)
  deriving DecidableEq, Repr

/-- R386: an event body. -/
structure EventMsg where
  status : Status
  tenant : Nat
  device : Nat
  seq : Nat
  time : Time
  detail : List Nat
  deriving DecidableEq, Repr

/-- R385: a CMPL body. -/
structure CmplMsg where
  status : Status
  msgId : Nat
  csn : BitVec 32
  completions : BitVec 32
  deriving DecidableEq, Repr

/-! ## Egress (10_egress_and_policing.md) -/

/-- R395: an entry of a gate control list. -/
structure GateEntry where
  gates : BitVec 8
  intervalNs : Nat
  deriving DecidableEq, Repr

/-- R395: a gate control list, with the profile and variant that its prefix names. -/
structure GateList where
  id : BitVec 16
  port : Nat
  entryCount : Nat
  cycleFrames : Nat
  baseTime : Time
  profile : Profile
  variant : Variant
  entries : List GateEntry
  deriving DecidableEq, Repr

/-! ## Hosts (12_host_attachment.md) -/

/-- R464: the region request. -/
structure RegionReq where
  region : Nat
  arg : Nat
  flags : BitVec 8
  slot : Nat
  window : Nat
  srcRegion : Nat
  expected : BitVec 32
  newVersion : BitVec 32
  offset : Nat
  length : Nat
  dpaBase : Nat
  crc : BitVec 32
  deriving DecidableEq, Repr

/-- R480: a REGION_EXPORT request. -/
structure ExportReq where
  region : Nat
  handle : BitVec 32
  expected : BitVec 32
  newVersion : BitVec 32
  layerFirst : Nat
  layerCount : Nat
  pageFirst : Nat
  pageCount : Nat
  deriving DecidableEq, Repr

/-- R470: the state in which a host asks to hold a line. -/
inductive LineState | s | e | m
  deriving DecidableEq, Repr

/-! ## Image and transactions (13_image_and_startup.md) -/

/-- R135: a scope record of the image or of a transaction. -/
structure ScopeRec where
  index : Nat
  salt : BitVec 128
  scopeId : Nat
  flags : BitVec 8
  saltEpoch : BitVec 8
  maxDepth : Nat
  retainK : Nat
  deriving DecidableEq, Repr

/-- R501: a tenant record. -/
structure TenantRec where
  tenant : Nat
  valid : Bool
  mirror : MirrorClass
  defaultScope : Nat
  scopes : List Nat
  deriving DecidableEq, Repr

/-- R281: a stream deadline record. -/
structure StreamRec where
  stream : Nat
  policy : Nat
  flags : Nat
  execLeadNs : Nat
  tailNs : Nat
  runaheadLayers : Nat
  deriving DecidableEq, Repr

/-- R416: a policer record of the image or of a transaction. -/
structure PolicerRec where
  index : Nat
  cir : Nat
  cbs4k : Nat
  enable : Bool
  deriving DecidableEq, Repr

/-- R498: the T1 pool sizes of section 0x03, in MiB. -/
structure PoolSizes where
  staging : Nat
  region : Nat
  weight : Nat
  reserve : Nat
  table : Nat
  plist : Nat
  deriving DecidableEq, Repr

/-- R497, R498: the body of an image, section by section; `sectionsOk` says that the directory and the section CRCs hold. -/
structure ImageBody where
  sectionsOk : Bool
  startProfile : Profile
  permitted : BitVec 4
  gmDevice : Nat
  part : Nat
  spareBlocks : Nat
  minDies : Nat
  pools : PoolSizes
  models : List ModelDesc
  tenants : List TenantRec
  scopes : List ScopeRec
  streams : List StreamRec
  timetables : List Timetable
  gateLists : List GateList
  policers : List PolicerRec
  /-- R575: the count of the power policy and its start states. -/
  powerCount : Nat
  powerStart : List Nat
  posX : Nat
  posY : Nat
  deviceId : Nat
  registers : List (BitVec 16 × BitVec 64)
  deriving DecidableEq, Repr

/-- R490, R492: an image as a bank or a Transfer FW holds it: header, verdicts on the CRC and the signature, body. -/
structure Image where
  magicOk : Bool
  seq : BitVec 32
  bodyLen : Nat
  crcOk : Bool
  /-- R491, R538: the SHA-256 that the signature covers, and that of the microcode section. -/
  digest : BitVec 256
  microcode : BitVec 256
  secVersion : Nat
  secFloor : Nat
  signer : Nat
  sigOk : Bool
  /-- R490, R530: signer_id. -/
  signerId : BitVec 64
  configId : BitVec 64
  body : ImageBody
  deriving DecidableEq, Repr

/-- R517: a record item of a transaction. -/
inductive TxnRecord
  | tenant (index : Nat) (r : TenantRec)
  | scope (index : Nat) (r : ScopeRec)
  | deadline (index : Nat) (r : StreamRec)
  | policer (index : Nat) (r : PolicerRec)
  deriving DecidableEq, Repr

/-- R517: a transaction item. -/
inductive TxnItem
  | fields (reg : BitVec 16) (mask : BitVec 64) (value : BitVec 64)
  | record (r : TxnRecord)
  | timetable (tt : Timetable)
  | gateList (g : GateList)
  | floor (v : Nat)
  | pools (p : PoolSizes)
  deriving DecidableEq, Repr

/-! ## Identity (14_identity_and_attestation.md) -/

/-- R528, R531: an identity copy or bundle: its format, CRC and chain verdicts, and what the device uses of it. -/
structure IdentityCopy where
  formatOk : Bool
  chainOk : Bool
  storeSeq : BitVec 32
  pubHash : BitVec 256
  chainDigest : BitVec 256
  chain : List Byte
  /-- R530: the first 8 bytes of the hash of each signer certificate's key. -/
  signers : List (BitVec 64)
  deriving DecidableEq, Repr

/-- R535: an SPDM request that R536 may answer late. -/
inductive SpdmSigned
  | challenge (slot : Nat) (nonce : BitVec 256) (summary : Nat)
  | measurements (index : Nat) (nonce : BitVec 256)
  deriving DecidableEq, Repr

/-! ## Pins, faults and power (15 to 17) -/

/-- R554, R590: the straps as sampled. -/
structure Straps where
  testEn : Bool
  rcv : Bool
  i3cAddr : BitVec 2
  deriving DecidableEq, Repr

/-- R554: the reset and strap inputs. -/
inductive ResetPin
  | porst
  | cxlPerst (port : Nat)
  | strap (index : Nat)
  deriving DecidableEq, Repr

/-- R555: the destination island of a crossing. -/
inductive Island
  | core (p : Nat)
  | link (port : Nat)
  | dram (stack : Nat) (channel : Nat)
  | nand (channel : Nat)
  | mgmt
  deriving DecidableEq, Repr

/-- R545, R546: what a DRAM patrol read of a 64-byte location finds. -/
inductive DramRead | clean | corrected | uncorrectable
  deriving DecidableEq, Repr

/-- R564: the conditions of a domain that only its owner sees: the projected end of the work in flight, a NAND operation that
ends more than 100 µs ahead, the CXL link in L0 or L1. -/
structure OwnerView where
  workEnds : Option Time
  longNand : Bool
  linkActive : Bool
  deriving DecidableEq, Repr

/-! ## Pair commits (11_pair_and_torus.md) -/

/-- R428, R429: a sealed page as a page copy carries it, with the progress fields of its sequence. -/
structure PageCopy where
  handle : BitVec 32
  layer : Nat
  index : Nat
  toks : List TokenKv
  /-- R428: the progress fields of the sequence: length, max_len, tail_key, last_frame, the layer lengths and token ring of the
  pending area, the token log's records from block 0 on. -/
  length : Nat
  maxLen : Nat
  tailKey : BitVec 96
  lastFrame : Frame
  layerLens : List Nat
  ring : Map (BitVec 32)
  log : List (BitVec 96 × List (BitVec 32))
  deriving DecidableEq, Repr

/-- R445: the fields of a sequence record that a resync chunk carries (R421 leaves the local ones out). -/
structure SeqRec where
  handle : BitVec 32
  tenant : Nat
  model : Nat
  scope : Nat
  format : Format
  mirror : MirrorClass
  state : Nat
  length : Nat
  sharedTokens : Nat
  maxLen : Nat
  seat : Option Nat
  tailKey : BitVec 96
  lastFrame : Frame
  layers : Nat
  kvHeads : Nat
  headDim : Nat
  ownerB : Bool
  /-- R97: the seat held before a park. -/
  prevSeat : Option Nat
  /-- R607: token-log records from block 0 on: those of the shared prefix, all of them for an M2 sequence. -/
  log : List (BitVec 96 × List (BitVec 32))
  /-- R91, R428: layer lengths and token ring, of an M2 sequence. -/
  layerLens : List Nat
  ring : Map (BitVec 32)
  deriving DecidableEq, Repr

/-- R445: the fields of an object record that a resync chunk carries. -/
structure ObjRec where
  object : Nat
  tenant : Nat
  state : Nat
  flags : BitVec 8
  size : Nat
  version : Nat
  lostBlocks : Nat
  ownerB : Bool
  deriving DecidableEq, Repr

/-- R445: the fields of a node record that a resync chunk carries. -/
structure NodeRec where
  key : BitVec 96
  parent : BitVec 96
  tokens : List (BitVec 32)
  depth : Nat
  refCount : Nat
  gen : BitVec 32
  lastHit : Frame
  scope : Nat
  model : Nat
  format : Format
  mirror : MirrorClass
  saltEpoch : BitVec 8
  layers : Nat
  children : Nat
  deriving DecidableEq, Repr

/-- R504, R445: what a resync carries in place of the image's sections 0x05 to 0x0A: the running profile, tenants, scopes,
deadline records, timetables, gate lists and policers, with the leader's commit sequence and takeover epoch. -/
structure ConfRec where
  profile : Profile
  tenants : List TenantRec
  scopes : List ScopeRec
  streams : List StreamRec
  set : List Timetable
  lists : List GateList
  policers : List PolicerRec
  configId : BitVec 64
  takeoverEpoch : BitVec 32
  /-- R85, R132, R140, R163: the free list of handles, the batch tables, the last node generation, the pointer of cuckoo moves. -/
  gens : Map (BitVec 8)
  freeNext : Nat
  freeSkip : List Nat
  freeQueue : List Nat
  batch : Map (BitVec 32)
  nodeGen : BitVec 32
  cuckooPtr : Nat
  deriving DecidableEq, Repr

/-- R421, R423: the change a pair commit makes. Each side fills its own locations. -/
inductive PairOp
  | seqOpen (ownerB : Bool) (tenant : Nat) (model : Nat) (format : Format) (scope : Nat)
  | seqClose (handle : BitVec 32)
  | seqPark (handle : BitVec 32)
  | seqResume (handle : BitVec 32)
  | seqTruncate (handle : BitVec 32) (length : Nat)
  | seqJoin (handle : BitVec 32) (stream : Nat) (position : Nat)
  | seqLeave (handle : BitVec 32) (stream : Nat)
  | attach (handle : BitVec 32) (slot : Nat)
  | nodeCreate (handle : BitVec 32) (block : Nat) (tokens : List (BitVec 32))
  | nodeRemove (slot : Nat)
  | arrayClear
  | modelLoad (d : ModelDesc)
  | modelUnload (model : Nat)
  | timetable (set : List Timetable) (effective : Time)
  | objCreate (ownerB : Bool) (r : ObjAdmin)
  | objSeal (object : Nat)
  | objDelete (object : Nat)
  | objReopen (object : Nat)
  | objLost (object : Nat) (lostBlocks : Nat)
  | seqLost (handle : BitVec 32)
  | pageCopy (c : PageCopy)
  | nodePage (slot layer : Nat) (toks : List TokenKv)
  | blockCopy (object : Nat) (index : Nat) (data : List Byte)
  | append (m : AppendMsg)
  | txnBegin (holder : Requester)
  | txnRollback
  | txnCommit (items : List TxnItem) (persistent : Bool)
  | chanOpen (r : ChanAdmin)
  | chanClose (channel : Nat)
  | lostPage (key : BitVec 64)
  | resyncSeq (r : SeqRec)
  | resyncObj (r : ObjRec)
  | resyncModel (d : ModelDesc) (tight unloading : Bool) (granted borrowed : Nat)
  | resyncNode (slot : Nat) (r : NodeRec)
  | resyncArray (entries : Map (List (BitVec 64) × Nat))
  | resyncChan (r : ChanAdmin) (nextCsn completions : BitVec 32)
  | resyncConf (c : ConfRec)
  deriving DecidableEq, Repr

/-- R423: the header of a pair commit, with the boundary that its frame field names. -/
structure CommitHdr where
  seq : BitVec 32
  originB : Bool
  proposal : Bool
  resync : Bool
  boundary : Option Time
  tag : Nat
  deriving DecidableEq, Repr

/-! ## Commands -/

/-- The commands of spec/opcode_table.json, one constructor a row. The first operand `t` of each is the fabric time at which
the command or event reaches the device. -/
inductive Instr
  | resetRelease (t : Time) (straps : Straps)
  | porstLow (t : Time) (heldNs : Nat)
  | resetGlitchFiltered (t : Time) (pin : ResetPin) (heldNs : Nat)
  | clk25Stop (t : Time) (stoppedNs : Nat)
  | railMonitorTrip (t : Time) (rail : Nat) (outsideNs : Nat)
  | thermalTrip (t : Time) (sensor : Nat) (celsius : Nat) (heldNs : Nat)
  | sensorSample (t : Time) (celsius : List Nat)
  | powerBudgetTick (t : Time) (milliwatts : Nat)
  | romSelftestDone (t : Time) (pass : Bool) (derived : BitVec 256)
  | bankVerifyDone (t : Time) (nvmFound : Bool) (verdict1 : Bool) (verdict2 : Bool)
  | dramTrainingDone (t : Time) (part : Nat) (lostChannels : List Nat) (healthyCores : List Nat)
  | nandDiscoveryDone (t : Time) (found : List DieFound)
  | directoryRecoveryDone (t : Time) (readable : List (BitVec 32)) (lostUnits : List Nat)
  | startupStepTimeout (t : Time) (step : Nat)
  | sync (t : Time) (port : Nat) (m : SyncMsg)
  | syncInterval (t : Time)
  | syncSilenceTimeout (t : Time)
  | gmAnnounceTimeout (t : Time)
  | acquireTimeout (t : Time)
  | holdoverTimeout (t : Time)
  | gmReturn (t : Time)
  | ppsInEdge (t : Time) (highNs : Nat)
  | ppsMissingTimeout (t : Time)
  | fabricTimeReadLow (t : Time) (rq : Requester)
  | frameBoundary (t : Time)
  | timetableActivate (t : Time)
  | timetableDistribution (t : Time) (sender : Nat) (d : Distribution)
  | resultSlotStart (t : Time) (slot : Nat)
  | wstreamSlotStart (t : Time) (slot : Nat)
  | append (t : Time) (rq : Requester) (m : AppendMsg)
  | seqAdminOpen (t : Time) (rq : Requester) (tenant : Nat) (model : Nat) (format : Nat) (scope : Nat)
  | seqAdminClose (t : Time) (rq : Requester) (tenant : Nat) (handle : BitVec 32)
  | seqAdminPark (t : Time) (rq : Requester) (tenant : Nat) (handle : BitVec 32)
  | seqAdminResume (t : Time) (rq : Requester) (tenant : Nat) (handle : BitVec 32)
  | seqAdminTruncate (t : Time) (rq : Requester) (tenant : Nat) (handle : BitVec 32) (length : Nat)
  | seqAdminQuery (t : Time) (rq : Requester) (tenant : Nat) (handle : BitVec 32)
  | seqAdminJoin (t : Time) (rq : Requester) (tenant : Nat) (handle : BitVec 32) (stream : Nat) (position : Nat)
  | seqAdminLeave (t : Time) (rq : Requester) (tenant : Nat) (handle : BitVec 32) (stream : Nat)
  | idlePark (t : Time) (index : Nat)
  | parkComplete (t : Time) (index : Nat)
  | resumeComplete (t : Time) (index : Nat)
  | closeComplete (t : Time) (index : Nat)
  | appendHoldTimeout (t : Time) (index : Nat)
  | evictionParkTimeout (t : Time) (wait : Nat)
  | lookup (t : Time) (rq : Requester) (m : LookupMsg) (upsets : List ArrayUpset)
  | attach (t : Time) (rq : Requester) (m : AttachMsg)
  | nodeRetentionExpired (t : Time) (slot : Nat)
  | arrayBlockMoveComplete (t : Time) (bank : Nat)
  | shadowSweepRead (t : Time) (flips : BitVec 64)
  | dirProbeWaitTimeout (t : Time) (probe : ProbeWait)
  | pinGranted (t : Time) (op : Nat) (page : Nat)
  | pinWaitTimeout (t : Time) (op : Nat)
  | pinRelease (t : Time) (op : Nat) (page : Nat)
  | pageReclaim (t : Time) (page : Nat)
  | attend (t : Time) (rq : Requester) (port : Nat) (m : AttendMsg)
  | tileComplete (t : Time) (req : Nat) (slice : Nat) (mismatch : Bool)
  | mergeStep (t : Time) (req : Nat) (seg : Nat) (kvHead : Nat) (level : Nat) (index : Nat) (mismatch : Bool)
  | spareTakeover (t : Time) (lcore : Nat) (pass : Bool)
  | modelLoad (t : Time) (rq : Requester) (d : ModelDesc)
  | modelUnload (t : Time) (rq : Requester) (model : Nat)
  | modelUnloadComplete (t : Time) (model : Nat)
  | promote (t : Time) (rq : Requester) (m : PromoteMsg)
  | moveStart (t : Time) (move : Nat)
  | moveCopyComplete (t : Time) (move : Nat) (sourceOk : Bool)
  | pinGrantHoldTimeout (t : Time) (move : Nat)
  | drainFree (t : Time) (d : Datum)
  | drainWaitTimeout (t : Time) (move : Nat)
  | t1AllocGranted (t : Time) (move : Nat)
  | t1AllocTimeout (t : Time) (move : Nat)
  | heatAgeTick (t : Time)
  | refetchArrived (t : Time) (d : Datum)
  | refetchTimeout (t : Time) (d : Datum)
  | objAdminCreate (t : Time) (rq : Requester) (r : ObjAdmin)
  | objAdminSeal (t : Time) (rq : Requester) (tenant : Nat) (object : Nat)
  | objAdminDelete (t : Time) (rq : Requester) (tenant : Nat) (object : Nat)
  | objAdminQuery (t : Time) (rq : Requester) (tenant : Nat) (object : Nat)
  | objAdminReopen (t : Time) (rq : Requester) (tenant : Nat) (object : Nat)
  | objAdminCopyIn (t : Time) (rq : Requester) (r : ObjAdmin)
  | objectDeleteComplete (t : Time) (object : Nat)
  | wstream (t : Time) (rq : Requester) (port : Nat) (m : WStreamMsg)
  | nandReadComplete (t : Time) (id : Nat) (l : Ladder)
  | nandProgramComplete (t : Time) (group : Nat) (reloc : Bool) (failed : Option Nat)
  | nandEraseComplete (t : Time) (group : Nat) (band : Nat) (position : Nat) (pass : Bool)
  | nandOpTimeout (t : Time) (channel : Nat) (slot : Nat) (op : NandOp)
  | rowFillTimeout (t : Time) (group : Nat) (reloc : Bool)
  | patrolRead (t : Time) (unit : Nat) (overHalf : Bool) (l : Ladder)
  | checkpointStart (t : Time)
  | dramPatrol (t : Time) (addr : Nat) (found : DramRead)
  | portSignalDetect (t : Time) (port : Nat)
  | portRetrainTimer (t : Time) (port : Nat)
  | portTrainingComplete (t : Time) (port : Nat) (id : LinkIdentity) (lanes : List Nat) (foreign : List Nat)
  | portTrainingTimeout (t : Time) (port : Nat)
  | laneFault (t : Time) (port : Nat) (lane : Nat) (codewords : Nat)
  | lossOfSignal (t : Time) (port : Nat) (allLanes : Bool)
  | retrainBackoffExpiry (t : Time) (port : Nat)
  | sleepOrderedSet (t : Time) (port : Nat)
  | wakeOrderedSet (t : Time) (port : Nat)
  | flitReceived (t : Time) (port : Nat) (crcOk : Bool) (f : Flit)
  | packetReceived (t : Time) (port : Nat) (p : Packet)
  | write (t : Time) (h : MsgHdr) (addr : Nat) (data : List Byte)
  | read (t : Time) (h : MsgHdr) (addr : Nat) (bytes : Nat)
  | send (t : Time) (h : MsgHdr) (b : SendBody)
  | wait (t : Time) (h : MsgHdr) (m : WaitMsg)
  | waitTimeout (t : Time) (channel : Nat)
  | ack (t : Time) (peer : Nat) (m : AckMsg)
  | ackDelayTimeout (t : Time) (peer : Nat)
  | retransmitTimeout (t : Time) (peer : Nat) (psn : BitVec 24)
  | failedPathProbe (t : Time) (peer : Nat) (path : Nat)
  | pathProbe (t : Time) (port : Nat) (m : ProbeMsg)
  | pathReply (t : Time) (peer : Nat) (path : Nat) (m : ProbeMsg)
  | probeInit (t : Time) (peer : Nat) (epoch : BitVec 8)
  | rnr (t : Time) (peer : Nat) (m : RnrMsg)
  | rnrRetry (t : Time) (peer : Nat) (msgId : Nat) (fragIndex : Nat)
  | readNotPresentTimeout (t : Time) (channel : Nat) (msgId : Nat)
  | contextFetchComplete (t : Time) (channel : Nat)
  | contextFetchTimeout (t : Time) (channel : Nat)
  | reassemblyTimeout (t : Time) (src : Nat) (dst : Nat) (msgId : Nat)
  | eventReceived (t : Time) (src : Nat) (m : EventMsg)
  | cmplReceived (t : Time) (src : Nat) (dst : Nat) (m : CmplMsg)
  | chanAdminOpen (t : Time) (rq : Requester) (r : ChanAdmin)
  | chanAdminClose (t : Time) (rq : Requester) (tenant : Nat) (channel : Nat)
  | chanAdminSubscribe (t : Time) (rq : Requester) (r : ChanAdmin)
  | chanAdminUnsubscribe (t : Time) (rq : Requester) (r : ChanAdmin)
  | chanAdminQuery (t : Time) (rq : Requester) (tenant : Nat) (channel : Nat)
  | transmitChoice (t : Time) (port : Nat)
  | gateEntryChange (t : Time) (port : Nat)
  | gateListActivate (t : Time) (port : Nat)
  | bucketCreditTick (t : Time)
  | heartbeatTimer (t : Time)
  | heartbeat (t : Time) (port : Nat) (m : ProbeMsg) (snap : Option Time)
  | partnerProbe (t : Time) (port : Nat) (m : ProbeMsg)
  | partnerReply (t : Time) (port : Nat) (m : ProbeMsg)
  | witnessQuery (t : Time) (port : Nat) (m : ProbeMsg)
  | witnessReply (t : Time) (port : Nat) (m : ProbeMsg)
  | partnerProbeRepeat (t : Time)
  | pairSilenceTimeout (t : Time)
  | pairLossTimeout (t : Time)
  | joinTimeout (t : Time)
  | pausedRestore (t : Time)
  | forceTakeover (t : Time) (rq : Requester)
  | parTakeoverReceived (t : Time) (lost : Nat) (survivor : Nat)
  | pairCommitReceived (t : Time) (h : CommitHdr) (op : PairOp)
  | pairCommitComplete (t : Time) (tag : Nat) (status : Status)
  | mirrorCopyComplete (t : Time) (d : Datum)
  | resyncComplete (t : Time)
  | cxlMemRead (t : Time) (port : Nat) (ld : Nat) (dpa : Nat) (hold : Option LineState)
  | cxlMemWrite (t : Time) (port : Nat) (ld : Nat) (dpa : Nat) (data : List Byte)
  | bisnpResponse (t : Time) (port : Nat) (ld : Nat) (line : Nat) (data : Option (List Byte))
  | bisnpTimeout (t : Time) (port : Nat) (ld : Nat) (line : Nat)
  | cxlLinkDown (t : Time) (port : Nat) (viral : Bool)
  | cxlLinkUp (t : Time) (port : Nat)
  | ldReset (t : Time) (port : Nat) (ld : Nat)
  | cxlPerst (t : Time) (port : Nat) (heldNs : Nat)
  | hostFail (t : Time) (rq : Requester) (port : Nat) (ld : Nat)
  | regionCreate (t : Time) (rq : Requester) (r : RegionReq)
  | regionDelete (t : Time) (rq : Requester) (region : Nat)
  | regionReset (t : Time) (rq : Requester) (region : Nat)
  | regionMap (t : Time) (rq : Requester) (r : RegionReq)
  | regionPublish (t : Time) (rq : Requester) (r : RegionReq)
  | publishCrcComplete (t : Time) (port : Nat) (ld : Nat)
  | regionRetire (t : Time) (rq : Requester) (region : Nat) (version : BitVec 32)
  | regionHint (t : Time) (rq : Requester) (r : RegionReq)
  | regionExport (t : Time) (rq : Requester) (r : ExportReq)
  | exportCopyComplete (t : Time) (port : Nat) (ld : Nat)
  | regionQuery (t : Time) (rq : Requester) (region : Nat)
  | statusSnapshot (t : Time) (rq : Requester) (cls : Nat) (index : Nat)
  | identifyMemoryDevice (t : Time) (rq : Requester)
  | getTimestamp (t : Time) (rq : Requester)
  | setTimestamp (t : Time) (rq : Requester) (value : BitVec 64)
  | getSupportedLogs (t : Time) (rq : Requester)
  | getLog (t : Time) (rq : Requester) (uuid : BitVec 128) (offset : Nat) (length : Nat)
  | getEventRecords (t : Time) (rq : Requester) (log : Nat)
  | clearEventRecords (t : Time) (rq : Requester) (log : Nat) (handles : List Nat)
  | getEventInterruptPolicy (t : Time) (rq : Requester)
  | setEventInterruptPolicy (t : Time) (rq : Requester) (policy : BitVec 32)
  | getPoisonList (t : Time) (rq : Requester) (dpa : Nat) (length : Nat)
  | injectPoison (t : Time) (rq : Requester) (dpa : Nat)
  | clearPoison (t : Time) (rq : Requester) (dpa : Nat) (data : List Byte)
  | getFwInfo (t : Time) (rq : Requester)
  | transferFw (t : Time) (rq : Requester) (img : Image)
  | transferFwIdentity (t : Time) (rq : Requester) (bundle : IdentityCopy) (derived : BitVec 256)
  | activateFw (t : Time) (rq : Requester) (slot : Nat) (online : Bool)
  | getLdInfo (t : Time) (port : Nat)
  | getLdAllocations (t : Time) (port : Nat)
  | setLdAllocations (t : Time) (port : Nat) (first : Nat) (allocs : List (Nat × Nat))
  | cdatRead (t : Time) (port : Nat) (entry : Nat)
  | getVersion (t : Time) (transport : Nat)
  | getCapabilities (t : Time) (transport : Nat)
  | negotiateAlgorithms (t : Time) (transport : Nat) (p256 : Bool) (sha256 : Bool) (dmtf : Bool)
  | getDigests (t : Time) (transport : Nat)
  | getCertificate (t : Time) (transport : Nat) (slot : Nat) (offset : Nat) (length : Nat)
  | challenge (t : Time) (transport : Nat) (slot : Nat) (nonce : BitVec 256) (summary : Nat)
  | getMeasurements (t : Time) (transport : Nat) (index : Nat) (signed : Bool) (nonce : BitVec 256)
  | respondIfReady (t : Time) (transport : Nat) (token : Nat)
  | spdmSignatureComplete (t : Time)
  | cfgTxnBegin (t : Time) (rq : Requester)
  | cfgTxnWrite (t : Time) (rq : Requester) (id : BitVec 32) (items : List TxnItem)
  | cfgTxnCommit (t : Time) (rq : Requester) (id : BitVec 32) (persistent : Bool) (activation : Time)
  | cfgTxnRollback (t : Time) (rq : Requester) (id : BitVec 32)
  | txnIdleTimeout (t : Time)
  | nvmWriteComplete (t : Time) (ok : Bool)
  | rwlWrite (t : Time) (rq : Requester) (reg : BitVec 16) (mask : BitVec 64) (value : BitVec 64)
  | registerWrite (t : Time) (rq : Requester) (reg : BitVec 16) (value : BitVec 64)
  | handshakeTimeout (t : Time) (island : Island)
  | mgmtWatchdogTimeout (t : Time) (core : Nat)
  | livenessTimeout (t : Time)
  | livenessWrite (t : Time) (core : Nat)
  | powerRequest (t : Time) (rq : Requester) (first : Nat) (count : Nat) (target : Nat)
  | ownerAnswer (t : Time) (domain : Nat) (v : OwnerView)
  | drainEnd (t : Time) (domain : Nat)
  | drainTimeout (t : Time) (domain : Nat)
  | quiesceComplete (t : Time) (domain : Nat)
  | clampComplete (t : Time) (domain : Nat)
  | lowerComplete (t : Time) (domain : Nat)
  | domainWake (t : Time) (domain : Nat) (source : Nat)
  | wakeComplete (t : Time) (domain : Nat)
  | idlePolicyTimeout (t : Time) (domain : Nat)
  | timetableLeadWake (t : Time) (slot : Nat)
  | vddAonRemoval (t : Time)
  | portWakeTimeout (t : Time) (port : Nat)
  deriving DecidableEq, Repr

end Sys2Proof
end

