-- ==== Sys2Proof/Config.lean ====
section
/-! DEFINITION. The free values of the PK-7: what the manual leaves open, as constants without a body. A claim that mentions one
holds whatever its value is. -/

namespace Sys2Proof.Config

/-- R40, R43: how an offset of half a unit is rounded; the manual gives the quotient by 2 and no rounding (log entry 10). -/
opaque halfUnitUp : Int → Bool

/-- R256: where the T1 allocator looks first for a home; the manual gives the pools and not the addresses. The `n`-th draw
(log entry 11). -/
opaque t1Pick : Nat → Nat

/-- R311, R317: which FREE band of a group is opened; the manual gives the group and not the band. The `n`-th draw (log
entry 12). -/
opaque bandPick : Nat → Nat

/-- R272: bytes of the canonical Huffman coding of a plane, its code-length table included; the manual fixes the lengths' range
and not the code (log entry 13). -/
opaque huffmanLen : List Byte → Nat

/-- R227: sign and payload of the NaN that an operation returns; the manual fixes only that it is a NaN (log entry 14). -/
opaque nanPayload : BitVec 32 → BitVec 32 → BitVec 32

/-- R228: which neighbour of the exact value the faithful exp returns: the upper one or the lower (log entry 15). -/
opaque expUp : BitVec 32 → Bool

/-- R228: which neighbour of the exact value the faithful ln returns (log entry 15). -/
opaque lnUp : BitVec 32 → Bool

/-- R228: which of the values within 2 ulp the tanh returns (log entry 15). -/
opaque tanhPick : BitVec 32 → Nat

/-- R59, R604: nanoseconds from the detection of a delay to the worst-case completion bound, where the manual gives no formula.
The `n`-th draw (log entry 16). -/
opaque delayNs : Nat → Nat

/-- R323, R324: how many steps of the ladder a read that has not come back has run, 0 the first alone. The `n`-th draw (log entry 85). -/
opaque ladderStep : Nat → Nat

/-- R365: the epoch that the true random source gives. The `n`-th draw (log entry 17). -/
opaque epochPick : Nat → BitVec 8

/-- R346, R349: this device's fixed transmit and receive pipeline delays on a port, in fabric-time units; the manual gives no
figure (log entry 18). -/
opaque txDelay : Nat → Nat
opaque rxDelay : Nat → Nat

/-- R376: how long an RNR asks its sender to wait; the manual gives the range. The `n`-th draw (log entry 19). -/
opaque retryNs : Nat → Nat

/-- R373: which context leaves the full on-die cache; the manual gives its size and not the choice. The `n`-th draw (log
entry 20). -/
opaque evictPick : Nat → Nat

/-- R491, R521: the SHA-256 that the signature of an image the device wrote itself covers; the model holds no bytes of it. The
`n`-th draw (log entry 21). -/
opaque derivedDigest : Nat → BitVec 256

/-- R538: SHA-256 of the mask-ROM contents; the manual gives no contents (log entry 22). -/
opaque romDigest : BitVec 256

/-- R535: an ECDSA signature of the security engine; the manual fixes the algorithm and not its random number. The `n`-th draw
(log entry 23). -/
opaque signature : Nat → BitVec 512

/-- R216, R378: fields of a snapshot record that the manual names without giving their coding: the dispatcher's tag of a request, the
operations of a slice, the core and tree node it merges to, and a channel's entry in the wait table (log entry 24). -/
opaque sliceTag : Nat → Nat
opaque sliceOps : Nat → Nat
opaque mergeTo : Nat → Nat → Nat
opaque waitEntry : Nat → Nat

/-- R451: the logs that Get Supported Logs lists, with their sizes, and their bytes; the manual names none (log entry 25). -/
opaque supportedLogs : List (BitVec 128 × Nat)
opaque logByte : BitVec 128 → Nat → BitVec 8

/-- R538: measurement blocks 2 to 4 of a device that has booted no bank or runs no timetable; the manual gives no value (log entry
26). -/
opaque noMeasurement : Nat → BitVec 256

/-- R255, R546: what a T1 address outside the allocated homes holds; the manual gives the pools' sizes and not their places. Kind and
two indices: 0 nothing, 1 staging slot, 2 seat or cold record, 3 directory slot, 4 object record, 5 line of a region (region, line),
6 channel context, 7 checkpoint snapshot buffer, other values another structure (log entry 27). -/
opaque fixedUse : Nat → Nat × Nat × Nat

end Sys2Proof.Config
end

