-- ==== Sys2Proof/Machine/Float.lean ====
section
/-! DEFINITION. The arithmetic of the attention cores (R195, R197, R209, R221 to R223, R227 to R229): IEEE 754 binary32 with
round to nearest, ties to even, the formats of R110, and the functions exp, ln and tanh within their bounds. -/

namespace Sys2Proof.Machine.Fp

/-! ## Formats -/

/-- A binary format: precision (with the hidden bit) and exponent bits. -/
structure Spec where
  prec : Nat
  ebits : Nat

def f32 : Spec := { prec := 24, ebits := 8 }
def bf16 : Spec := { prec := 8, ebits := 8 }
def fp16 : Spec := { prec := 11, ebits := 5 }
def e5m2 : Spec := { prec := 3, ebits := 5 }
def e4m3 : Spec := { prec := 4, ebits := 4 }

/-- Exponent of the last place of a subnormal. -/
def Spec.emin (f : Spec) : Int := 3 - 2 ^ (f.ebits - 1) - (f.prec : Int)

/-- A value: not a number, an infinity, or m × 2^e with its sign. -/
inductive Num
  | nan
  | inf (neg : Bool)
  | fin (neg : Bool) (m : Nat) (e : Int)
  deriving DecidableEq, Repr

/-- The value of a bit pattern of an IEEE format. -/
def unpack (f : Spec) (b : Nat) : Num :=
  let frac := b % 2 ^ (f.prec - 1)
  let field := b / 2 ^ (f.prec - 1) % 2 ^ f.ebits
  let neg := decide (b / 2 ^ (f.prec - 1 + f.ebits) % 2 = 1)
  if field = 2 ^ f.ebits - 1 then (if frac = 0 then .inf neg else .nan)
  else if field = 0 then .fin neg frac f.emin
  else .fin neg (frac + 2 ^ (f.prec - 1)) (f.emin + (field - 1))

/-- R197: the value of an E4M3 pattern: no infinity, and the patterns S.1111.111 are NaN. -/
def unpackE4m3 (b : Nat) : Num :=
  let neg := decide (b / 128 % 2 = 1)
  if b % 128 = 127 then .nan
  else if b / 8 % 16 = 0 then .fin neg (b % 8) e4m3.emin
  else .fin neg (b % 8 + 8) (e4m3.emin + (b / 8 % 16 - 1 : Int))

/-- R227: m × 2^e rounded to nearest, ties to even, to a significand of the format's precision. -/
def roundTo (f : Spec) (m : Nat) (e : Int) : Nat × Int :=
  let e' := max (e + (Nat.log2 m + 1 : Int) - f.prec) f.emin
  if e' ≤ e then (m * 2 ^ (e - e').toNat, e')
  else
    let k := (e' - e).toNat
    let q := m / 2 ^ k
    let r := m % 2 ^ k
    (if 2 ^ (k - 1) < r ∨ (r = 2 ^ (k - 1) ∧ q % 2 = 1) then q + 1 else q, e')

/-- The bits below the sign of a rounded magnitude; beyond the finite range an infinity. -/
def packMag (f : Spec) (m : Nat) (e : Int) : Nat :=
  let top := (2 ^ f.ebits - 1) * 2 ^ (f.prec - 1)
  if m < 2 ^ (f.prec - 1) then m
  else min top ((e - f.emin + 1).toNat * 2 ^ (f.prec - 1) + (m - 2 ^ (f.prec - 1)))

/-- A magnitude rounded into a format, with its sign bit. -/
def packNum (f : Spec) (neg : Bool) (m : Nat) (e : Int) : Nat :=
  let (m', e') := roundTo f m e
  (if neg then 2 ^ (f.prec - 1 + f.ebits) else 0) + (if m = 0 then 0 else packMag f m' e')

/-- A binary32 pattern. -/
abbrev F := BitVec 32

/-- The value of a binary32 pattern. -/
def F.num (a : F) : Num := unpack f32 a.toNat

/-- m × 2^e in binary32. -/
def mk (neg : Bool) (m : Nat) (e : Int) : F := BitVec.ofNat 32 (packNum f32 neg m e)

def posInf : F := 0x7F800000
def negInf : F := 0xFF800000
def one : F := 0x3F800000

/-- An infinity of either sign. -/
def infOf (neg : Bool) : F := if neg then negInf else posInf

/-- The NaN that an operation on `a` and `b` returns. -/
def nanOf (a b : F) : F := 0x7FC00000 ||| (Config.nanPayload a b &&& 0x803FFFFF)

def isNaN (a : F) : Bool := decide (a.num = .nan)

/-! ## Operations (R227) -/

/-- The exact signed integer of a finite value in units of 2^e0, for e0 at or below its exponent. -/
def scaled (neg : Bool) (m : Nat) (e e0 : Int) : Int :=
  if neg then -((m * 2 ^ (e - e0).toNat : Nat) : Int) else ((m * 2 ^ (e - e0).toNat : Nat) : Int)

/-- Sum. -/
def add (a b : F) : F :=
  match a.num, b.num with
  | .nan, _ => nanOf a b
  | _, .nan => nanOf a b
  | .inf s, .inf t => if s = t then a else nanOf a b
  | .inf _, _ => a
  | _, .inf _ => b
  | .fin s m e, .fin t n d =>
    let e0 := min e d
    let v := scaled s m e e0 + scaled t n d e0
    if v = 0 then mk (s && t) 0 0 else mk (decide (v < 0)) v.natAbs e0

/-- The value with its sign changed. -/
def neg (a : F) : F := a ^^^ 0x80000000

/-- Difference. -/
def sub (a b : F) : F := add a (neg b)

/-- Product: exact, rounded once into binary32. -/
def mul (a b : F) : F :=
  match a.num, b.num with
  | .nan, _ => nanOf a b
  | _, .nan => nanOf a b
  | .inf s, .inf t => infOf (s != t)
  | .inf s, .fin t n _ => if n = 0 then nanOf a b else infOf (s != t)
  | .fin s m _, .inf t => if m = 0 then nanOf a b else infOf (s != t)
  | .fin s m e, .fin t n d => mk (s != t) (m * n) (e + d)

/-- R228: quotient, correctly rounded. -/
def div (a b : F) : F :=
  match a.num, b.num with
  | .nan, _ => nanOf a b
  | _, .nan => nanOf a b
  | .inf _, .inf _ => nanOf a b
  | .inf s, .fin t _ _ => infOf (s != t)
  | .fin s _ _, .inf t => mk (s != t) 0 0
  | .fin s m e, .fin t n d =>
    if n = 0 then (if m = 0 then nanOf a b else infOf (s != t))
    else
      let k := 64 + Nat.log2 n
      let q := m * 2 ^ k / n
      mk (s != t) (2 * q + (if m * 2 ^ k % n = 0 then 0 else 1)) (e - d - k - 1)

/-- Strict order; false with a NaN. -/
def lt (a b : F) : Bool :=
  match a.num, b.num with
  | .nan, _ => false
  | _, .nan => false
  | .inf s, .inf t => s && !t
  | .inf s, .fin _ _ _ => s
  | .fin _ _ _, .inf t => !t
  | .fin s m e, .fin t n d => decide (scaled s m e (min e d) < scaled t n d (min e d))

/-- R229: the greater; a NaN when either operand is one. -/
def fmax (a b : F) : F := if isNaN a || isNaN b then nanOf a b else if lt a b then b else a

/-! ## Conversions (R195, R197, R223) -/

/-- R197: an exact value of a narrower format in binary32. -/
def widen (bits : Nat) (n : Num) : F :=
  match n with
  | .nan => nanOf (BitVec.ofNat 32 bits) 0
  | .inf s => infOf s
  | .fin s m e => mk s m e

/-- An element of a stored or query format (codes of R110) in binary32. -/
def ofElem (code bits : Nat) : F :=
  match code with
  | 0 => widen bits (unpack bf16 bits)
  | 1 => widen bits (unpack fp16 bits)
  | 2 => widen bits (unpackE4m3 bits)
  | _ => widen bits (unpack e5m2 bits)

/-- R195: a binary32 value rounded into an IEEE format; a NaN gives the default NaN of R229. -/
def narrow (f : Spec) (a : F) : Nat :=
  match a.num with
  | .nan => 2 ^ (f.prec - 1 + f.ebits) - 2 ^ (f.prec - 2)
  | .inf s => (if s then 2 ^ (f.prec - 1 + f.ebits) else 0) + (2 ^ f.ebits - 1) * 2 ^ (f.prec - 1)
  | .fin s m e => packNum f s m e

/-- R223: a value rounded to the precision of a narrower format, kept in binary32. -/
def roundVia (f : Spec) (a : F) : F :=
  match a.num with
  | .nan => nanOf a 0
  | .inf _ => a
  | .fin s m e => let (m', e') := roundTo f m e; if m = 0 then a else mk s m' e'

/-- R223: the probability as the value product takes it: 0 BF16 rate, 1 FP16 rate, 2 FP8 rate (E4M3 of p × 256, the factor
removed exactly). -/
def roundP (arith : Nat) (p : F) : F :=
  match arith with
  | 0 => roundVia bf16 p
  | 1 => roundVia fp16 p
  | _ => mul (roundVia e4m3 (mul p 0x43800000)) 0x3B800000

/-! ## exp, ln and tanh (R228), with 200 fractional bits -/

/-- ln 2 × 2^200, rounded down. -/
def ln2Fix : Nat := 0xb17217f7d1cf79abc9e3b39803f2f6af40f343267298b62d8a

/-- e^(−r) × 2^200 for r × 2^200 = `r`, by its series; `i` is the index of the next term. -/
def expSeries (r : Nat) : Nat → Nat → Int → Int
  | 0, _, _ => 0
  | n + 1, i, t => t + expSeries r n (i + 1) (-(t * r) / ((2 ^ 200 * i : Nat) : Int))

/-- e^(−y) as a significand and exponent, for y × 2^200 = `y`. -/
def expNeg (y : Nat) : Nat × Int :=
  ((expSeries (y % ln2Fix) 64 1 (2 ^ 200 : Nat)).toNat, -200 - (y / ln2Fix : Int))

/-- The binary32 magnitude at or below m × 2^e. -/
def floorMag (m : Nat) (e : Int) : Nat :=
  if m = 0 then 0
  else
    let e' := max (e + (Nat.log2 m + 1 : Int) - 24) f32.emin
    packMag f32 (if e' ≤ e then m * 2 ^ (e - e').toNat else m / 2 ^ (e' - e).toNat) e'

/-- A finite magnitude in units of 2^−200. -/
def fix200 (m : Nat) (e : Int) : Nat := if 0 ≤ e + 200 then m * 2 ^ (e + 200).toNat else m / 2 ^ (-(e + 200)).toNat

/-- R228: exp, faithful: exp(0) is 1, exp(−∞) is 0; any other result is one of the two neighbours of the exact value. -/
def exp (a : F) : F :=
  match a.num with
  | .nan => nanOf a 0
  | .inf s => if s then 0 else posInf
  | .fin s m e =>
    if m = 0 then one
    else
      let up := if Config.expUp a then 1 else 0
      if 1024 ≤ fix200 m e / 2 ^ 200 then (if s then BitVec.ofNat 32 up else BitVec.ofNat 32 (0x7F7FFFFF + up))
      else
        let (v, d) := expNeg (fix200 m e)
        if s then BitVec.ofNat 32 (floorMag v d + up)
        else BitVec.ofNat 32 (min 0x7F7FFFFF (floorMag (2 ^ 400 / v) (-400 - d)) + up)

/-- Σ t^(2i+1) / (2i+1) × 2^200, for t × 2^200 = `t`. -/
def atanhSeries (t2 : Nat) : Nat → Nat → Nat → Nat
  | 0, _, _ => 0
  | n + 1, i, t => t / (2 * i + 1) + atanhSeries t2 n (i + 1) (t * t2 / 2 ^ 200)

/-- ln of m × 2^e in units of 2^−200. -/
def lnFix (m : Nat) (e : Int) : Int :=
  let k := Nat.log2 m
  let one := 2 ^ k
  let t := (m - one) * 2 ^ 200 / (m + one)
  2 * (atanhSeries (t * t / 2 ^ 200) 70 0 t : Int) + (e + k) * (ln2Fix : Int)

/-- R228: ln, faithful. -/
def ln (a : F) : F :=
  match a.num with
  | .nan => nanOf a 0
  | .inf s => if s then nanOf a 0 else posInf
  | .fin s m e =>
    if m = 0 then negInf
    else if s then nanOf a 0
    else if a = one then 0
    else
      let v := lnFix m e
      BitVec.ofNat 32 ((if v < 0 then 2 ^ 31 else 0) + floorMag v.natAbs (-200) + (if Config.lnUp a then 1 else 0))

/-- The pattern of an ordinal: the magnitude with its sign. -/
def ofOrdinal (n : Int) : F := BitVec.ofNat 32 ((if n < 0 then 2 ^ 31 else 0) + n.natAbs)

/-- Magnitude at or below tanh of m × 2^e. -/
def tanhFloor (m : Nat) (e : Int) (mag : Nat) : Nat :=
  let y := fix200 m e
  if y < 2 ^ 140 then mag - 1
  else if 64 * 2 ^ 200 ≤ y then 0x3F7FFFFF
  else
    let (v, d) := expNeg (2 * y)
    let a := v / 2 ^ (-200 - d).toNat
    floorMag ((2 ^ 200 - a) * 2 ^ 200 / (2 ^ 200 + a)) (-200)

/-- R228: tanh, within 2 ulp; tanh(±∞) is ±1. -/
def tanh (a : F) : F :=
  match a.num with
  | .nan => nanOf a 0
  | .inf s => if s then neg one else one
  | .fin s m e =>
    let pick := Config.tanhPick a
    if m = 0 then ofOrdinal ((pick % 5 : Int) - 2)
    else
      let r := (tanhFloor m e (a.toNat % 2 ^ 31) : Int) - 1 + (pick % 4 : Int)
      ofOrdinal (if s then -r else r)

/-! ## Sums (R222) -/

/-- One level of a pairwise tree. -/
def pairUp : List F → List F
  | a :: b :: rest => add a b :: pairUp rest
  | l => l

/-- The pairwise tree over a list of 2^n terms. -/
def treeSum : Nat → List F → F
  | 0, l => l.headD 0
  | n + 1, l => treeSum n (pairUp l)

/-- R222: sum16. -/
def sum16 (l : List F) : F := treeSum 4 l

/-- R222: the groups of 32 in order, each through its tree; a last group of 16 through sum16. -/
def groupSums : Nat → List F → List F
  | 0, _ => []
  | n + 1, l =>
    if l = [] then []
    else if l.length < 32 then [sum16 l]
    else treeSum 5 (l.take 32) :: groupSums n (l.drop 32)

/-- R222: the dot product of two element lists. -/
def dot (a b : List F) : F :=
  match groupSums (a.length / 32 + 1) (List.zipWith mul a b) with
  | [] => 0
  | g :: rest => rest.foldl add g

end Sys2Proof.Machine.Fp
end

