-- ==== Sys2Proof/Machine/Flags.lean ====
section
/-! DEFINITION. The status words of the PK-7 (R6 to R8, R562), each under the mnemonic of its owning table, and the CXL log of
each event (R543). -/

namespace Sys2Proof.Machine.St

/-- R7: success. -/
def ok : Status := 0x0000

/-! ## KVS_ (R133) -/

def kvsBadHandle : Status := 0x1001
def kvsTenant : Status := 0x1002
def kvsNoSeat : Status := 0x1003
def kvsNoHandle : Status := 0x1004
def kvsModelAbsent : Status := 0x1005
def kvsFormatMismatch : Status := 0x1006
def kvsPosition : Status := 0x1007
def kvsLengthLimit : Status := 0x1008
def kvsSkew : Status := 0x1009
def kvsTokenMismatch : Status := 0x100A
def kvsBattFull : Status := 0x100B
def kvsResuming : Status := 0x100C
def kvsState : Status := 0x100D
def kvsRange : Status := 0x100E
def kvsUnmapped : Status := 0x100F
def kvsLost : Status := 0x1010
def kvsScope : Status := 0x1011
def kvsGeometry : Status := 0x1012
def kvsSealHome : Status := 0x1013
def kvsParkAborted : Status := 0x1014

/-! ## PFX_ (R178) -/

def pfxScope : Status := 0x2001
def pfxModel : Status := 0x2002
def pfxRange : Status := 0x2003
def pfxStale : Status := 0x2004
def pfxAttachState : Status := 0x2005
def pfxFormat : Status := 0x2006
def pfxDirFull : Status := 0x2007
def pfxPlistFull : Status := 0x2008
def pfxFalseHit : Status := 0x2009
def pfxMultiHit : Status := 0x200A
def pfxPinFull : Status := 0x200B

/-! ## ATT_ (R213) -/

def attStream : Status := 0x3001
def attLayout : Status := 0x3002
def attRange : Status := 0x3003
def attModelAbsent : Status := 0x3004
def attStatsTarget : Status := 0x3005
def attSegmentErrors : Status := 0x3006
def attModelMismatch : Status := 0x3007
def attFormatPair : Status := 0x3008
def attFormatNarrower : Status := 0x3009
def attKeyLimit : Status := 0x300A
def attPosition : Status := 0x300B
def attPartial : Status := 0x300C
def attFollowup : Status := 0x300D

/-! ## TIR_ (R304) -/

def tirObjectLost : Status := 0x4001
def tirPageLost : Status := 0x4002
def tirRefetch : Status := 0x4003
def tirBypassLate : Status := 0x4004
def tirPromoteLate : Status := 0x4005
def tirWeightLate : Status := 0x4006
def tirT1Full : Status := 0x4007
def tirPromoteQueueFull : Status := 0x4008
def tirObjState : Status := 0x4009
def tirRange : Status := 0x400A
def tirTenant : Status := 0x400B
def tirNoObject : Status := 0x400C
def tirWstreamBusy : Status := 0x400D
def tirLostTableFull : Status := 0x400E

/-! ## FLS_ (R342) -/

def flsReadRetry : Status := 0x5001
def flsStripeRebuild : Status := 0x5002
def flsReadSlow : Status := 0x5003
def flsUncorrectable : Status := 0x5004
def flsProgramFail : Status := 0x5005
def flsEraseFail : Status := 0x5006
def flsDieFailed : Status := 0x5007
def flsBandRetired : Status := 0x5008
def flsNoFreeBand : Status := 0x5009
def flsGeometry : Status := 0x500A
def flsDieUnsupported : Status := 0x500B
def flsCkptAbort : Status := 0x500C
def flsCkptFallback : Status := 0x500D
def flsCkptLost : Status := 0x500E
def flsRecoveryLoss : Status := 0x500F
def flsGroupDegraded : Status := 0x5010
def flsRange : Status := 0x5011

/-! ## IAT_ (R83) -/

def iatLate : Status := 0x6001
def iatLateStart : Status := 0x6002
def iatSlotMissed : Status := 0x6003
def iatUnsync : Status := 0x6004
def iatVariantAbsent : Status := 0x6005
def iatTtInvalid : Status := 0x6006
def iatActivationHorizon : Status := 0x6007
def iatLockTimeout : Status := 0x6008
def iatGmChange : Status := 0x6009
def iatHoldover : Status := 0x600A
def iatPpsMissing : Status := 0x600B
def iatLateLimit : Status := 0x600C
def iatDistLate : Status := 0x600D
def iatBaseMisaligned : Status := 0x600E
def iatBudget : Status := 0x600F
def iatConfigRange : Status := 0x6010
def iatOverrun : Status := 0x6011
def iatSlotRemoved : Status := 0x6012

/-! ## AUV_ (R390) -/

def auvNoChannel : Status := 0x7001
def auvTenant : Status := 0x7002
def auvOpcode : Status := 0x7003
def auvAccess : Status := 0x7004
def auvMalformed : Status := 0x7005
def auvReasmTimeout : Status := 0x7006
def auvRnr : Status := 0x7007
def auvRnrLimit : Status := 0x7008
def auvUnreachable : Status := 0x7009
def auvPeerReset : Status := 0x700A
def auvWaitTimeout : Status := 0x700B
def auvChainAborted : Status := 0x700C
def auvWaitTableFull : Status := 0x700D
def auvChannelClosed : Status := 0x700E
def auvChannelBusy : Status := 0x700F
def auvRange : Status := 0x7010
def auvPrivViolation : Status := 0x7011
def auvSpoof : Status := 0x7012
def auvPathFailed : Status := 0x7013
def auvPathRestored : Status := 0x7014
def auvCtxFetch : Status := 0x7015
def auvOrderHold : Status := 0x7016
def auvPortUp : Status := 0x7017
def auvPortDegraded : Status := 0x7018
def auvPortMiswired : Status := 0x7019
def auvPartnerRefused : Status := 0x701A
def auvTrainTimeout : Status := 0x701B
def auvRetrain : Status := 0x701C
def auvEventLost : Status := 0x701D

/-! ## SHP_ (R417) -/

def shpLateStart : Status := 0x8001
def shpGclInvalid : Status := 0x8002
def shpBaseMisaligned : Status := 0x8003
def shpRange : Status := 0x8004
def shpPoliced : Status := 0x8005
def shpTransitDrop : Status := 0x8006
def shpGclDiscarded : Status := 0x8007

/-! ## PAR_ (R450) -/

def parSuspect : Status := 0x9001
def parMirrorPaused : Status := 0x9002
def parMirrorResumed : Status := 0x9003
def parTakeover : Status := 0x9004
def parSeqLost : Status := 0x9005
def parSeqTruncated : Status := 0x9006
def parIsolated : Status := 0x9007
def parReplaced : Status := 0x9008
def parRejoined : Status := 0x9009
def parMirrorLag : Status := 0x900A
def parCommitHold : Status := 0x900B
def parNotOwner : Status := 0x900C
def parRouteDown : Status := 0x900D
def parForceRefused : Status := 0x900E
def parJoinTimeout : Status := 0x900F
def parCommitMismatch : Status := 0x9010

/-! ## CXL_ (R488) -/

def cxlVersionConflict : Status := 0xA001
def cxlChecksum : Status := 0xA002
def cxlTenant : Status := 0xA003
def cxlRange : Status := 0xA004
def cxlNoSpace : Status := 0xA005
def cxlNoRegion : Status := 0xA006
def cxlRegionState : Status := 0xA007
def cxlRegionInUse : Status := 0xA008
def cxlVersionLimit : Status := 0xA009
def cxlWindow : Status := 0xA00A
def cxlNotOperator : Status := 0xA00B
def cxlLdDisabled : Status := 0xA00C
def cxlPoisoned : Status := 0xA00D
def cxlHostFailed : Status := 0xA00E
def cxlRegionVersion : Status := 0xA00F
def cxlRoWrite : Status := 0xA010
def cxlHintPartial : Status := 0xA011

/-! ## CFG_ (R523) -/

def cfgBusy : Status := 0xB001
def cfgNoTxn : Status := 0xB002
def cfgNotHolder : Status := 0xB003
def cfgTxnState : Status := 0xB004
def cfgItemInvalid : Status := 0xB005
def cfgStageFull : Status := 0xB006
def cfgTxnFailed : Status := 0xB007
def cfgTxnExpired : Status := 0xB008
def cfgProfileAbsent : Status := 0xB009
def cfgImageInvalid : Status := 0xB00A
def cfgImageSeq : Status := 0xB00B
def cfgSecurityVersion : Status := 0xB00C
def cfgSignature : Status := 0xB00D
def cfgImageSize : Status := 0xB00E
def cfgFwPending : Status := 0xB00F
def cfgNvmWrite : Status := 0xB010
def cfgPersisted : Status := 0xB011
def cfgBankFallback : Status := 0xB012
def cfgRecovery : Status := 0xB013
def cfgStepTimeout : Status := 0xB014
def cfgModelShort : Status := 0xB015
def cfgModelTight : Status := 0xB016
def cfgModelIdBusy : Status := 0xB017
def cfgModelInUse : Status := 0xB018
def cfgRomFail : Status := 0xB019
def cfgDramTrain : Status := 0xB01A
def cfgNoFlash : Status := 0xB01B

/-! ## SEC_ (R540) -/

def secNoIdentity : Status := 0xC001
def secIdentityMismatch : Status := 0xC002
def secSignerUnknown : Status := 0xC003
def secStoreFallback : Status := 0xC004
def secBundleInvalid : Status := 0xC005
def secIdentityInstalled : Status := 0xC006

/-! ## RAS_ (R562) -/

def rasResidue : Status := 0xD001
def rasCoreFenced : Status := 0xD002
def rasCoreAbsent : Status := 0xD003
def rasDramCorrected : Status := 0xD004
def rasDramUncorrectable : Status := 0xD005
def rasDramChannelLost : Status := 0xD006
def rasFrameRetired : Status := 0xD007
def rasRetireTableFull : Status := 0xD008
def rasSramCorrected : Status := 0xD009
def rasSramUncorrectable : Status := 0xD00A
def rasHandshake : Status := 0xD00B
def rasMgmtWatchdog : Status := 0xD00C
def rasMgmtReset : Status := 0xD00D
def rasSelfFence : Status := 0xD00E
def rasVerifyDisagree : Status := 0xD00F
def rasReclaimHalted : Status := 0xD010
def rasRange : Status := 0xD011

/-! ## PWR_ (R579) -/

def pwrBudgetClamp : Status := 0xE001
def pwrRefused : Status := 0xE002
def pwrDrainTimeout : Status := 0xE003
def pwrAborted : Status := 0xE004
def pwrPendingOn : Status := 0xE005
def pwrWake : Status := 0xE006
def pwrRange : Status := 0xE007

end Sys2Proof.Machine.St

namespace Sys2Proof.Machine

/-- R543: the event status words of the Warning log. -/
def warningLog : List Status :=
  [St.kvsSealHome, St.pfxDirFull, St.pfxPlistFull, St.pfxPinFull, St.pfxFalseHit, St.tirT1Full, St.flsProgramFail,
   St.flsEraseFail, St.flsBandRetired, St.flsNoFreeBand, St.flsGeometry, St.flsDieUnsupported, St.flsCkptAbort,
   St.flsCkptFallback, St.iatUnsync, St.iatLockTimeout, St.iatHoldover, St.iatPpsMissing, St.iatDistLate,
   St.auvPrivViolation, St.auvSpoof, St.auvPathFailed, St.auvPortDegraded, St.auvPartnerRefused, St.auvTrainTimeout,
   St.auvEventLost, St.shpGclDiscarded, St.parSuspect, St.parMirrorPaused, St.parMirrorLag, St.parCommitMismatch,
   St.cxlRoWrite, St.cfgTxnFailed, St.cfgTxnExpired, St.cfgSecurityVersion, St.cfgImageSize, St.cfgBankFallback,
   St.cfgStepTimeout, St.cfgModelShort, St.secNoIdentity, St.secSignerUnknown, St.secStoreFallback,
   St.secBundleInvalid, St.rasCoreFenced, St.rasFrameRetired, St.rasRetireTableFull, St.rasHandshake,
   St.rasMgmtWatchdog, St.pwrBudgetClamp]

/-- R543: the event status words of the Failure log. -/
def failureLog : List Status :=
  [St.tirObjectLost, St.tirPageLost, St.tirLostTableFull, St.flsUncorrectable, St.flsDieFailed, St.flsGroupDegraded,
   St.flsCkptLost, St.flsRecoveryLoss, St.iatVariantAbsent, St.auvUnreachable, St.auvPortMiswired, St.parTakeover,
   St.parSeqLost, St.parSeqTruncated, St.parIsolated, St.parReplaced, St.parJoinTimeout, St.cxlHostFailed,
   St.cfgImageInvalid, St.cfgNvmWrite, St.secIdentityMismatch, St.rasCoreAbsent, St.rasDramUncorrectable,
   St.rasDramChannelLost, St.rasSramUncorrectable, St.rasMgmtReset, St.rasSelfFence, St.rasVerifyDisagree,
   St.rasReclaimHalted]

/-- R543: the event status words of the Fatal log. -/
def fatalLog : List Status :=
  [St.cfgRecovery, St.cfgRomFail, St.cfgDramTrain, St.cfgNoFlash]

/-- R543: the CXL log of an event: 0 Informational, 1 Warning, 2 Failure, 3 Fatal. -/
def logClass (w : Status) : Nat :=
  if fatalLog.contains w then 3 else if failureLog.contains w then 2 else if warningLog.contains w then 1 else 0

/-- R6: the subsystem of a status word. -/
def subsystem (w : Status) : Nat := w.toNat / 4096

end Sys2Proof.Machine
end

