-- ==== Sys2Proof/Machine/State.lean ====
section
/-! DEFINITION. The state of the PK-7: plain data, every register, table, queue, mode and pin the spec gives it, and the machine right after reset. -/

namespace Sys2Proof.Machine

/-! ## Fabric time and the timetable (02_iatas_time.md) -/

/-- R43: the synchronisation states. -/
inductive SyncState | acquire | locked | holdover | free
  deriving DecidableEq, Repr

/-- R42: the last SYNC heard from the neighbour on one link. -/
structure SyncPeer where
  /-- R42: the grandmaster the neighbour follows. -/
  gmDevice : Nat
  /-- R42: the announce counter it carries. -/
  announce : BitVec 16
  /-- R42: its hop count from the grandmaster. -/
  hops : Nat
  /-- R45: the rank of that grandmaster. -/
  gmRank : Nat
  /-- R43: the fabric time at which it was heard. -/
  heardAt : Time
  deriving DecidableEq, Repr

/-- R36 to R48, R82: the synchronisation state of the device. -/
structure Sync where
  /-- R36: fabric time as this device holds it, the value of IAT_FABRIC_TIME. -/
  time : Time
  /-- R82: the high half that a read of the low half latched. -/
  latchedHigh : Option (BitVec 32)
  /-- R43: IAT_STATUS.sync_state. -/
  state : SyncState
  /-- R43: the time at which that state was entered. -/
  since : Time
  /-- R43: the device is still in the ACQUIRE of its start-up. -/
  starting : Bool
  /-- R43: consecutive exchanges with the offset within ±4 ns. -/
  good : Nat
  /-- R43: consecutive exchanges with the offset outside ±4 ns. -/
  bad : Nat
  /-- R44: the determinism promise of R54 is in force. -/
  promise : Bool
  /-- R43: the end of the running sync interval's silence watch: the last SYNC heard on any link. -/
  lastSync : Time
  /-- R43: a SYNC has been heard on some link since start-up. -/
  heard : Bool
  /-- R42: IAT_STATUS.gm_device. -/
  gmDevice : Nat
  /-- R42: the elected grandmaster's announce counter as last heard. -/
  gmAnnounce : BitVec 16
  /-- R43: the time at which that counter last changed. -/
  gmAnnounceAt : Time
  /-- R42: this device's hop count from the grandmaster. -/
  hops : Nat
  /-- R48: IAT_STATUS.gm_self. -/
  gmSelf : Bool
  /-- R42: the last SYNC of each neighbour, by port code. -/
  peers : Map SyncPeer
  /-- R42: the port of the followed neighbour. -/
  followed : Option Nat
  /-- R43: IAT_OFFSET, in fabric-time units. -/
  offset : BitVec 32
  /-- R43: the correction still to be slewed, in units, positive when the device must gain time. -/
  slew : Int
  /-- R43: the limit of the running slew, in parts per million. -/
  slewPpm : Nat
  /-- R41: a SYNC exchange is open on these links. -/
  exchanges : List Nat
  /-- R46: the time since which the named grandmaster has been continuously reachable. -/
  namedSince : Option Time
  /-- R48: the last edge of PPS_IN taken. -/
  ppsAt : Option Time
  /-- R73: IAT_STATUS.late_start. -/
  lateStart : Bool
  /-- R70: IAT_STATUS.variant_absent. -/
  variantAbsent : Bool
  /-- R48: IAT_STATUS.pps_missing. -/
  ppsMissing : Bool
  deriving DecidableEq, Repr

/-- R601: an accepted timetable set whose effective time has not come. -/
structure PendingTt where
  /-- R601: the timetables, one per variant and profile. -/
  set : List Timetable
  /-- R73: the effective time. -/
  effective : Time
  /-- R601, R520: the gate lists that it brings along. -/
  lists : List GateList
  deriving DecidableEq, Repr

/-- R56: what one ATTEND slot of one frame has been charged. -/
structure SlotCharge where
  frame : Frame
  slot : Nat
  rows : Nat
  bytes : Nat
  deriving DecidableEq, Repr

/-- R59, R605: the rows assigned to one result slot of one frame, and whether the slot belongs to a run. -/
structure ResultUse where
  frame : Frame
  slot : Nat
  stream : Nat
  rows : Nat
  run : Bool
  /-- R59: the key of the request that holds it. -/
  request : Nat
  deriving DecidableEq, Repr

/-- R64: a batch-table change accepted and not yet in force. -/
structure BatchChange where
  stream : Nat
  position : Nat
  /-- R132: the handle that joins; none empties the position. -/
  handle : Option (BitVec 32)
  /-- R64: the time of acceptance. -/
  since : Time
  deriving DecidableEq, Repr

/-- R49 to R79, R601, R602: the running and pending timetables and the frames. -/
structure Schedule where
  /-- R28, R68: the timetables the device may run, one per profile and variant. -/
  set : List Timetable
  /-- R69: the timetable in force. -/
  running : Option Timetable
  /-- R602: the time from which its cycles are counted. -/
  origin : Time
  /-- R50: IAT_FRAME, the number of the current frame. -/
  frame : Frame
  /-- R50: the start of the current frame. -/
  frameStart : Time
  /-- R602: IAT_TT_ACTIVE.frame_pos. -/
  framePos : Nat
  /-- R79: timetabled service has begun. -/
  started : Bool
  /-- R79: the frame number and boundary adopted from a neighbour. -/
  adopted : Option (BitVec 16 × Frame × Time)
  /-- R601: the one pending timetable. -/
  pending : Option PendingTt
  /-- R69: IAT_STATUS.variant. -/
  variant : Variant
  /-- R27: IAT_STATUS.profile. -/
  profile : Profile
  /-- R69: a variant switch declared, with the time of its declaration. -/
  switchAt : Option Time
  /-- R70: every ATTEND and WSTREAM is answered with IAT_VARIANT_ABSENT. -/
  absentService : Bool
  /-- R56: the charges of the ATTEND slots of the frames in flight. -/
  charges : List SlotCharge
  /-- R59: the assignments of result slots. -/
  uses : List ResultUse
  /-- R132: the batch tables, by stream × 4,096 + position. -/
  batch : Map (BitVec 32)
  /-- R64: batch changes waiting for their frame boundary. -/
  batchChanges : List BatchChange
  deriving DecidableEq, Repr

/-! ## Sequences, seats and pages (03_sequences_and_pages.md) -/

/-- R92: the sequence states, codes 1 to 6. -/
inductive SeqState | seated | parking | parked | resuming | closing | lost
  deriving DecidableEq, Repr

/-- R257, R267: an extent in the flash log, in the form of a level-3 entry of type 0b10 (R106). -/
structure Extent where
  unit : Nat
  len4k : Nat
  codec : Nat
  deriving DecidableEq, Repr

/-- Where the one authoritative copy of a datum lies (R117, R252): a Batt staging slot, an address of T1 or an extent of T2. -/
inductive Home
  | staging (slot : Nat)
  | t1 (addr : Nat)
  | t2 (ext : Extent)
  deriving DecidableEq, Repr

/-- R90: an entry of the open-page table. -/
structure OpenEntry where
  /-- R90: index of the layer's current page. -/
  pageIndex : Nat
  /-- R90: tokens written in it. -/
  fill : Nat
  /-- R90: the current page is a sealed page that the next token must first copy. -/
  cow : Bool
  /-- R90: the staging slot of the open page. -/
  slot : Option Nat
  deriving DecidableEq, Repr

/-- R607: one record of the token log. -/
structure LogRec where
  /-- R607: the block's chain key. -/
  key : BitVec 96
  /-- R607: the block's 16 token IDs. -/
  tokens : List (BitVec 32)
  deriving DecidableEq, Repr

/-- R106, R145, R146: a level-3 entry with its companion: the page it names, and whether it is shared. Type and location
follow from the page's home. -/
structure L3 where
  page : Nat
  shared : Bool
  deriving DecidableEq, Repr

/-- R98: a command held for a resume, with its arrival time. -/
structure Held where
  cmd : Instr
  since : Time
  deriving DecidableEq, Repr

/-- R89: the fields of a cold record that are brought up to date at a park and at every checkpoint, as they last were. -/
structure ColdCopy where
  length : Nat
  sharedTokens : Nat
  tailKey : BitVec 96
  lastFrame : Frame
  deriving DecidableEq, Repr

/-- R89: nothing recorded yet. -/
def ColdCopy.zero : ColdCopy := { length := 0, sharedTokens := 0, tailKey := 0, lastFrame := 0 }

/-- R88, R90, R92: one live sequence: its cold record, and the seat record, pending area and tables of a seated one. -/
structure Seq where
  /-- R84: the handle. -/
  handle : BitVec 32
  /-- R87: tenant. -/
  tenant : Nat
  /-- R87: model. -/
  model : Nat
  /-- R87: sharing scope. -/
  scope : Nat
  /-- R121: stored format. -/
  format : Format
  /-- R129: mirror class. -/
  mirror : MirrorClass
  /-- R92: state. -/
  state : SeqState
  /-- R91: sequence length. -/
  length : Nat
  /-- R88: tokens covered by the attached shared prefix. -/
  sharedTokens : Nat
  /-- R88: greatest layer length. -/
  maxLen : Nat
  /-- R88: seat index when seated. -/
  seat : Option Nat
  /-- R97: the seat index held before the park. -/
  prevSeat : Option Nat
  /-- R88: pt_root and pending_base, T1 addresses. -/
  ptRoot : Nat
  pendingBase : Nat
  /-- R88: pt_extent, the saved-table index. -/
  ptExtent : Option Extent
  /-- R268: the extents that the index lists, in order. -/
  ptSet : List Extent
  /-- R329: the extents of a saved-table set that a relocation is writing. -/
  ptNext : List Extent
  /-- R88: pending_extent. -/
  pendingExtent : Option Extent
  /-- R88: chain key of the last complete block. -/
  tailKey : BitVec 96
  /-- R88: last_frame. -/
  lastFrame : Frame
  /-- R88: geometry of the model, fixed at open. -/
  layers : Nat
  kvHeads : Nat
  headDim : Nat
  /-- R90: open-page table, one entry per layer. -/
  openTable : List OpenEntry
  /-- R90: token ring, by position mod 4,096. -/
  ring : Map (BitVec 32)
  /-- R90: block counters, by block mod 256. -/
  blockCount : Map Nat
  /-- R607: token log, by block. -/
  log : Map LogRec
  /-- R607: token-log directory, T1 address by piece. -/
  logPieces : Map Nat
  /-- R104, R106: level-3 entries, by layer × 65,536 + page index. -/
  l3 : Map L3
  /-- R92, R98: commands held for a resume or for the moves of an aborted park, oldest first. -/
  held : List Held
  /-- R96: the sequence is parked for a waiting request. -/
  evictedFor : Option Nat
  /-- R89: what the cold record says of a seated sequence. -/
  cold : ColdCopy
  deriving DecidableEq, Repr

/-- R149: the states of a page: open, SEALED or RETIRING. -/
inductive PageState | opened | sealed | retiring
  deriving DecidableEq, Repr

/-- R101, R116, R147: one page: its owner, its home and its bytes. -/
structure Page where
  /-- R148: cold-record index of the owner of a private page; none for a shared page. -/
  owner : Option Nat
  /-- R148: layer. -/
  layer : Nat
  /-- R148: page index of a private page. -/
  index : Nat
  /-- R148: generation of the node in the page list's header, of a shared page. -/
  nodeGen : BitVec 32
  /-- R96: T1 address of the page-list entry of a shared page. -/
  plEntry : Nat
  /-- R116: state. -/
  state : PageState
  /-- R117: home. -/
  home : Home
  /-- R99: the geometry of its model and its stored format. -/
  kvHeads : Nat
  headDim : Nat
  format : Format
  /-- R102: the tokens, in slot order, as appended. -/
  toks : List TokenKv
  /-- R147: reference count of a shared page (a private page has one implicit reference). -/
  refs : Nat
  /-- R149: frame in which the last reference dropped. -/
  retireFrame : Frame
  /-- R87: tenant, model and mirror class of its bytes. -/
  tenant : Nat
  model : Nat
  mirror : MirrorClass
  /-- R429: the mirror copy is on the partner. -/
  mirrored : Bool
  deriving DecidableEq, Repr

/-- R96: a request that waits for a seat-pressure eviction. -/
structure SeatWait where
  /-- R96: the model's number of this wait. -/
  id : Nat
  /-- R96: the waiting command. -/
  cmd : Instr
  /-- R96: the time of the first choice. -/
  since : Time
  /-- R96: the sequence chosen. -/
  victim : Option Nat
  deriving DecidableEq, Repr

/-- R84 to R132: the sequence tables of the device. DESIGN CHOICE: log entry 9. -/
structure Kvs where
  /-- R84: live sequences, by cold-record index. -/
  seqs : Map Seq
  /-- R85: gen of every free or live index whose gen is not 0. -/
  gens : Map (BitVec 8)
  /-- R85: the first index of the ascending part of the free list. -/
  freeNext : Nat
  /-- R85: indices above freeNext that are not in the ascending part. -/
  freeSkip : List Nat
  /-- R85: the rest of the free list, first in first out. -/
  freeQueue : List Nat
  /-- R88: handle index by seat. -/
  seats : Map Nat
  /-- R96: requests waiting for a seat, oldest first. -/
  seatWaits : List SeatWait
  /-- R115, R117: staging slots in use, with their size in 4 KiB units and whether they left the pool as a page's home. -/
  staging : Map (Nat × Bool)
  /-- R99: every page the device holds, by the model's page number. -/
  pages : Map Page
  /-- The model's own: next page number, next number of a wait. -/
  nextPage : Nat
  nextWait : Nat
  /-- R115: KVS_BATT_STATUS.full. -/
  battFull : Bool
  deriving DecidableEq, Repr

/-! ## The prefix store (04_prefix_store.md) -/

/-- R135: a scope record. -/
structure Scope where
  salt : BitVec 128
  share : Bool
  adopt : Bool
  compact : Bool
  anchored : Bool
  mirror : MirrorClass
  saltEpoch : BitVec 8
  maxDepth : Nat
  retainK : Nat
  deriving DecidableEq, Repr

/-- R143: the states of a node that is not free. -/
inductive NodeState | pending | live | removing
  deriving DecidableEq, Repr

/-- R140: a node record. -/
structure Node where
  key : BitVec 96
  parent : BitVec 96
  tokens : List (BitVec 32)
  depth : Nat
  refCount : Nat
  gen : BitVec 32
  lastHit : Frame
  plist : Nat
  scope : Nat
  model : Nat
  format : Format
  mirror : MirrorClass
  inArray : Bool
  state : NodeState
  saltEpoch : BitVec 8
  layers : Nat
  children : Nat
  /-- R96: the shared page of each layer, the page list's entries. -/
  pages : List Nat
  deriving DecidableEq, Repr

/-- R153: an entry of the match array: its units and the directory slot it was written for. -/
structure ArrEntry where
  units : List (BitVec 64)
  /-- R158: the slot of the node it names. -/
  slot : Nat
  deriving DecidableEq, Repr

/-- R157: an insertion that waits or moves in a bank. -/
structure ArrInsert where
  bank : Nat
  entry : ArrEntry
  moving : Bool
  deriving DecidableEq, Repr

/-- R148, R262: a pin held: the operation, the page and the location it was granted. -/
structure PinHold where
  op : Nat
  page : Nat
  loc : Home
  deriving DecidableEq, Repr

/-- R149: a pin that waits, with the operation that asked for it. -/
structure PinWait where
  op : Nat
  page : Nat
  since : Time
  deriving DecidableEq, Repr

/-- R134 to R178: the prefix store. -/
structure Pfx where
  /-- R135: the sharing scopes. -/
  scopes : Map Scope
  /-- R141: the node-generation counter. -/
  nodeGen : BitVec 32
  /-- R140: the directory, by slot number bucket × 4 + way. -/
  dir : Map Node
  /-- R163: the round-robin pointer of cuckoo moves. -/
  cuckooPtr : Nat
  /-- R153: the match array, by bank × 8,192 + entry position. -/
  arr : Map ArrEntry
  /-- R160: the key shadow, by bank × 8,192 + entry position. -/
  shadow : Map ArrEntry
  /-- R157, R160: the insert queue. -/
  inserts : List ArrInsert
  /-- R160: the sweep's next row, bank × 8,192 + row. -/
  sweep : Nat
  /-- R148: pin counts, by page number. -/
  pins : Map Nat
  /-- R148: pins held. -/
  pinOps : List PinHold
  /-- R149: pins that wait, oldest first. -/
  pinWaits : List PinWait
  /-- R149: PFX_PIN_FULL has been raised in this episode. -/
  pinEpisode : Bool
  /-- R96, R152: page lists allocated, header generation and entries in use, by T1 address. -/
  plists : Map (BitVec 32 × List Nat)
  /-- R155: PFX_STATUS.multi_hit. -/
  multiHit : Bool
  /-- R166: PFX_STATUS.false_hit. -/
  falseHit : Bool
  /-- R163: PFX_STATUS.dir_full. -/
  dirFull : Bool
  /-- R149: PFX_STATUS.pin_full. -/
  pinFull : Bool
  deriving DecidableEq, Repr

/-! ## Attention (05_attention_requests.md, 06_attention_execution.md) -/

/-- R221: the online softmax state of one row and query head, FP32 bit patterns. -/
structure Soft where
  m : BitVec 32
  l : BitVec 32
  acc : List (BitVec 32)
  deriving DecidableEq, Repr

/-- R286: how a page of a request reaches the cores. -/
inductive PagePath | resident | bypass | wait | followup
  deriving DecidableEq, Repr

/-- R189, R217: one page of a segment's visible-page list, as it stood at arrival. -/
structure ViewPage where
  index : Nat
  page : Nat
  toks : List TokenKv
  path : PagePath
  deriving DecidableEq, Repr

/-- R187, R189, R217: one segment of an accepted request. -/
structure SegView where
  handle : BitVec 32
  status : Status
  format : Format
  known : Bool
  keyEnd : Nat
  widened : Bool
  emptyRows : Bool
  pages : List ViewPage
  deriving DecidableEq, Repr

/-- R216, R218: one slice of a request. -/
structure Slice where
  /-- R219: number of the slice in the request. -/
  g : Nat
  seg : Nat
  kvHead : Nat
  index : Nat
  nSlices : Nat
  /-- R218: ordinals of its pages in the part's visible-page list. -/
  ords : List Nat
  /-- R219: logical core. -/
  core : Nat
  /-- R216: in the core's queue (false: held by the dispatcher). -/
  queued : Bool
  /-- R221: pages done. -/
  next : Nat
  /-- R221: states, by row of the segment and query head. -/
  states : List Soft
  /-- R221: every page has been used. -/
  done : Bool
  deriving DecidableEq, Repr

/-- R224: one node of a merge tree that holds a state. -/
structure TreeNode where
  seg : Nat
  kvHead : Nat
  level : Nat
  index : Nat
  /-- R224: logical core on which it runs. -/
  core : Nat
  /-- R224: states, by row and query head. -/
  states : List Soft
  deriving DecidableEq, Repr

/-- R59, R604: one delay of a result. -/
structure Delay where
  cause : Status
  bound : Time
  deriving DecidableEq, Repr

/-- R59: a slot of one frame with its start. -/
structure SlotRef where
  frame : Frame
  slot : Nat
  start : Time
  deriving DecidableEq, Repr

/-- R225: the finished row block of one segment and KV head, per row and query head of the group: the outputs, the
log-sum-exp or the state. -/
structure Finished where
  seg : Nat
  kvHead : Nat
  states : List Soft
  /-- R225: FP32 outputs after NORM. -/
  outs : List (List (BitVec 32))
  lse : List (BitVec 32)
  deriving DecidableEq, Repr

/-- R185 to R212: one request between its acceptance or refusal and its last RESULT. -/
structure Request where
  rq : Requester
  port : Nat
  msg : AttendMsg
  /-- R54: arrival time. -/
  arrived : Time
  /-- R57: timing status of the RESULT. -/
  timing : Status
  /-- R185: refusal status, 0 when accepted. -/
  refusal : Status
  /-- R53: declared result slot. -/
  declared : SlotRef
  /-- R59: the result slot in which the device answers next, with a RESULT or a late notice. -/
  due : SlotRef
  /-- R59: the later slot that the late notice due in that slot names. -/
  named : Option SlotRef
  /-- R60: late notices sent. -/
  lateCount : Nat
  /-- R604: the delays that apply. -/
  delays : List Delay
  /-- R605: the slots of the run. -/
  run : List SlotRef
  /-- R202: the charge in 64 KiB units. -/
  charged : Nat
  /-- R31: tenant of the packet. -/
  tenant : Nat
  /-- R52: stream of the declared result slot. -/
  resStream : Nat
  /-- R56: max_rows of the ATTEND slot. -/
  maxRows : Nat
  /-- R183, R191: the segments, with what each shows. -/
  segs : List SegView
  /-- R208: the follow-up slot; the request is split. -/
  follow : Option SlotRef
  /-- R209: the first part has been sent. -/
  inFollowup : Bool
  /-- R201, R209: what the first part held. -/
  firstPart : List Finished
  /-- R216: the slices of the part that runs. -/
  slices : List Slice
  /-- R224: the merge trees of that part. -/
  tree : List TreeNode
  /-- R224: rows and heads whose merge has ended. -/
  finished : List Finished
  deriving DecidableEq, Repr

/-- R237: the states of a physical core. -/
inductive CoreState | active | spare | fenced | failed
  deriving DecidableEq, Repr

/-- R233 to R237: one physical core. -/
structure PCore where
  state : CoreState
  lcore : Nat
  mismatches : Nat
  lastMismatch : Option Time
  deriving DecidableEq, Repr

/-- R235: a takeover in progress. -/
structure Takeover where
  lcore : Nat
  spare : Nat
  since : Time
  deriving DecidableEq, Repr

/-- R243: the states of a loaded model. -/
inductive ModelState | loading | active | tight | unloading
  deriving DecidableEq, Repr

/-- R245: a model. -/
structure Model where
  desc : ModelDesc
  state : ModelState
  granted : Nat
  borrowed : Nat
  deriving DecidableEq, Repr

/-- R248: a load or unload that waits for its boundary. -/
structure ModelChange where
  rq : Requester
  load : Option ModelDesc
  unload : Nat
  boundary : Time
  /-- R424: tag of this side's own commit, whose other half is awaited. -/
  tag : Option Nat
  /-- R424: tag of the other side's commit, which this side completes. -/
  peerTag : Option Nat
  deriving DecidableEq, Repr

/-- R185 to R250: the attention service. -/
structure Att where
  /-- R190: requests in flight, by the model's request number. -/
  reqs : Map Request
  /-- The model's own: number of the next request. -/
  nextReq : Nat
  /-- R219: start index of the dispatchers, east and west. -/
  startEast : Nat
  startWest : Nat
  /-- R234: the 68 physical cores. -/
  pcores : Map PCore
  /-- R251: physical core by logical core; absent ones are not in the map. -/
  lmap : Map Nat
  /-- R235: takeovers in progress. -/
  takeovers : List Takeover
  /-- R244: models, by model ID. -/
  models : Map Model
  /-- R248: changes waiting for their boundary. -/
  modelChanges : List ModelChange
  /-- R185: ATT_STATUS.refused. -/
  refused : Bool
  /-- R187: ATT_STATUS.seg_error. -/
  segError : Bool
  /-- R208: ATT_STATUS.partial. -/
  partialSet : Bool
  /-- R198: ATT_STATUS.widened. -/
  widened : Bool
  /-- R235: ATT_EXEC_STATUS.fenced. -/
  fencedSet : Bool
  deriving DecidableEq, Repr

/-! ## Tiers, moves, weight objects (07_tiers_and_movement.md) -/

/-- R266: the kinds of move. -/
inductive MoveKind | sealCopy | promotion | demotion | park | resume | compaction | refetch | relocation | abortReturn
  deriving DecidableEq, Repr

/-- R266: the states of a move. -/
inductive MoveState | queued | copying | switching
  deriving DecidableEq, Repr

/-- R266: one move. -/
structure Move where
  id : Nat
  datum : Datum
  kind : MoveKind
  state : MoveState
  /-- R277: need_by; zero means background. -/
  needBy : Time
  /-- R277: order of arrival. -/
  order : Nat
  /-- R266: destination, once allocated. -/
  dest : Option Home
  /-- R264: the switch waits for a drain entry since this time. -/
  drainWait : Option Time
  /-- R263: pin grants are held since this time. -/
  grantHold : Option Time
  deriving DecidableEq, Repr

/-- R263: an entry of the drain table. -/
structure Drain where
  datum : Datum
  old : Home
  count : Nat
  frame : Frame
  deriving DecidableEq, Repr

/-- R259: an allocation that waits for T1 space. -/
structure AllocWait where
  move : Nat
  since : Time
  deriving DecidableEq, Repr

/-- R301: a refetch from the partner in progress. -/
structure Refetch where
  datum : Datum
  since : Time
  deriving DecidableEq, Repr

/-- R289: the states of an object that is not free. -/
inductive ObjState | opened | sealed | lost | deleting
  deriving DecidableEq, Repr

/-- R289: an object record with its block map. -/
structure Obj where
  tenant : Nat
  state : ObjState
  mirror : MirrorClass
  elem : Nat
  resident : Bool
  stats : Bool
  size : Nat
  mapBase : Nat
  version : Nat
  readers : Nat
  lostBlocks : Nat
  /-- R288: home of each block. -/
  blocks : Map Home
  /-- R429: blocks whose mirror copy is committed. -/
  mirrored : List Nat
  deriving DecidableEq, Repr

/-- R281: a stream deadline record. -/
structure DeadlineRec where
  policy : Nat
  runahead : Bool
  execLeadNs : Nat
  tailNs : Nat
  runaheadLayers : Nat
  deriving DecidableEq, Repr

/-- R297: the list of a weight stream in progress. -/
structure WList where
  rq : Requester
  port : Nat
  msg : WStreamMsg
  tenant : Nat
  /-- R297: the next item and the payload bytes of it already sent. -/
  item : Nat
  sent : Nat
  /-- R299: slots still to pass in place of their normal content. -/
  skip : Nat
  /-- R62: weight-late notices sent. -/
  lateCount : Nat
  deriving DecidableEq, Repr

/-- R252 to R304: tiers, movement and weight objects. -/
structure Tir where
  /-- R266: moves that exist, oldest first. -/
  moves : List Move
  /-- The model's own: number of the next move. -/
  nextMove : Nat
  /-- R263: the drain table. -/
  drains : List Drain
  /-- R257: age of the T1 homes in the heat table, by T1 address. -/
  heat : Map Nat
  /-- R257: frames counted towards the next ageing. -/
  heatFrame : Frame
  /-- R256: bytes of a model's reserve share in use, by model. -/
  reserveUsed : Map Nat
  /-- R256: bytes of the cold pool in use. -/
  coldUsed : Nat
  /-- R256: bytes of the weight pool in use. -/
  weightUsed : Nat
  /-- R463: bytes of the region pool in use. -/
  regionUsed : Nat
  /-- R255: sizes of the pools, from the image; cold is the remainder. -/
  stagingUnits : Nat
  regionPool : Nat
  weightPool : Nat
  reservePool : Nat
  coldPool : Nat
  tablePool : Nat
  plistPool : Nat
  /-- R256: T1 homes, as address, bytes and pool (0 cold, m + 1 share of model m, 257 weight). -/
  t1Homes : Map (Nat × Nat)
  /-- R258: demotion is running. -/
  demoting : Bool
  /-- R259: allocations that wait. -/
  allocWaits : List AllocWait
  /-- R279: projected completion of the last read queued, by die number channel × 16 + slot. -/
  dieProj : Map Time
  /-- R279: projection of each page in flight. -/
  proj : Map Time
  /-- R301: refetches in progress. -/
  refetches : List Refetch
  /-- R303: the lost-page table, loss keys. -/
  lostPages : List (BitVec 64)
  /-- R303: pages whose loss the full table could not list. -/
  lostUnlisted : List Nat
  /-- R289: objects, by index. -/
  objs : Map Obj
  /-- R281: deadline records, by stream. -/
  deadlines : Map DeadlineRec
  /-- R297: weight lists, by stream. -/
  lists : Map WList
  /-- R259: TIR_STATUS.t1_full. -/
  t1Full : Bool
  /-- R277: TIR_STATUS.queue_full. -/
  queueFull : Bool
  /-- R302: TIR_STATUS.object_lost. -/
  objectLost : Bool
  /-- R302: TIR_STATUS.page_lost. -/
  pageLost : Bool
  /-- R303: TIR_STATUS.lost_table_full. -/
  lostFull : Bool
  deriving DecidableEq, Repr

/-! ## The flash store (08_flash_store.md) -/

/-- R309: the states of a fitted die. -/
inductive DieState | active | failed
  deriving DecidableEq, Repr

/-- R309: a die that is not ABSENT. -/
structure Die where
  state : DieState
  /-- R309: consecutive timeouts. -/
  timeouts : Nat
  deriving DecidableEq, Repr

/-- R315: the kinds of extent. -/
inductive ExtKind | privatePage | sharedPage | objectBlock | table | checkpoint | pad
  deriving DecidableEq, Repr

/-- R315: one extent of a band, a summary entry. -/
structure BandExt where
  first : Nat
  len : Nat
  kind : ExtKind
  /-- R315: the owner; none for a checkpoint chunk or a pad extent. -/
  owner : Option Datum
  /-- R319: reported good. -/
  good : Bool
  deriving DecidableEq, Repr

/-- R311: the states of a band that is not FREE. -/
inductive BandState | free | opened | closed | compacting | erasing | retired
  deriving DecidableEq, Repr

/-- R334: a band record with the extents written to it. -/
structure Band where
  state : BandState
  refresh : Bool
  evacuate : Bool
  eraseCount : Nat
  writePoint : Nat
  summaryUnit : Nat
  seq : BitVec 32
  /-- R332: reads of positions 0 to 15. -/
  reads : List Nat
  extents : List BandExt
  /-- R330: member positions whose block set is to be retired once evacuated. -/
  bad : List Nat
  /-- R330: member positions still to be erased. -/
  eraseLeft : List Nat
  /-- R319: rows whose 15 data pages and parity page have programmed. -/
  goodRows : Nat
  /-- R317: opened for the Fuller's relocations. -/
  reloc : Bool
  deriving DecidableEq, Repr

/-- R318 to R321: the writer of one open band. -/
structure Writer where
  band : Nat
  /-- R320: time of the first unit of the row being filled. -/
  rowSince : Option Time
  deriving DecidableEq, Repr

/-- R323: a read queued or running on a die. -/
structure NandRead where
  id : Nat
  unit : Nat
  len : Nat
  /-- R322: the reader: a move, a bypass read of a request, or a weight stream. -/
  move : Option Nat
  datum : Datum
  projection : Time
  /-- R323: the ladder step reached. -/
  step : Nat
  deriving DecidableEq, Repr

/-- R334: the tables a checkpoint saves. DESIGN CHOICE: log entry 9. -/
structure Snapshot where
  /-- R334: table 0. -/
  seqs : Map Seq
  gens : Map (BitVec 8)
  /-- R334: table 1. -/
  nodes : Map Node
  /-- R334: table 2, and the pages the records name. -/
  pages : Map Page
  plists : Map (BitVec 32 × List Nat)
  /-- R334: tables 3 and 4. -/
  objs : Map Obj
  /-- R334: table 5. -/
  lost : List (BitVec 64)
  /-- R334: table 6, by group × 4,096 + band. -/
  bands : Map Band
  /-- R334: table 7, by die × planes and block. -/
  remap : Map Nat
  /-- Bytes of the SEALED objects that lie in T2. -/
  bytes : List Host.Cell
  /-- R89, R420: ownership, as cold records and object records hold it: the items whose owner is side B. -/
  ownerB : List Nat
  objOwnerB : List Nat
  deriving DecidableEq, Repr

/-- R336: a committed checkpoint root. DESIGN CHOICE: log entry 9. -/
structure Root where
  seq : BitVec 32
  snapTime : Time
  snapFrame : Frame
  imageSeq : BitVec 32
  area : Bool
  tables : Snapshot
  /-- R336: its chunk pointers, by table × 2^20 + chunk index. -/
  ptrs : Map Nat
  deriving DecidableEq, Repr

/-- R335: a checkpoint being written. -/
structure CkptRun where
  seq : BitVec 32
  startedAt : Time
  snapTime : Time
  snapFrame : Frame
  tables : Snapshot
  /-- R336: changed chunks not yet written, as table × 2^20 + chunk index. -/
  todo : List Nat
  /-- R336: chunks written, with the log address of each. -/
  chunks : Map Nat
  /-- R335: chunks copied to the snapshot buffer. -/
  buffered : List Nat
  /-- R337: log address of the root, once written. -/
  root : Option Nat
  deriving DecidableEq, Repr

/-- R305 to R342: the flash store. -/
structure Fls where
  /-- R306: the dies that are not ABSENT, by channel × 16 + slot. -/
  dies : Map Die
  /-- R308: fitted count n. -/
  diesPerChannel : Nat
  planes : Nat
  blocksPerPlane : Nat
  pagesPerBlock : Nat
  /-- R311: spare_blocks, from the image. -/
  spareBlocks : Nat
  /-- R308: tREAD_max of the dies. -/
  tReadMaxNs : Nat
  /-- R308: retry levels of the dies. -/
  dieRetryLevels : Nat
  /-- R310: groups in service. -/
  groups : Nat
  /-- R307: dies refused at discovery, by channel × 16 + slot. -/
  refused : List Nat
  /-- R334: bands that are not FREE with erase count 0, by group × 4,096 + band. -/
  bands : Map Band
  /-- R334: next band sequence number. -/
  nextSeq : BitVec 32
  /-- R330: remap table, by die × 2^18 + plane × 2^16 + block. -/
  remap : Map Nat
  /-- R330: spares in use, by die × 4 + plane. -/
  sparesUsed : Map Nat
  /-- R317: open bands for new data, by group. -/
  writers : Map Writer
  /-- R317: open bands for relocations, by group. -/
  relocs : Map Writer
  /-- R331: groups that are degraded. -/
  degraded : List Nat
  /-- R322: reads in flight. -/
  reads : List NandRead
  /-- The model's own: number of the next read. -/
  nextRead : Nat
  /-- R337: roots committed, newest first. -/
  roots : List Root
  /-- R335: the checkpoint being written. -/
  ckpt : Option CkptRun
  /-- R337: a checkpoint is due at the next frame boundary. -/
  ckptAsked : Bool
  /-- R337: start of the last checkpoint. -/
  ckptAt : Time
  /-- R337: FLS_CKPT_STATUS.last_ms. -/
  lastMs : Nat
  /-- R325: FLS_STATUS.uncorrectable and the other bits in their order. -/
  uncorrectable : Bool
  programFail : Bool
  eraseFail : Bool
  dieFailed : Bool
  groupDegraded : Bool
  noFreeBand : Bool
  ckptAbort : Bool
  ckptFallback : Bool
  ckptLost : Bool
  deriving DecidableEq, Repr

/-! ## Auvas links and transport (09_auvas_links.md) -/

/-- R344: the port states, codes 0 to 4. -/
inductive PortState | down | training | up | degraded | failed
  deriving DecidableEq, Repr

/-- R344 to R349: one of the 13 ports. -/
structure Port where
  /-- R344: AUV_PORT_STATUSp.state. -/
  state : PortState
  /-- R345: active lanes. -/
  lanes : List Nat
  /-- R348: lanes faulted. -/
  faulted : List Nat
  /-- R346: far device, far port and far role. -/
  farDevice : Nat
  farPort : Nat
  farPartner : Bool
  /-- R347: AUV_PORT_STATUSp.refused. -/
  refused : Bool
  /-- R346: AUV_PORT_STATUSp.miswired. -/
  miswired : Bool
  /-- R348: retrains since reset. -/
  retrains : Nat
  /-- R344: uncorrectable codewords. -/
  fecUncorr : Nat
  /-- R349: AUV_PORT_ASYMp. -/
  asym : BitVec 16
  /-- R344: start of the training timer. -/
  trainedAt : Time
  /-- R348: times of the retrains of the last 10 s. -/
  retrainTimes : List Time
  /-- R348: held DOWN for 10 s. -/
  backoff : Bool
  /-- R349: equalisation and identity are retained. -/
  retained : Bool
  /-- R573: DOWN through a sleep ordered set of the far end. -/
  slept : Bool
  /-- R351: bytes sent by class, in 256-byte units, and the last credits received. -/
  sent : List (BitVec 32)
  credits : List (BitVec 32)
  /-- R351: freed receive space by class, announced to the far end. -/
  freed : List (BitVec 32)
  /-- R350: group being received, flits of it dropped, and packet starts its control flit names. -/
  rxGroup : BitVec 8
  rxDropped : List Nat
  rxStarts : List Nat
  deriving DecidableEq, Repr

/-- R360: one unacknowledged packet of a path set. -/
structure Unacked where
  packet : Packet
  path : Nat
  sentAt : Time
  deriving DecidableEq, Repr

/-- R377: a fragment or READ that waits for retry_after. -/
structure RnrWait where
  packet : Packet
  notBefore : Time
  deriving DecidableEq, Repr

/-- R360 to R366: one path set; the peer is a device ID, or 512 + p for the partner on port p. -/
structure PathSet where
  /-- R360: next psn. -/
  nextPsn : BitVec 24
  /-- R360: unacknowledged packets, in psn order. -/
  unacked : List Unacked
  /-- R360: packets that wait for the window. -/
  waiting : List Packet
  /-- R364: consecutive strikes, by path. -/
  strikes : Map Nat
  /-- R364: failed paths. -/
  failed : List Nat
  /-- R365: a PROBE with init has been sent in the epoch. -/
  inited : Bool
  /-- R362: lowest psn not yet accepted. -/
  cum : BitVec 24
  /-- R362: psn values above cum accepted. -/
  accepted : List (BitVec 24)
  /-- R365: recorded epoch of the sender. -/
  peerEpoch : Option (BitVec 8)
  /-- R361: packets accepted since the last ACK, and the time of the first. -/
  unackedRx : Nat
  ackSince : Option Time
  /-- R377: resends that wait. -/
  rnrWaits : List RnrWait
  /-- R377: RNR answers by message ID. -/
  rnrCounts : Map Nat
  /-- R365: messages whose requested completion has not arrived, as destination endpoint and message ID. -/
  awaiting : List (Nat × Nat)
  deriving DecidableEq, Repr

/-- R369: a reassembly record. -/
structure Reasm where
  src : Nat
  dst : Nat
  msgId : Nat
  epoch : BitVec 8
  channel : Nat
  hdr : MsgHdr
  count : Option Nat
  got : List Nat
  body : Body
  addr : Nat
  opWord : Nat
  /-- R369: time of the last fragment. -/
  since : Time
  /-- R54: arrival time of the last flit. -/
  arrived : Time
  /-- R368, R369: the message has been refused. -/
  dead : Option Status
  deriving DecidableEq, Repr

/-- R370: a message that is complete and not yet visible. -/
structure DoneMsg where
  csn : BitVec 32
  hdr : MsgHdr
  body : Body
  addr : Nat
  opWord : Nat
  arrived : Time
  refused : Option Status
  deriving DecidableEq, Repr

/-- R378: a WAIT that holds its channel. -/
structure Waiting where
  hdr : MsgHdr
  msg : WaitMsg
  since : Time
  deriving DecidableEq, Repr

/-- R372: a channel context. -/
structure Chan where
  tenant : Nat
  kind : Nat
  privileged : Bool
  access : Nat
  tcMask : BitVec 8
  peer : Nat
  nextCsn : BitVec 32
  completions : BitVec 32
  /-- R371: messages complete and not visible. -/
  done : List DoneMsg
  target : Nat
  waiting : Option Waiting
  /-- R380: later messages are refused up to the next WAIT. -/
  aborting : Bool
  /-- R372: held in the on-die cache. -/
  cached : Bool
  deriving DecidableEq, Repr

/-- R372: a range record. -/
structure Range where
  base : Va
  len4k : Nat
  tenant : Nat
  access : Nat
  deriving DecidableEq, Repr

/-- R373: packets in a port's miss buffer that wait for a context. -/
structure Miss where
  port : Nat
  packet : Packet
  since : Time
  deriving DecidableEq, Repr

/-- R376: a READ whose source is being brought in. -/
structure ReadStall where
  hdr : MsgHdr
  addr : Nat
  bytes : Nat
  since : Time
  /-- R376: psn of its packet. -/
  psn : BitVec 24
  deriving DecidableEq, Repr

/-- R384: a violation record. -/
structure Violation where
  time : Time
  src : Nat
  dst : Nat
  channel : Nat
  tenant : Nat
  opcode : Nat
  port : Nat
  status : Status
  addr : Nat
  deriving DecidableEq, Repr

/-- R386, R387: a subscription with its queue. -/
structure Subscription where
  dst : Nat
  channel : Nat
  tenant : Nat
  mask : BitVec 16
  all : Bool
  seq : BitVec 16
  queue : List EventMsg
  lost : Nat
  deriving DecidableEq, Repr

/-- R343 to R390: links, path sets, reassembly and channels. -/
structure Auv where
  /-- R344: the ports, by port code. -/
  ports : Map Port
  /-- R354: path sets, by peer; 1,024 more for what a device sends to the lost partner's ID (R443). -/
  paths : Map PathSet
  /-- R365: this device's epoch; none before it has been drawn. -/
  epoch : Option (BitVec 8)
  /-- R365: the last epoch drawn, kept in the always-on island. -/
  aonEpoch : Option (BitVec 8)
  /-- R443: the epoch drawn for the lost partner's ID. -/
  lostEpoch : Option (BitVec 8)
  /-- R369: reassembly records. -/
  reasm : List Reasm
  /-- R372: channel contexts, by channel. -/
  chans : Map Chan
  /-- R372: range records, by index. -/
  ranges : Map Range
  /-- R373: miss buffers. -/
  misses : List Miss
  /-- R376: stalled READs. -/
  stalls : List ReadStall
  /-- R384: violation log ring, by index. -/
  vlog : Map Violation
  /-- R384: AUV_VLOG_HEAD. -/
  vlogHead : Nat
  /-- R386: subscriptions. -/
  subs : List Subscription
  /-- R371: next channel sequence number of the channels this device sends on, by destination device × 2^20 + channel. -/
  txCsn : Map (BitVec 32)
  /-- R355: next message ID of the device's own messages. -/
  nextMsg : Nat
  deriving DecidableEq, Repr

/-! ## Egress scheduling and policing (10_egress_and_policing.md) -/

/-- R404: a queued packet with its tags. -/
structure QPacket where
  packet : Packet
  startTag : Option (BitVec 48)
  finishTag : BitVec 48
  deriving DecidableEq, Repr

/-- R391, R404, R406: one queue of a port: classes 0 to 7, and 8 for the transit queue. -/
structure EQueue where
  items : List QPacket
  /-- R404: finish tag of the last packet. -/
  lastFinish : BitVec 48
  /-- R406: bucket credit in bytes. -/
  credit : Nat
  deriving DecidableEq, Repr

/-- R395: a running or pending gate list. -/
structure GateRun where
  list : GateList
  start : Time
  /-- R401: committed by transaction rather than carried by a variant. -/
  committed : Bool
  deriving DecidableEq, Repr

/-- R391 to R411: the egress side of one port. -/
structure Egress where
  /-- R391: queues by class, 8 for transit. -/
  queues : Map EQueue
  /-- R404: virtual time. -/
  virt : BitVec 48
  /-- R404: largest finish tag served. -/
  maxFinish : BitVec 48
  /-- R395: the running list, and its current entry. -/
  running : Option GateRun
  entry : Nat
  /-- R399: start of the current entry. -/
  entryStart : Time
  /-- R400: the pending list. -/
  pending : Option GateRun
  /-- R392: the transmitter is busy until this time. -/
  busyUntil : Time
  /-- R411: frame of the last SHP_TRANSIT_DROP. -/
  dropEvent : Option Frame
  deriving DecidableEq, Repr

/-- R416: a policer record. -/
structure Policer where
  cir : Nat
  cbs4k : Nat
  enable : Bool
  tokens : Nat
  drops : Nat
  last : Nat
  /-- R414: frame of the last SHP_POLICED event. -/
  event : Option Frame
  deriving DecidableEq, Repr

/-- R391 to R417: egress and policing. -/
structure Shp where
  /-- R391: by port code. -/
  egress : Map Egress
  /-- R416: policer records, by tenant × 6 + class index; absent records have enable 0. -/
  policers : Map Policer
  /-- R401: gate lists carried by the timetables' variants. -/
  lists : List GateList
  /-- R398: SHP_STATUS.late_start. -/
  lateStart : Bool
  /-- R401: SHP_STATUS.gcl_discarded. -/
  discarded : Bool
  /-- R413: SHP_STATUS.policed. -/
  policed : Bool
  /-- R411: SHP_STATUS.transit_drop. -/
  transitDrop : Bool
  deriving DecidableEq, Repr

/-! ## The pair (11_pair_and_torus.md) -/

/-- R433: the pair states, codes 0 to 6. -/
inductive PairState | joining | paired | suspect | paused | solo | isolated | resync
  deriving DecidableEq, Repr

/-- R426, R519: the configuration before a transaction's commit, so that it can be taken back. -/
structure Conf where
  regs : Map (BitVec 64)
  tenants : Map TenantRec
  scopes : Map Scope
  deadlines : Map DeadlineRec
  policers : Map Policer
  sched : Schedule
  lists : List GateList
  deriving DecidableEq, Repr

/-- R426: what a commit changed, so that it can be taken back when the other side refuses it: the earlier value of every record
that changed. -/
structure Undo where
  seqs : List (Nat × Option Seq)
  seats : List (Nat × Option Nat)
  pages : List (Nat × Option Page)
  nodes : List (Nat × Option Node)
  objs : List (Nat × Option Obj)
  models : List (Nat × Option Model)
  chans : List (Nat × Option Chan)
  batch : List (Nat × Option (BitVec 32))
  /-- R519: the configuration, of a configuration commit. -/
  conf : Option Conf
  deriving DecidableEq, Repr

/-- R424: a commit whose completion on the other side is awaited. -/
structure CommitWait where
  tag : Nat
  op : PairOp
  /-- R424: the requester that is answered, and its reply. -/
  rq : Requester
  reply : List Nat
  status : Status
  /-- R423: a proposal of side B that has not come back. -/
  proposal : Bool
  /-- R433: held in SUSPECT. -/
  held : Bool
  /-- R424: the change is already applied on this side. -/
  applied : Bool
  /-- R248, R518: the other side's completion, come before this side's boundary. -/
  answered : Option Status
  /-- R426: the earlier values of what it changed. -/
  undo : Undo
  deriving DecidableEq, Repr

/-- R418 to R450: the pair. -/
structure Par where
  /-- R433: PAR_STATUS.pair_state. -/
  state : PairState
  /-- R433: the time of entry to that state. -/
  since : Time
  /-- R352: device ID, and the dimensions X and Y. -/
  deviceId : Nat
  dimX : Nat
  dimY : Nat
  /-- R418: partner's device ID. -/
  partnerId : Nat
  /-- R440: this device answers for the partner's ID. -/
  tookOver : Bool
  /-- R440: takeover epoch. -/
  takeoverEpoch : BitVec 32
  /-- R423: last pair commit applied. -/
  commitSeq : BitVec 32
  /-- R423: next origin tag (the model's own numbering). -/
  nextTag : Nat
  /-- R424: commits awaiting the other side. -/
  waits : List CommitWait
  /-- R419: owner table, cold-record indices whose owner is side B. -/
  ownerB : List Nat
  /-- R420: objects whose owner is side B. -/
  objOwnerB : List Nat
  /-- R433: arrival of the last heartbeat, and since when heartbeats run on PAIR without a gap. -/
  lastHeartbeat : Time
  /-- R439: heartbeats have run on PAIR without a gap since. -/
  heartbeatsSince : Option Time
  /-- R439: arrival of the last heartbeat on PAIR. -/
  pairHeartbeat : Time
  /-- R432: heartbeats sent. -/
  hbCount : BitVec 32
  /-- R434: a witness has answered during this state. -/
  witness : Bool
  /-- R433: the partner has answered on some path since start-up. -/
  partnerHeard : Bool
  /-- R439: page and block copies queued for the partner, oldest first, with their due frame. -/
  copies : List (Datum × Frame)
  /-- R439: APPEND mirrors queued in PAUSED. -/
  appendCopies : List AppendMsg
  /-- R429: the SEAL replies of M2 objects that wait for their block copies. -/
  sealWaits : List (Nat × Requester)
  /-- R443: lost device IDs and their survivors. -/
  reroute : Map Nat
  /-- R441: SUSPECT was entered from PAUSED. -/
  fromPaused : Bool
  /-- R433: the local pair state has been discarded in this JOINING. -/
  discarded : Bool
  /-- R504: config_id of the partner's image, as the resync carries it. -/
  peerConfig : Option (BitVec 64)
  /-- R445: commits applied by the survivor since the resync began, oldest first. -/
  resyncOps : List PairOp
  /-- R429: frame of the last PAR_MIRROR_LAG event. -/
  lagEvent : Option Frame
  /-- R433: PAR_STATUS.paused. -/
  pausedSet : Bool
  /-- R429: PAR_STATUS.lag. -/
  lagSet : Bool
  /-- R433: PAR_STATUS.isolated. -/
  isolatedSet : Bool
  /-- R433: PAR_STATUS.replaced. -/
  replacedSet : Bool
  deriving DecidableEq, Repr

/-! ## Hosts (12_host_attachment.md) -/

/-- R453: the states of a logical device, codes 0 to 2. -/
inductive LdState | disabled | active | failed
  deriving DecidableEq, Repr

/-- R456: a window entry in use. -/
structure Window where
  dpaBase : Nat
  len2m : Nat
  region : Nat
  bind : Nat
  slot : Nat
  offset : Nat
  deriving DecidableEq, Repr

/-- R486: an event record of a log. -/
structure EventRec where
  handle : Nat
  event : EventMsg
  deriving DecidableEq, Repr

/-- R482: the background command of a mailbox: a publish or an export, with its progress. -/
inductive Background
  | publish (r : RegionReq) (committed : Bool)
  | exportCopy (r : ExportReq) (tenant : Nat)
  deriving DecidableEq, Repr

/-- R452 to R454, R487: a logical device. -/
structure Ld where
  /-- R453: state. -/
  state : LdState
  /-- R456: windows, by index. -/
  windows : Map Window
  /-- R487: event logs 0 to 3, and records lost by overflow of each. -/
  logs : Map (List EventRec)
  overflow : Map Nat
  nextHandle : Nat
  /-- R487: Event Interrupt Policy. -/
  policy : BitVec 32
  /-- R482: the background command, and its Vendor Specific Extended Status. -/
  background : Option Background
  bgStatus : Status
  /-- R457: frame of the last CXL_RO_WRITE. -/
  roEvent : Option Frame
  /-- R512: frame of the last CFG_NO_TXN. -/
  rwlEvent : Option Frame
  deriving DecidableEq, Repr

/-- R462: a version entry. -/
structure Version where
  version : BitVec 32
  len64k : Nat
  mapBase : Nat
  deriving DecidableEq, Repr

/-- R462: a region record. -/
structure Region where
  tenant : Nat
  kind : Nat
  tenantOnly : Bool
  cold : Bool
  owner : Nat
  currentSlot : Option Nat
  size : Nat
  current : BitVec 32
  mapBase : Nat
  versions : Map Version
  /-- R473: poisoned lines, by byte offset div 64 (slot included, as in R460). -/
  poison : List Nat
  /-- R475: granules placed cold, as slot × 2^27 + granule. -/
  coldGranules : List Nat
  deriving DecidableEq, Repr

/-- R470: a snoop-filter entry. -/
structure Snoop where
  ld : Nat
  state : LineState
  order : Nat
  /-- R471: a BISnp is outstanding since. -/
  snooped : Option Time
  deriving DecidableEq, Repr

/-- R467: a CXL.mem or Auvas write held during a freeze or a granule move. -/
structure HeldWrite where
  region : Nat
  offset : Nat
  data : List Byte
  full : Bool
  /-- R370, R467: the Auvas message whose bytes they are; it is not visible before they are placed. -/
  hdr : Option MsgHdr
  deriving DecidableEq, Repr

/-- R470: what waits for the response to a back-invalidation. -/
inductive SnoopWait
  | grant (port : Nat) (ld : Nat) (dpa : Nat) (line : Nat) (hold : LineState)
  | mapEntry (rq : Requester) (r : RegionReq)
  | freeze (port : Nat) (ld : Nat)
  | publishDone (port : Nat) (ld : Nat)
  | reset (rq : Requester) (region : Nat)
  | delete (rq : Requester) (region : Nat)
  | write (h : MsgHdr) (addr : Nat) (data : List Byte)
  | read (h : MsgHdr) (addr : Nat) (bytes : Nat)
  | hint (rq : Requester) (r : RegionReq)
  deriving DecidableEq, Repr

/-- R470: a waiting action with the filter entries (port × 2^64 + key) whose responses it needs. -/
structure SnoopPending where
  what : SnoopWait
  lines : List Nat
  deriving DecidableEq, Repr

/-- R451 to R488: the CXL ports and the regions. -/
structure Cxl where
  /-- R451: link up, by port. -/
  links : List Nat
  /-- R452: logical devices, by port × 16 + LD. -/
  lds : Map Ld
  /-- R451: LD allocations set through the FM-API, by port × 16 + LD. -/
  allocs : Map (Nat × Nat)
  /-- R462: regions, by ID. -/
  regions : Map Region
  /-- R470: snoop filters of ports 0 and 1, by line (device virtual address div 64) × 16 + LD. -/
  snoop0 : Map Snoop
  snoop1 : Map Snoop
  /-- R470: the order of entry of the next line (the model's own counter). -/
  snoopOrder : Nat
  /-- R471: actions that wait for responses. -/
  snoopWaits : List SnoopPending
  /-- R467: frozen ranges, as region, offset, length. -/
  frozen : List (Nat × Nat × Nat)
  /-- R467: held writes, oldest first. -/
  held : List HeldWrite
  /-- R451: device timestamp, and the fabric time at which it was set. -/
  timestamp : BitVec 64
  timestampAt : Time
  deriving DecidableEq, Repr

/-! ## Image, start-up and transactions (13_image_and_startup.md) -/

/-- R502: the start-up states, codes 1 to 5, 7, 8, 14 and 15. -/
inductive Phase | boot | verify | train | nand | restore | sync | run | recovery | halted
  deriving DecidableEq, Repr

/-- R512: the transaction states, codes 0 to 2. -/
inductive TxnState | idle | opened | committing
  deriving DecidableEq, Repr

/-- R513 to R522: the configuration transaction. -/
structure Txn where
  state : TxnState
  id : BitVec 32
  holder : Option Requester
  /-- R514: begun by an issuer of this side. -/
  mine : Bool
  items : List TxnItem
  /-- R516: staging in use, in bytes. -/
  bytes : Nat
  /-- R514: last command of the holder. -/
  lastCmd : Time
  /-- R518: activation boundary. -/
  boundary : Time
  persistent : Bool
  late : Bool
  /-- R518: arrival of the commit. -/
  arrived : Time
  /-- R424: tag of this side's own commit, whose other half is awaited. -/
  tag : Option Nat
  /-- R424: tag of the other side's commit, which this side completes. -/
  peerTag : Option Nat
  deriving DecidableEq, Repr

/-- R521, R534: a write of the NVM that waits or runs. -/
inductive NvmJob
  | derived (img : Image)
  | firmware (img : Image)
  | identity (c : IdentityCopy)
  deriving DecidableEq, Repr

/-- R489 to R523: NVM, start-up and transactions. -/
structure Cfg where
  /-- R502: CFG_STATUS.phase. -/
  phase : Phase
  /-- R502: start of the current step. -/
  stepAt : Time
  /-- R502: start-up step in progress. -/
  step : Nat
  /-- R590: the device is held in internal reset. -/
  internalReset : Bool
  /-- R502: step 1 has failed once. -/
  romFailed : Bool
  /-- R502: banks excluded (false A, true B). -/
  excluded : List Bool
  /-- R489: the two banks; none is an erased bank. -/
  bankA : Option Image
  bankB : Option Image
  /-- R493: CFG_STATUS.boot_bank. -/
  bootBank : Bool
  /-- R502: CFG_STATUS.fallback. -/
  fallback : Bool
  /-- R504: the running image. -/
  image : Option Image
  /-- R508: CFG_STATUS.fw_pending. -/
  fwPending : Bool
  /-- R521: NVM writes, the first of them running. -/
  nvmJobs : List NvmJob
  /-- R495: the NVM's write protect is asserted. -/
  wp : Bool
  /-- R492: floor of the device. -/
  floor : Nat
  /-- R492: verdicts of the last check. -/
  validA : Bool
  validB : Bool
  /-- R521: CFG_STATUS.nvm_write_fail. -/
  nvmWriteFail : Bool
  /-- R514: CFG_STATUS.txn_expired. -/
  txnExpired : Bool
  /-- R514: the configuration transaction. -/
  txn : Txn
  /-- R28, R501, R135: permitted profiles, and the tenant records in force, by tenant. -/
  permitted : BitVec 4
  /-- R135: the tenant records in force, by tenant. -/
  tenants : Map TenantRec
  deriving DecidableEq, Repr

/-! ## Identity (14_identity_and_attestation.md) -/

/-- R526: SEC_STATUS.identity. -/
inductive Identity | none | valid | mismatch
  deriving DecidableEq, Repr

/-- R536: a signature that waits or runs. -/
structure SpdmJob where
  transport : Nat
  req : SpdmSigned
  /-- R539: measurement snapshot of the response. -/
  snapshot : List (BitVec 256)
  since : Time
  /-- R536: token of the ResponseNotReady sent for it. -/
  token : Option Nat
  ready : Bool
  deriving DecidableEq, Repr

/-- R536: SPDM connection state of one transport: 0 none, 1 after GET_VERSION, 2 after GET_CAPABILITIES, 3 negotiated. -/
structure SpdmConn where
  stage : Nat
  deriving DecidableEq, Repr

/-- R524 to R540: identity and attestation. -/
structure Sec where
  /-- R526: SEC_STATUS.identity. -/
  identity : Identity
  /-- R528: identity copies 0 and 1. -/
  copy0 : Option IdentityCopy
  copy1 : Option IdentityCopy
  /-- R531: SEC_STATUS.store_copy. -/
  inUse : Bool
  /-- R531: SEC_STATUS.fallback. -/
  fallback : Bool
  /-- R533: SEC_STATUS.bundle_refused. -/
  bundleRefused : Bool
  /-- R530: signers held. -/
  signers : List (BitVec 64)
  /-- R526: SHA-256 of the device's public key. -/
  pubHash : BitVec 256
  /-- R528: store_seq of the copy in use. -/
  storeSeq : BitVec 32
  /-- R536: connections of DOE 0, DOE 1 and MCTP. -/
  conns : Map SpdmConn
  /-- R536: signatures that wait or run, oldest first. -/
  jobs : List SpdmJob
  /-- R536: next token of a ResponseNotReady (the model's own numbering). -/
  nextToken : Nat
  deriving DecidableEq, Repr

/-! ## Faults (15_faults_and_limits.md) -/

/-- R541 to R562: faults and supervision. DESIGN CHOICE: log entry 82. -/
structure Ras where
  /-- R545: retired frames. -/
  retired : List Nat
  /-- R545: corrections of each 64-byte location in this scrub cycle, and the cycle's start. -/
  corrections : Map Nat
  scrubAt : Time
  /-- R551: lost channels, stack × 32 + channel. -/
  lostChannels : List Nat
  /-- R551: frames with uncorrectable errors, channel and frame with their times. -/
  recentUe : List (Nat × Nat × Time)
  /-- R558: management cores that run. -/
  running : List Nat
  /-- R558: core resets since reset, and the times of the last ones. -/
  coreResets : Nat
  resetTimes : List Time
  /-- R559: last liveness write. -/
  lastLive : Time
  /-- R559: self-fenced. -/
  selfFenced : Bool
  /-- R547: reclaim halted. -/
  reclaimHalted : Bool
  /-- R555: crossings whose first expiry has happened. -/
  expired : List Island
  /-- R546: RAS_STATUS bits. -/
  dramUe : Bool
  channelLost : Bool
  sramUe : Bool
  mgmtReset : Bool
  handshake : Bool
  /-- R542: RAS_LAST_EVENT. -/
  lastStatus : Status
  lastLog : Nat
  lastTime : Time
  /-- R541: frame of the last event of a rate-limited source. -/
  limited : Map Frame
  deriving DecidableEq, Repr

/-! ## Power (16_power_domains.md, 17_signals_and_package.md) -/

/-- R566: the states of a power domain, codes 0 to 9. -/
inductive PowerState | on | asking | draining | quiescing | clamping | lowering | ret | off | waking | poweringUp
  deriving DecidableEq, Repr

/-- R563 to R579: one power domain. -/
structure Domain where
  state : PowerState
  /-- R579: target, 0 ON, 1 RET, 2 OFF. -/
  target : Nat
  /-- R569: PWR_DOMAIN.pending_on. -/
  pendingOn : Bool
  /-- R579: the last entry was abandoned. -/
  aborted : Bool
  /-- R579: reason of the last refusal. -/
  lastReason : Nat
  /-- R567: start of E1 and the end of the drain. -/
  entryAt : Time
  /-- R567: the end of the drain. -/
  drainBy : Time
  /-- R568: state before the entry was ON (true) or RET (false). -/
  fromOn : Bool
  /-- R568: a wake that waits for an abort point, or for the target state. -/
  wakeHeld : Option Nat
  /-- R576: PWR_LAST_WAKEd. -/
  wakeSource : Nat
  wakeDuring : Bool
  wakeAbort : Nat
  wakeTime : Time
  /-- R574: time since which the domain has started no work. -/
  idleSince : Time
  deriving DecidableEq, Repr

/-- R578: a POWER_REQUEST whose reply waits. -/
structure PowerWait where
  rq : Requester
  first : Nat
  count : Nat
  target : Nat
  /-- R578: outcome by domain: status and reason. -/
  outcome : Map (Status × Nat)
  deriving DecidableEq, Repr

/-- R563 to R597: power, pins and sensors. -/
structure Pwr where
  /-- R563: domains that are not ON as at reset, by index. -/
  domains : Map Domain
  /-- R578: POWER_REQUESTs that wait, oldest first. -/
  waits : List PowerWait
  /-- R27, R33: core clock in force, in MHz. -/
  coreMhz : Nat
  /-- R33, R595: clocks that the budget clamp and the thermal clamp allow. -/
  budgetMhz : Nat
  thermalMhz : Nat
  /-- R595: start of the millisecond in which the thermal clamp last stepped. -/
  thermalAt : Time
  /-- R33: PWR_STATUS.budget_clamp. -/
  budgetClamp : Bool
  /-- R595: PWR_THERMAL.clamp and the sensor fields. -/
  thermalClamp : Bool
  hottest : Nat
  maxC : Nat
  stackMaxC : Nat
  /-- R594: rails in range. -/
  rails : BitVec 12
  /-- R594, R597: PWR_TRIP_RECORD. -/
  thermtrip : Bool
  tripSensor : Nat
  railFault : BitVec 12
  /-- R597: tripped until PORST_n goes low. -/
  tripped : Bool
  /-- R597: THERMTRIP_n asserted; R587: NAND write protect low; R590: XSPI_RESET_n low. -/
  thermtripPin : Bool
  nandWpLow : Bool
  /-- R554: straps as sampled. -/
  straps : Straps
  /-- R13: CFG_PART.part, 0 before step 3. -/
  part : Nat
  deriving DecidableEq, Repr

/-! ## What leaves the device -/

/-- R203: what a RESULT's header says. -/
structure ResultHdr where
  status : Status
  timing : Status
  msgId : Nat
  segErrors : Bool
  keysWidened : Bool
  statsWritten : Bool
  outMode : Nat
  outFormat : Nat
  frame : Frame
  slot : Nat
  rowCount : Nat
  kvhFirst : Nat
  kvhCount : Nat
  layer : Nat
  follow : Option SlotRef
  charged : Nat
  deriving DecidableEq, Repr

/-- R203: a segment status entry. -/
structure SegStatus where
  handle : BitVec 32
  segment : Nat
  status : Status
  storedFormat : Nat
  complete : Bool
  emptyRows : Bool
  keysWidened : Bool
  pagesDone : Nat
  deriving DecidableEq, Repr

/-- R61: a late notice. -/
structure LateNotice where
  cause : Status
  msgId : Nat
  lateCount : Nat
  origFrame : Frame
  origSlot : Nat
  newFrame : Frame
  newSlot : Nat
  slotsShifted : Nat
  newStart : Time
  deriving DecidableEq, Repr

/-- R297: a WSTREAM data header. -/
structure WData where
  status : Status
  stream : Nat
  msgId : Nat
  item : Nat
  frame : Frame
  slot : Nat
  lastOfItem : Bool
  lastOfList : Bool
  bypassed : Bool
  destOffset : Nat
  deriving DecidableEq, Repr

/-- R482: the CXL return codes the device uses. -/
inductive CxlCode | success | background | invalidInput | unsupported | busy | invalidPayload | retryRequired
  deriving DecidableEq, Repr

/-- R535: the SPDM responses. -/
inductive SpdmResp
  | version
  | capabilities
  | algorithms (p256 : Bool) (sha256 : Bool) (dmtf : Bool)
  | digests (d : BitVec 256)
  | certificate (portion : List Byte) (remainder : Nat)
  | challengeAuth (digest : BitVec 256) (summary : List (BitVec 256)) (signature : BitVec 512)
  | measurements (blocks : List (BitVec 256)) (signature : Option (BitVec 512))
  | notReady (token : Nat)
  | errorUnspecified
  | errorInvalid
  | errorUnexpected
  deriving DecidableEq, Repr

/-- What the device sends or drives in answer to a command; the model's own record, newest first. -/
inductive Out
  | cmpl (rq : Requester) (status : Status) (fields : List Nat)
  | msgCmpl (h : MsgHdr) (status : Status) (completions : BitVec 32)
  | mailbox (rq : Requester) (code : CxlCode) (fields : List Nat)
  | result (rq : Requester) (port : Nat) (h : ResultHdr) (segs : List SegStatus) (block : List (BitVec 32))
  | late (rq : Requester) (port : Nat) (n : LateNotice)
  | wdata (rq : Requester) (port : Nat) (h : WData) (payload : List Byte)
  | event (e : EventMsg) (log : Nat)
  | ibi
  | ackOut (peer : Nat) (m : AckMsg)
  | rnrOut (peer : Nat) (m : RnrMsg)
  | probe (port : Nat) (m : ProbeMsg)
  | syncOut (port : Nat)
  | transmit (port : Nat) (p : Packet)
  | rdata (h : MsgHdr) (data : List Byte)
  | deliver (h : MsgHdr) (data : List Byte)
  | commit (h : CommitHdr) (op : PairOp)
  | commitDone (tag : Nat) (status : Status)
  | mirrorFetch (d : Datum)
  | report (device : Nat) (status : Status)
  | peerEvent (device : Nat) (e : EventMsg)
  | bisnp (port : Nat) (ld : Nat) (line : Nat)
  | memData (port : Nat) (ld : Nat) (dpa : Nat) (data : List Byte)
  | memPoison (port : Nat) (ld : Nat) (dpa : Nat)
  | spdm (transport : Nat) (r : SpdmResp)
  | training (port : Nat)
  | wakeSet (port : Nat)
  | sleepSet (port : Nat)
  | flashErase (group : Nat) (band : Nat)
  | regValue (rq : Requester) (value : BitVec 64)
  deriving DecidableEq, Repr

/-! ## The machine -/

/-- The device: every register, table, queue, mode and pin the spec gives it. -/
structure Dev where
  /-- What the device has sent, newest first (the model's own). -/
  out : List Out
  /-- Counter of the free values drawn (the model's own; see Config). -/
  free : Nat
  /-- Fabric time and synchronisation. -/
  sync : Sync
  /-- Frames and timetables. -/
  tt : Schedule
  /-- Sequences, seats and pages. -/
  kvs : Kvs
  /-- The prefix store. -/
  pfx : Pfx
  /-- The attention service. -/
  att : Att
  /-- Tiers, movement and weight objects. -/
  tir : Tir
  /-- The flash store. -/
  fls : Fls
  /-- Links and transport. -/
  auv : Auv
  /-- Egress and policing. -/
  shp : Shp
  /-- The pair. -/
  par : Par
  /-- Hosts and regions. -/
  cxl : Cxl
  /-- Image, start-up and transactions. -/
  cfg : Cfg
  /-- Identity and attestation. -/
  sec : Sec
  /-- Faults and supervision. -/
  ras : Ras
  /-- Power, pins and sensors. -/
  pwr : Pwr
  /-- R4, R510: the registers that hold RWL fields, by register ID. -/
  regs : Map (BitVec 64)
  /-- R510: the 32-bit saturating counters, by register ID. -/
  counters : Map Nat
  /-- R103, R287, R460: the bytes of weight objects and regions, by device virtual address. -/
  mem : List Host.Cell
  deriving DecidableEq, Repr

/-- The block: the device, and the queue of the commands that wait. DESIGN CHOICE: log entry 1. -/
structure State where
  /-- Commands that wait, first in, first out (the model's own). -/
  pending : List Instr
  /-- The device. -/
  dev : Dev
  deriving DecidableEq, Repr

/-! ## Faults and refusals -/

/-- The faults of the device: none. Every command of the table has an effect in every state (a command that finds nothing to
act on leaves the state as it is), so nothing raises a fault: safe. -/
inductive Fault
  deriving DecidableEq, Repr

/-- Why a command has no next state. -/
inductive Refusal
  /-- Raised by an arm of Dispatch.lean whose command has no meaning yet, and by nothing else: safe. -/
  | notModelled (mnemonic : String)
  deriving DecidableEq, Repr

/-! ## Reset -/

/-- R43, R82: synchronisation at reset; hw and img fields read zero until discovery or the image sets them. -/
def Sync.reset : Sync :=
  { time := 0, latchedHigh := none, state := .acquire, since := 0, starting := true, good := 0, bad := 0, promise := false,
    lastSync := 0, heard := false, gmDevice := 0, gmAnnounce := 0, gmAnnounceAt := 0, hops := 0, gmSelf := false, peers := [],
    followed := none, offset := 0, slew := 0, slewPpm := 0, exchanges := [], namedSince := none, ppsAt := none,
    lateStart := false, variantAbsent := false, ppsMissing := false }

/-- R50: no frame has run. -/
def Schedule.reset : Schedule :=
  { set := [], running := none, origin := 0, frame := 0, frameStart := 0, framePos := 0, started := false,
    adopted := none, pending := none, variant := .normal, profile := .throughput, switchAt := none,
    absentService := false, charges := [], uses := [], batch := [], batchChanges := [] }

/-- R85: every index is free, in ascending order with gen 0. -/
def Kvs.reset : Kvs :=
  { seqs := [], gens := [], freeNext := 0, freeSkip := [], freeQueue := [], seats := [], seatWaits := [], staging := [],
    pages := [], nextPage := 0, nextWait := 0, battFull := false }

/-- The prefix store at reset: no node, an empty array. -/
def Pfx.reset : Pfx :=
  { scopes := [], nodeGen := 0, dir := [], cuckooPtr := 0, arr := [], shadow := [], inserts := [], sweep := 0, pins := [],
    pinOps := [], pinWaits := [], pinEpisode := false, plists := [], multiHit := false, falseHit := false, dirFull := false,
    pinFull := false }

/-- R219: the start indices are 0; cores are discovered at start-up. -/
def Att.reset : Att :=
  { reqs := [], nextReq := 0, startEast := 0, startWest := 0, pcores := [], lmap := [], takeovers := [], models := [],
    modelChanges := [], refused := false, segError := false, partialSet := false, widened := false, fencedSet := false }

/-- No pool, home, move or object at reset. -/
def Tir.reset : Tir :=
  { moves := [], nextMove := 0, drains := [], heat := [], heatFrame := 0, reserveUsed := [], coldUsed := 0, weightUsed := 0,
    regionUsed := 0, stagingUnits := 0, regionPool := 0, weightPool := 0, reservePool := 0, coldPool := 0, tablePool := 0,
    plistPool := 0, t1Homes := [], demoting := false, allocWaits := [], dieProj := [], proj := [], refetches := [],
    lostPages := [], lostUnlisted := [], objs := [], deadlines := [], lists := [], t1Full := false, queueFull := false,
    objectLost := false, pageLost := false, lostFull := false }

/-- No die is known before discovery (R308); no checkpoint root is on the dies of a new board. -/
def Fls.reset : Fls :=
  { dies := [], diesPerChannel := 0, planes := 0, blocksPerPlane := 0, pagesPerBlock := 0, spareBlocks := 0, tReadMaxNs := 0,
    dieRetryLevels := 0, groups := 0, refused := [], bands := [], nextSeq := 0, remap := [], sparesUsed := [], writers := [],
    relocs := [], degraded := [], reads := [], nextRead := 0, roots := [], ckpt := none, ckptAsked := false, ckptAt := 0, lastMs := 0,
    uncorrectable := false, programFail := false, eraseFail := false, dieFailed := false, groupDegraded := false,
    noFreeBand := false, ckptAbort := false, ckptFallback := false, ckptLost := false }

/-- R344: every port is DOWN (a port not in the map); no epoch has been drawn. -/
def Auv.reset : Auv :=
  { ports := [], paths := [], epoch := none, aonEpoch := none, lostEpoch := none, reasm := [], chans := [], ranges := [], misses := [],
    stalls := [], vlog := [], vlogHead := 0, subs := [], txCsn := [], nextMsg := 0 }

/-- R395: no list, every gate open. -/
def Shp.reset : Shp :=
  { egress := [], policers := [], lists := [], lateStart := false, discarded := false, policed := false, transitDrop := false }

/-- R433: JOINING (code 0). -/
def Par.reset : Par :=
  { state := .joining, since := 0, deviceId := 0, dimX := 0, dimY := 0, partnerId := 0, tookOver := false, takeoverEpoch := 0,
    commitSeq := 0, nextTag := 0, waits := [], ownerB := [], objOwnerB := [], lastHeartbeat := 0, heartbeatsSince := none, pairHeartbeat := 0,
    hbCount := 0, witness := false, partnerHeard := false, copies := [], appendCopies := [], sealWaits := [], reroute := [], fromPaused := false, discarded := false, peerConfig := none, resyncOps := [],
    lagEvent := none, pausedSet := false, lagSet := false, isolatedSet := false, replacedSet := false }

/-- R461: no region; every LD is as its binding makes it once the image is loaded. -/
def Cxl.reset : Cxl :=
  { links := [], lds := [], allocs := [], regions := [], snoop0 := [], snoop1 := [], snoopOrder := 0, snoopWaits := [],
    frozen := [], held := [], timestamp := 0, timestampAt := 0 }

/-- R512: no transaction. -/
def Txn.reset : Txn :=
  { state := .idle, id := 0, holder := none, mine := false, items := [], bytes := 0, lastCmd := 0, boundary := 0,
    persistent := false, late := false, arrived := 0, tag := none, peerTag := none }

/-- R502: phase BOOT (1), in internal reset; the banks of a new board are erased. -/
def Cfg.reset : Cfg :=
  { phase := .boot, stepAt := 0, step := 0, internalReset := true, romFailed := false, excluded := [], bankA := none,
    bankB := none, bootBank := false, fallback := false, image := none, fwPending := false, nvmJobs := [], wp := false,
    floor := 0, validA := false, validB := false, nvmWriteFail := false, txnExpired := false, txn := Txn.reset, permitted := 0,
    tenants := [] }

/-- R526: no identity before step 1. -/
def Sec.reset : Sec :=
  { identity := .none, copy0 := none, copy1 := none, inUse := false, fallback := false, bundleRefused := false, signers := [],
    pubHash := 0, storeSeq := 0, conns := [], jobs := [], nextToken := 0 }

/-- R545: no retired frame; R559: not self-fenced. -/
def Ras.reset : Ras :=
  { retired := [], corrections := [], scrubAt := 0, lostChannels := [], recentUe := [], running := [], coreResets := 0,
    resetTimes := [], lastLive := 0, selfFenced := false, reclaimHalted := false, expired := [], dramUe := false,
    channelLost := false, sramUe := false, mgmtReset := false, handshake := false, lastStatus := 0, lastLog := 0,
    lastTime := 0, limited := [] }

/-- R575: every domain is ON from reset (a domain not in the map). -/
def Pwr.reset : Pwr :=
  { domains := [], waits := [], coreMhz := 0, budgetMhz := 0, thermalMhz := 0, thermalAt := 0, budgetClamp := false,
    thermalClamp := false, hottest := 0, maxC := 0, stackMaxC := 0, rails := 0, thermtrip := false, tripSensor := 0,
    railFault := 0, tripped := false, thermtripPin := false, nandWpLow := true,
    straps := { testEn := false, rcv := false, i3cAddr := 0 }, part := 0 }

/-- The device right after reset: in internal reset, waiting for RESET_RELEASE; NVM, flash and always-on island as on a new
board. Every register has the value its map gives, and zero where the map says img or hw. DESIGN CHOICE: log entry 4. -/
def Dev.reset : Dev :=
  { out := [], free := 0, sync := Sync.reset, tt := Schedule.reset, kvs := Kvs.reset, pfx := Pfx.reset,
    att := Att.reset, tir := Tir.reset, fls := Fls.reset, auv := Auv.reset, shp := Shp.reset, par := Par.reset,
    cxl := Cxl.reset, cfg := Cfg.reset, sec := Sec.reset, ras := Ras.reset, pwr := Pwr.reset, regs := [], counters := [],
    mem := [] }

/-- The block right after reset: its queue is empty. DESIGN CHOICE: log entry 4. -/
def State.reset : State := { pending := [], dev := Dev.reset }

end Sys2Proof.Machine
end

