-- ==== Sys2Proof/Machine/Registers.lean ====
section
/-! DEFINITION. The register file (R510, R511): the register IDs in the order of the manual's register sections, the RWL fields
with their ranges (R556), and the accessors of the configuration fields. -/

namespace Sys2Proof.Machine

/-! ## Register IDs (R510); an arrayed register is named by its first instance -/

namespace Reg

def kvsConfig : Nat := 0x1000
def kvsOccupancy : Nat := 0x1001
def kvsBattStatus : Nat := 0x1002
def kvsRefusals : Nat := 0x1003
def pfxBankCfg : Nat := 0x2000
def pfxDirConfig : Nat := 0x2001
def pfxStatus : Nat := 0x2002
def pfxMultiHitCount : Nat := 0x2003
def pfxSkipCount : Nat := 0x2004
def pfxFalseHitCount : Nat := 0x2005
def pfxDeclineCount : Nat := 0x2006
def attStatus : Nat := 0x3000
def attReqCount : Nat := 0x3001
def attRefuseCount : Nat := 0x3002
def attSegErrCount : Nat := 0x3003
def attPartialCount : Nat := 0x3004
def attWidenCount : Nat := 0x3005
def attLcoreMap : Nat := 0x3006
def attPcoreState : Nat := 0x3016
def attExecStatus : Nat := 0x305A
def attResidueCount : Nat := 0x305B
def attFenceCount : Nat := 0x305C
def attNonfiniteCount : Nat := 0x305D
def tirConfig : Nat := 0x4000
def tirWconfig : Nat := 0x4001
def tirPoolStatus : Nat := 0x4002
def tirStatus : Nat := 0x4003
def tirPromoteCount : Nat := 0x4004
def tirDemoteCount : Nat := 0x4005
def tirBypassCount : Nat := 0x4006
def tirLateCount : Nat := 0x4007
def tirRefetchCount : Nat := 0x4008
def flsConfig : Nat := 0x5000
def flsConfig2 : Nat := 0x5001
def flsDieGeometry : Nat := 0x5002
def flsChanState : Nat := 0x5003
def flsStatus : Nat := 0x5043
def flsCkptStatus : Nat := 0x5044
def flsRetryCount : Nat := 0x5045
def flsRebuildCount : Nat := 0x5046
def flsUncorrCount : Nat := 0x5047
def flsRetireCount : Nat := 0x5048
def flsRefreshCount : Nat := 0x5049
def iatFabricTime : Nat := 0x6000
def iatStatus : Nat := 0x6001
def iatConfig : Nat := 0x6002
def iatOffset : Nat := 0x6003
def iatFrame : Nat := 0x6004
def iatTtActive : Nat := 0x6005
def auvPortStatus : Nat := 0x7000
def auvPortAsym : Nat := 0x700D
def auvTransportConfig : Nat := 0x701A
def auvCtxStatus : Nat := 0x701B
def auvVlogHead : Nat := 0x701C
def auvFlitDropCount : Nat := 0x701D
def auvRetxCount : Nat := 0x701E
def auvMissDropCount : Nat := 0x701F
def auvMalformedCount : Nat := 0x7020
def auvPsnRangeCount : Nat := 0x7021
def auvViolationCount : Nat := 0x7022
def auvRnrCount : Nat := 0x7023
def shpPortConfig : Nat := 0x8000
def shpBucket : Nat := 0x800D
def shpTransitConfig : Nat := 0x805B
def shpGateStatus : Nat := 0x805C
def shpStatus : Nat := 0x8069
def shpHoldCount : Nat := 0x806A
def shpPoliceDropCount : Nat := 0x806B
def shpTransitDropCount : Nat := 0x806C
def parConfig : Nat := 0x9000
def parStatus : Nat := 0x9001
def parCommit : Nat := 0x9002
def parMirrorBacklog : Nat := 0x9003
def parControl : Nat := 0x9004
def parSuspectCount : Nat := 0x9005
def parLagCount : Nat := 0x9006
def parTakeoverCount : Nat := 0x9007
def cxlConfig : Nat := 0xA000
def cxlLdBind : Nat := 0xA001
def cxlLdStatus : Nat := 0xA021
def cxlSfStatus : Nat := 0xA023
def cxlDiscardCount : Nat := 0xA025
def cxlConflictCount : Nat := 0xA026
def cxlBiCount : Nat := 0xA027
def cxlPoisonCount : Nat := 0xA028
def cfgStatus : Nat := 0xB000
def cfgImageInfo : Nat := 0xB001
def cfgNvmStatus : Nat := 0xB002
def cfgTxnStatus : Nat := 0xB003
def cfgRunConfig : Nat := 0xB004
def cfgTxnCount : Nat := 0xB005
def cfgRollbackCount : Nat := 0xB006
def cfgNvmWriteCount : Nat := 0xB007
def cfgRwlRefuseCount : Nat := 0xB008
def cfgPart : Nat := 0xB009
def cfgStraps : Nat := 0xB00A
def secStatus : Nat := 0xC000
def secDeviceKeyId : Nat := 0xC001
def secStoreSeq : Nat := 0xC002
def secSpdmCount : Nat := 0xC003
def secSpdmErrorCount : Nat := 0xC004
def rasConfig : Nat := 0xD000
def rasStatus : Nat := 0xD001
def rasDramLost : Nat := 0xD002
def rasLastEvent : Nat := 0xD00A
def rasMgmtStatus : Nat := 0xD00B
def rasDramCeCount : Nat := 0xD00C
def rasDramUeCount : Nat := 0xD00D
def rasSramCeCount : Nat := 0xD00E
def rasSramUeCount : Nat := 0xD00F
def rasHandshakeCount : Nat := 0xD010
def rasGlitchCount : Nat := 0xD011
def pwrState : Nat := 0xE000
def pwrLastWake : Nat := 0xE06A
def pwrPolicy : Nat := 0xE0D4
def pwrStatus : Nat := 0xE13E
def pwrEntryCount : Nat := 0xE13F
def pwrAbortCount : Nat := 0xE140
def pwrNakCount : Nat := 0xE141
def pwrWakeLateCount : Nat := 0xE142
def pwrRailStatus : Nat := 0xE143
def pwrThermal : Nat := 0xE144
def pwrTripRecord : Nat := 0xE145

end Reg

/-- R4, R556: one RWL field: register, instances, bits [hi:lo], least and greatest value, status of a value outside them. -/
structure RwlField where
  first : Nat
  count : Nat
  hi : Nat
  lo : Nat
  least : Nat
  most : Nat
  err : Status
  deriving DecidableEq, Repr

/-- The RWL fields, part 1. -/
def rwlFields1 : List RwlField :=
  [⟨Reg.kvsConfig, 1, 31, 16, 0, 65535, St.kvsRange⟩,
   ⟨Reg.kvsConfig, 1, 15, 0, 0, 65535, St.kvsRange⟩,
   ⟨Reg.pfxBankCfg, 1, 63, 0, 0, 18446744073709551615, St.pfxRange⟩,
   ⟨Reg.pfxDirConfig, 1, 31, 24, 50, 99, St.pfxRange⟩,
   ⟨Reg.pfxDirConfig, 1, 23, 16, 0, 98, St.pfxRange⟩,
   ⟨Reg.tirConfig, 1, 31, 28, 1, 15, St.tirRange⟩,
   ⟨Reg.tirConfig, 1, 27, 20, 50, 99, St.tirRange⟩,
   ⟨Reg.tirConfig, 1, 19, 12, 0, 98, St.tirRange⟩,
   ⟨Reg.tirConfig, 1, 11, 0, 1, 4095, St.tirRange⟩,
   ⟨Reg.tirWconfig, 1, 31, 16, 0, 65535, St.tirRange⟩,
   ⟨Reg.tirWconfig, 1, 15, 8, 1, 255, St.tirRange⟩,
   ⟨Reg.flsConfig, 1, 31, 22, 1, 600, St.flsRange⟩]

/-- The RWL fields, part 2. -/
def rwlFields2 : List RwlField :=
  [⟨Reg.flsConfig, 1, 21, 18, 0, 15, St.flsRange⟩,
   ⟨Reg.flsConfig, 1, 17, 12, 2, 30, St.flsRange⟩,
   ⟨Reg.flsConfig, 1, 11, 6, 1, 50, St.flsRange⟩,
   ⟨Reg.flsConfig2, 1, 31, 16, 1, 65535, St.flsRange⟩,
   ⟨Reg.flsConfig2, 1, 15, 0, 16, 65535, St.flsRange⟩,
   ⟨Reg.iatConfig, 1, 31, 24, 0, 255, St.iatConfigRange⟩,
   ⟨Reg.iatConfig, 1, 15, 12, 0, 5, St.iatConfigRange⟩,
   ⟨Reg.iatConfig, 1, 11, 11, 0, 1, St.iatConfigRange⟩,
   ⟨Reg.auvTransportConfig, 1, 63, 49, 20, 20000, St.auvRange⟩,
   ⟨Reg.auvTransportConfig, 1, 48, 39, 10, 1000, St.auvRange⟩,
   ⟨Reg.shpPortConfig, 13, 63, 56, 1, 255, St.shpRange⟩,
   ⟨Reg.shpPortConfig, 13, 55, 48, 1, 255, St.shpRange⟩]

/-- The RWL fields, part 3. -/
def rwlFields3 : List RwlField :=
  [⟨Reg.shpPortConfig, 13, 47, 40, 1, 255, St.shpRange⟩,
   ⟨Reg.shpPortConfig, 13, 39, 32, 1, 255, St.shpRange⟩,
   ⟨Reg.shpPortConfig, 13, 31, 24, 1, 255, St.shpRange⟩,
   ⟨Reg.shpPortConfig, 13, 23, 16, 0, 255, St.shpRange⟩,
   ⟨Reg.shpPortConfig, 13, 15, 11, 0, 31, St.shpRange⟩,
   ⟨Reg.shpPortConfig, 13, 5, 0, 0, 63, St.shpRange⟩,
   ⟨Reg.shpBucket, 78, 31, 14, 1, 262143, St.shpRange⟩,
   ⟨Reg.shpBucket, 78, 11, 0, 2, 4095, St.shpRange⟩,
   ⟨Reg.shpTransitConfig, 1, 31, 18, 256, 8192, St.shpRange⟩,
   ⟨Reg.cxlConfig, 1, 31, 29, 0, 3, St.cxlRange⟩,
   ⟨Reg.cxlConfig, 1, 28, 26, 4, 7, St.cxlRange⟩,
   ⟨Reg.cxlLdBind, 32, 31, 31, 0, 1, St.cxlRange⟩]

/-- The RWL fields, part 4. -/
def rwlFields4 : List RwlField :=
  [⟨Reg.cxlLdBind, 32, 30, 30, 0, 1, St.cxlRange⟩,
   ⟨Reg.cxlLdBind, 32, 11, 0, 0, 4095, St.cxlRange⟩,
   ⟨Reg.cfgRunConfig, 1, 31, 30, 0, 3, St.cfgProfileAbsent⟩,
   ⟨Reg.rasConfig, 1, 31, 28, 1, 15, St.rasRange⟩,
   ⟨Reg.pwrPolicy, 106, 31, 31, 0, 1, St.pwrRange⟩,
   ⟨Reg.pwrPolicy, 106, 30, 30, 0, 1, St.pwrRange⟩,
   ⟨Reg.pwrPolicy, 106, 15, 0, 0, 65535, St.pwrRange⟩,
   ⟨Reg.pwrThermal, 1, 31, 24, 85, 103, St.pwrRange⟩]

/-- Every RWL field of the register file. -/
def rwlFields : List RwlField :=
  rwlFields1 ++ rwlFields2 ++ rwlFields3 ++ rwlFields4

/-- Bits [hi:lo] of a register value, as a number. -/
def bitsOf (w : BitVec 64) (hi lo : Nat) : Nat := w.toNat / 2 ^ lo % 2 ^ (hi - lo + 1)

/-- A mask with ones in bits [hi:lo]. -/
def maskOf (hi lo : Nat) : BitVec 64 := BitVec.ofNat 64 ((2 ^ (hi - lo + 1) - 1) * 2 ^ lo)

/-- A value placed at bits [hi:lo], cut to the field. -/
def fieldAt (hi lo v : Nat) : BitVec 64 := BitVec.ofNat 64 (v % 2 ^ (hi - lo + 1) * 2 ^ lo)

/-- The RWL fields of register `id`. -/
def rwlFieldsOf (id : Nat) : List RwlField :=
  rwlFields.filter fun f => decide (f.first ≤ id) && decide (id < f.first + f.count)

/-- The bits of register `id` that lie in RWL fields. -/
def rwlMask (id : Nat) : BitVec 64 := (rwlFieldsOf id).foldl (fun m f => m ||| maskOf f.hi f.lo) 0

/-- The running value of the RWL fields of a register. -/
def Dev.reg (s : Dev) (id : Nat) : BitVec 64 :=
  match s.regs.find? (fun e => e.1 == id) with
  | some e => e.2
  | none => 0

/-! ## Accessors of the RWL fields -/

def Dev.idleParkK (s : Dev) : Nat := bitsOf (s.reg Reg.kvsConfig) 31 16
def Dev.evictMinK (s : Dev) : Nat := bitsOf (s.reg Reg.kvsConfig) 15 0
def Dev.hwmPct (s : Dev) : Nat := bitsOf (s.reg Reg.pfxDirConfig) 31 24
def Dev.lwmPct (s : Dev) : Nat := bitsOf (s.reg Reg.pfxDirConfig) 23 16
def Dev.coldK (s : Dev) : Nat := bitsOf (s.reg Reg.tirConfig) 31 28
def Dev.coldHwmPct (s : Dev) : Nat := bitsOf (s.reg Reg.tirConfig) 27 20
def Dev.coldLwmPct (s : Dev) : Nat := bitsOf (s.reg Reg.tirConfig) 19 12
def Dev.t2BoundUs (s : Dev) : Nat := bitsOf (s.reg Reg.tirConfig) 11 0
def Dev.wleadNs (s : Dev) : Nat := bitsOf (s.reg Reg.tirWconfig) 31 16
def Dev.wrunFrames (s : Dev) : Nat := bitsOf (s.reg Reg.tirWconfig) 15 8
def Dev.ckptQ (s : Dev) : Nat := bitsOf (s.reg Reg.flsConfig) 31 22
def Dev.retryMax (s : Dev) : Nat := bitsOf (s.reg Reg.flsConfig) 21 18
def Dev.freeMinPct (s : Dev) : Nat := bitsOf (s.reg Reg.flsConfig) 17 12
def Dev.fullerSharePct (s : Dev) : Nat := bitsOf (s.reg Reg.flsConfig) 11 6
def Dev.rdLimitK (s : Dev) : Nat := bitsOf (s.reg Reg.flsConfig2) 31 16
def Dev.wlDelta (s : Dev) : Nat := bitsOf (s.reg Reg.flsConfig2) 15 0
def Dev.gmRank (s : Dev) : Nat := bitsOf (s.reg Reg.iatConfig) 31 24
def Dev.syncInterval (s : Dev) : Nat := bitsOf (s.reg Reg.iatConfig) 15 12
def Dev.ppsEnable (s : Dev) : Nat := bitsOf (s.reg Reg.iatConfig) 11 11
def Dev.rtoQ (s : Dev) : Nat := bitsOf (s.reg Reg.auvTransportConfig) 63 49
def Dev.reasmMs (s : Dev) : Nat := bitsOf (s.reg Reg.auvTransportConfig) 48 39
def Dev.weight4 (s : Dev) (i : Nat) : Nat := bitsOf (s.reg (Reg.shpPortConfig + i)) 63 56
def Dev.weight3 (s : Dev) (i : Nat) : Nat := bitsOf (s.reg (Reg.shpPortConfig + i)) 55 48
def Dev.weight2 (s : Dev) (i : Nat) : Nat := bitsOf (s.reg (Reg.shpPortConfig + i)) 47 40
def Dev.weight1 (s : Dev) (i : Nat) : Nat := bitsOf (s.reg (Reg.shpPortConfig + i)) 39 32
def Dev.weight0 (s : Dev) (i : Nat) : Nat := bitsOf (s.reg (Reg.shpPortConfig + i)) 31 24
def Dev.transitWeight (s : Dev) (i : Nat) : Nat := bitsOf (s.reg (Reg.shpPortConfig + i)) 23 16
def Dev.bucketMode (s : Dev) (i : Nat) : Nat := bitsOf (s.reg (Reg.shpPortConfig + i)) 15 11
def Dev.overhead (s : Dev) (i : Nat) : Nat := bitsOf (s.reg (Reg.shpPortConfig + i)) 5 0
def Dev.rate (s : Dev) (i : Nat) : Nat := bitsOf (s.reg (Reg.shpBucket + i)) 31 14
def Dev.burst4k (s : Dev) (i : Nat) : Nat := bitsOf (s.reg (Reg.shpBucket + i)) 11 0
def Dev.transitBufKib (s : Dev) : Nat := bitsOf (s.reg Reg.shpTransitConfig) 31 18
def Dev.coldStackE (s : Dev) : Nat := bitsOf (s.reg Reg.cxlConfig) 31 29
def Dev.coldStackW (s : Dev) : Nat := bitsOf (s.reg Reg.cxlConfig) 28 26
def Dev.ldEnable (s : Dev) (i : Nat) : Nat := bitsOf (s.reg (Reg.cxlLdBind + i)) 31 31
def Dev.ldOperator (s : Dev) (i : Nat) : Nat := bitsOf (s.reg (Reg.cxlLdBind + i)) 30 30
def Dev.ldTenant (s : Dev) (i : Nat) : Nat := bitsOf (s.reg (Reg.cxlLdBind + i)) 11 0
def Dev.profileCode (s : Dev) : Nat := bitsOf (s.reg Reg.cfgRunConfig) 31 30
def Dev.ceRetire (s : Dev) : Nat := bitsOf (s.reg Reg.rasConfig) 31 28
def Dev.autoRet (s : Dev) (i : Nat) : Nat := bitsOf (s.reg (Reg.pwrPolicy + i)) 31 31
def Dev.autoOff (s : Dev) (i : Nat) : Nat := bitsOf (s.reg (Reg.pwrPolicy + i)) 30 30
def Dev.idleUs (s : Dev) (i : Nat) : Nat := bitsOf (s.reg (Reg.pwrPolicy + i)) 15 0
def Dev.throttleC (s : Dev) : Nat := bitsOf (s.reg Reg.pwrThermal) 31 24

/-- R153, R161: width code of bank b of the match array. -/
def Dev.bankWidth (s : Dev) (b : Nat) : Nat := bitsOf (s.reg Reg.pfxBankCfg) (2 * b + 1) (2 * b)

end Sys2Proof.Machine
end

