-- ==== Sys2Proof/Machine/Ops.lean ====
section
/-! DEFINITION. The named operations over the device's tables and memory: finite maps, the byte memory in its canonical form,
fabric time on arrival, counters, and what leaves the device. -/

namespace Sys2Proof.Machine

/-! ## Finite maps: lists with strictly rising keys -/

/-- The value at key `k`. -/
def mget {α : Type} : Map α → Nat → Option α
  | [], _ => none
  | (k', v) :: m, k => if k' = k then some v else mget m k

/-- The value at key `k`, or `d` where the map has none. -/
def mgetD {α : Type} (m : Map α) (k : Nat) (d : α) : α := (mget m k).getD d

/-- `m` with `v` at key `k`. -/
def mset {α : Type} : Map α → Nat → α → Map α
  | [], k, v => [(k, v)]
  | (k', v') :: m, k, v =>
    if k < k' then (k, v) :: (k', v') :: m
    else if k' = k then (k, v) :: m
    else (k', v') :: mset m k v

/-- `m` without key `k`. -/
def mdel {α : Type} : Map α → Nat → Map α
  | [], _ => []
  | (k', v') :: m, k => if k' = k then m else (k', v') :: mdel m k

/-- `m` with `f` applied to the value at key `k`, where there is one. -/
def mmod {α : Type} : Map α → Nat → (α → α) → Map α
  | [], _, _ => []
  | (k', v') :: m, k, f => if k' = k then (k', f v') :: m else (k', v') :: mmod m k f

/-- `m` with `f` applied to every value. -/
def mmap {α β : Type} (m : Map α) (f : α → β) : Map β := m.map fun e => (e.1, f e.2)

/-- The entries of `m` that `p` keeps. -/
def mkeep {α : Type} (m : Map α) (p : Nat → α → Bool) : Map α := m.filter fun e => p e.1 e.2

/-- Whether key `k` is in `m`. -/
def mhas {α : Type} (m : Map α) (k : Nat) : Bool := (mget m k).isSome

/-- The keys are strictly rising. -/
def mwf {α : Type} : Map α → Bool
  | [] => true
  | [_] => true
  | (k, _) :: (k', v') :: m => decide (k < k') && mwf ((k', v') :: m)

/-! ## Memory: one byte per device virtual address; an address that is not listed reads as zero -/

/-- What an unlisted address reads as (DESIGN CHOICE: the manual gives DRAM no contents after power-on; log entry 3). -/
def memDefault : Byte := 0

/-- The byte at address `a`. DESIGN CHOICE: log entry 3. -/
def memRead (m : List Host.Cell) (a : Nat) : Byte := mgetD m a memDefault

/-- Memory with byte `b` at `a`: writing the default removes the entry, so that equal memories are equal lists. -/
def memWrite (m : List Host.Cell) (a : Nat) (b : Byte) : List Host.Cell :=
  if b = memDefault then mdel m a else mset m a b

/-- `n` bytes from address `a` upward. -/
def memReadN (m : List Host.Cell) (a : Nat) : Nat → List Byte
  | 0 => []
  | n + 1 => memRead m a :: memReadN m (a + 1) n

/-- Memory with the bytes `bs` from address `a` upward. -/
def memWriteN (m : List Host.Cell) (a : Nat) : List Byte → List Host.Cell
  | [] => m
  | b :: bs => memWriteN (memWrite m a b) (a + 1) bs

/-- Memory in which the `n` bytes from `a` read as the default: every entry of the range is dropped. -/
def memClear (m : List Host.Cell) (a n : Nat) : List Host.Cell :=
  m.filter fun e => !(decide (a ≤ e.1) && decide (e.1 < a + n))

/-- The canonical form: addresses strictly rising, no entry equal to the default. -/
def Memory.wf (m : List Host.Cell) : Bool := mwf m && m.all fun e => decide (e.2 ≠ memDefault)

/-- R2: the `n` low bytes of a number, least significant first. -/
def leBytes (v : Nat) : Nat → List Byte
  | 0 => []
  | n + 1 => BitVec.ofNat 8 v :: leBytes (v / 256) n

/-- R2: the number that bytes spell, least significant first. -/
def ofLeBytes : List Byte → Nat
  | [] => 0
  | b :: bs => b.toNat + 256 * ofLeBytes bs

/-! ## Fabric time -/

/-- R36: a command that reaches the device at `t` sets fabric time there; time never goes back.
DEDUCED: log entry 5. DESIGN CHOICE: log entry 83. -/
def arrive (t : Time) (s : Dev) : Dev :=
  if serialLe s.sync.time t then { s with sync.time := t } else s

/-- The fabric time as the device holds it. DEDUCED: log entry 5. -/
def Dev.now (s : Dev) : Time := s.sync.time

/-- Fabric-time units of a number of nanoseconds (16 units a nanosecond). -/
def ns (n : Nat) : Time := BitVec.ofNat 64 (16 * n)

/-- Fabric-time units of a number of microseconds. -/
def us (n : Nat) : Time := ns (1000 * n)

/-- Fabric-time units of a number of milliseconds. -/
def ms (n : Nat) : Time := ns (1000000 * n)

/-- Units from `a` to `b`, for `a` serially at or before `b`. DEDUCED: log entry 6. -/
def elapsed (a b : Time) : Nat := (b - a).toNat

/-- R10, R39: at least `d` units have passed since `since`. DEDUCED: log entry 6. -/
def past (since d now : Time) : Bool := serialLe since now && decide (d.toNat ≤ elapsed since now)

/-! ## A command's effect -/

/-- A command with the effect `f` on the device: the queue of waiting commands is no part of it. -/
def run (f : Dev → Dev) (s : State) : Host.Outcome State Fault Refusal := .next { s with dev := f s.dev }

/-! ## Power and reset gating -/

/-- R588 to R597: the device runs nothing: internal reset, thermal trip, a halted start-up or vendor test mode. DEDUCED: log entry 8. -/
def Dev.asleep (s : Dev) : Bool :=
  s.cfg.internalReset || s.pwr.tripped || decide (s.cfg.phase = .halted) || s.pwr.straps.testEn

/-- R505, R506, R559, R433: the device serves requests: it has started, is not self-fenced and is not joining a pair.
DEDUCED: log entry 8. -/
def Dev.serving (s : Dev) : Bool :=
  !s.asleep && decide (s.cfg.phase = .run) && !s.ras.selfFenced && !decide (s.par.state = .joining)

/-- `f` where `c` holds, nothing otherwise. -/
def onlyIf (c : Bool) (f : Dev → Dev) (s : Dev) : Dev := if c then f s else s

/-- A command meets a device that runs: it sets fabric time and has its effect; a sleeping device ignores it. DEDUCED: log entry 8. -/
def awake (t : Time) (f : Dev → Dev) (s : Dev) : Dev := if s.asleep then s else f (arrive t s)

/-- A service request meets a device that serves: it sets fabric time and has its effect; another device leaves it
unacknowledged. DEDUCED: log entry 8. -/
def service (t : Time) (f : Dev → Dev) (s : Dev) : Dev :=
  if s.asleep then s else if (arrive t s).serving then f (arrive t s) else arrive t s

/-! ## What leaves the device, and counters -/

/-- What the device sends, newest first. DESIGN CHOICE: log entry 9. -/
def emit (o : Out) (s : Dev) : Dev := { s with out := o :: s.out }

/-- R510: a counter, saturating at 0xFFFF_FFFF. -/
def count (id : Nat) (s : Dev) : Dev :=
  { s with counters := mset s.counters id (min 0xFFFFFFFF (mgetD s.counters id 0 + 1)) }

/-- A counter raised by `n`. -/
def countBy (id n : Nat) (s : Dev) : Dev :=
  { s with counters := mset s.counters id (min 0xFFFFFFFF (mgetD s.counters id 0 + n)) }

/-- The next free value drawn: the counter advances (see Config). DESIGN CHOICE: log entry 9. -/
def draw (s : Dev) : Nat × Dev := (s.free, { s with free := s.free + 1 })

/-- R128, R453: the tenant on whose behalf a requester acts; none for an operator, the management controller and the device. -/
def Requester.port? : Requester → Option Nat
  | .ld p _ => some p
  | _ => none

/-! ## List helpers -/

/-- The least number from `lo`, below `lo + n`, that `p` holds of. -/
def leastFrom (p : Nat → Bool) (lo : Nat) : Nat → Option Nat
  | 0 => none
  | n + 1 => if p lo then some lo else leastFrom p (lo + 1) n

/-- Fold over 0, 1, … n − 1. -/
def forN (n : Nat) (f : Nat → Dev → Dev) (s : Dev) : Dev := (List.range n).foldl (fun s i => f i s) s

/-- Fold over a list. -/
def forL {α : Type} (l : List α) (f : α → Dev → Dev) (s : Dev) : Dev := l.foldl (fun s a => f a s) s

/-- Ceiling division. -/
def ceilDiv (a b : Nat) : Nat := (a + b - 1) / b

/-- The element of `l` that comes first under `lt`, the earlier one on a tie. -/
def firstBy {α : Type} (lt : α → α → Bool) : List α → Option α
  | [] => none
  | a :: l =>
    match firstBy lt l with
    | none => some a
    | some b => if lt b a then some b else some a

/-- `a` put into a list that is sorted under `le`, before the first element it comes before. -/
def insertBy {α : Type} (le : α → α → Bool) (a : α) : List α → List α
  | [] => [a]
  | b :: l => if le a b then a :: b :: l else b :: insertBy le a l

/-- The list in ascending order under `le`; equal elements keep their order. -/
def sortBy {α : Type} (le : α → α → Bool) : List α → List α
  | [] => []
  | a :: l => insertBy le a (sortBy le l)

/-- Sum of a measure over a list. -/
def sumBy {α : Type} (f : α → Nat) (l : List α) : Nat := l.foldl (fun n a => n + f a) 0

/-- The list with the element at index `i` replaced. -/
def setAt {α : Type} (l : List α) (i : Nat) (a : α) : List α := l.set i a

end Sys2Proof.Machine
end

