-- ==== Sys2Proof/Machine/Wire.lean ====
section
/-! DEFINITION. What the device puts on its links: routes through the torus (R448, R449), the egress queues with their tags
(R404), path sequence numbers and windows (R360), and the packets of a message (R355). -/

namespace Sys2Proof.Machine

/-! ## Devices and ports -/

/-- R352: device ID of an endpoint. -/
def endpointDevice (e : Nat) : Nat := e / 128 % 512

/-- R352: number of an endpoint. -/
def endpointNumber (e : Nat) : Nat := e % 128

/-- R352: torus x, torus y and side of a device ID. -/
def deviceX (d : Nat) : Nat := d / 32 % 16
def deviceY (d : Nat) : Nat := d / 2 % 16
def deviceSide (d : Nat) : Nat := d % 2

/-- Port codes (R66). -/
def portTorE : Nat := 8
def portTorW : Nat := 9
def portTorN : Nat := 10
def portTorS : Nat := 11
def portPair : Nat := 12

/-- R20: lanes of a port. -/
def portLanes (p : Nat) : Nat := if p < 8 then 16 else if p < 12 then 24 else 32

/-- R344: a port as it stands at reset: DOWN, every counter zero. -/
def Port.idle : Port :=
  { state := .down, lanes := [], faulted := [], farDevice := 0, farPort := 0, farPartner := false, refused := false,
    miswired := false, retrains := 0, fecUncorr := 0, asym := 0, trainedAt := 0, retrainTimes := [], backoff := false,
    retained := false, slept := false, sent := List.replicate 8 0, credits := List.replicate 8 0,
    freed := List.replicate 8 0, rxGroup := 0, rxDropped := [], rxStarts := [] }

/-- The port with code `p`. -/
def Dev.port (s : Dev) (p : Nat) : Port := mgetD s.auv.ports p Port.idle

/-- The state with port `p` changed by `f`. -/
def modPort (p : Nat) (f : Port → Port) (s : Dev) : Dev :=
  { s with auv.ports := mset s.auv.ports p (f (s.port p)) }

/-- R563: a power domain as it stands at reset: ON. -/
def Domain.on : Domain :=
  { state := .on, target := 0, pendingOn := false, aborted := false, lastReason := 0, entryAt := 0, drainBy := 0,
    fromOn := true, wakeHeld := none, wakeSource := 0, wakeDuring := false, wakeAbort := 0, wakeTime := 0, idleSince := 0 }

/-- The power domain with index `d`. -/
def Dev.domain (s : Dev) (d : Nat) : Domain := mgetD s.pwr.domains d Domain.on

/-- The state with power domain `d` changed by `f`. -/
def modDomain (d : Nat) (f : Domain → Domain) (s : Dev) : Dev :=
  { s with pwr.domains := mset s.pwr.domains d (f (s.domain d)) }

/-- R448: a hop may be chosen: the port is UP or DEGRADED. -/
def Dev.linkUp (s : Dev) (p : Nat) : Bool :=
  decide ((s.port p).state = .up) || decide ((s.port p).state = .degraded)

/-- R448, R567: a hop may be newly chosen: the port is up and does not drain towards RET or OFF. -/
def Dev.hopUp (s : Dev) (p : Nat) : Bool :=
  s.linkUp p && !decide ((s.domain (87 + p)).state = .draining)

/-- R423, R418: this device is side A of its pair. -/
def Dev.sideA (s : Dev) : Bool := decide (s.par.deviceId % 2 = 0)

/-- R443: the device that stands in for a lost one. -/
def Dev.standIn (s : Dev) (d : Nat) : Nat := mgetD s.par.reroute d d

/-- R440, R443: packets to device `d` are this device's own. -/
def Dev.isMine (s : Dev) (d : Nat) : Bool :=
  decide (d = s.par.deviceId) || (s.par.tookOver && decide (d = s.par.partnerId))

/-! ## Routes (R448, R449) -/

/-- R448: the minimal first hops in the two torus dimensions from `src` to (x, y). -/
def torusHops (s : Dev) (src x y : Nat) : List Nat :=
  let dx := (x + s.par.dimX - deviceX src) % s.par.dimX
  let dy := (y + s.par.dimY - deviceY src) % s.par.dimY
  (if dx ≠ 0 ∧ 2 * dx ≤ s.par.dimX then [portTorE] else [])
    ++ (if dx ≠ 0 ∧ s.par.dimX ≤ 2 * dx then [portTorW] else [])
    ++ (if dy ≠ 0 ∧ 2 * dy ≤ s.par.dimY then [portTorN] else [])
    ++ (if dy ≠ 0 ∧ s.par.dimY ≤ 2 * dy then [portTorS] else [])

/-- R448: the minimal first hops from this device to device `d`, before ports that are down are left out. -/
def minimalHops (s : Dev) (d : Nat) : List Nat :=
  let src := s.par.deviceId
  if deviceSide d ≠ deviceSide src then
    if s.linkUp portPair ∨ (deviceX d = deviceX src ∧ deviceY d = deviceY src) then [portPair]
    else
      match torusHops s src (deviceX d) (deviceY d) with
      | [] => [portPair]
      | hops => hops
  else torusHops s src (deviceX d) (deviceY d)

/-- R448: the live hops towards device `d`. -/
def liveHops (s : Dev) (d : Nat) : List Nat := (minimalHops s (s.standIn d)).filter s.hopUp

/-- R449: the fixed route of TC7: x first, then y, east and north on a tie; `PAIR` only to reach the pair partner's side. -/
def fixedHop (s : Dev) (d : Nat) : Option Nat :=
  let d := s.standIn d
  match torusHops s s.par.deviceId (deviceX d) (deviceY d) with
  | h :: _ => some h
  | [] => if d = s.par.deviceId then none else some portPair

/-! ## Egress queues -/

/-- R395: the egress side of a port without a list, its queues empty. -/
def Egress.idle : Egress :=
  { queues := [], virt := 0, maxFinish := 0, running := none, entry := 0, entryStart := 0, pending := none, busyUntil := 0,
    dropEvent := none }

/-- The egress side of port `p`. -/
def Dev.egr (s : Dev) (p : Nat) : Egress := mgetD s.shp.egress p Egress.idle

/-- The state with the egress side of port `p` changed by `f`. -/
def modEgress (p : Nat) (f : Egress → Egress) (s : Dev) : Dev :=
  { s with shp.egress := mset s.shp.egress p (f (s.egr p)) }

/-- R406: index of the bucket register of class `c` of port `p`; queue 8, the transit queue, has index 5. -/
def bucketIndex (p c : Nat) : Nat := 6 * p + (if c = 8 then 5 else c)

/-- R406: an empty queue; its credit starts at the burst. -/
def emptyQueue (s : Dev) (p c : Nat) : EQueue :=
  { items := [], lastFinish := 0, credit := s.burst4k (bucketIndex p c) * 4096 }

/-- Queue `c` of port `p`; 8 is the transit queue. -/
def Dev.queue (s : Dev) (p c : Nat) : EQueue := mgetD (s.egr p).queues c (emptyQueue s p c)

/-- The state with queue `c` of port `p` changed by `f`. -/
def modQueue (p c : Nat) (f : EQueue → EQueue) (s : Dev) : Dev :=
  modEgress p (fun e => { e with queues := mset e.queues c (f (s.queue p c)) }) s

/-- R393, R403: stream bytes of a packet. -/
def streamBytes (p : Packet) : Nat := 64 + p.length

/-- R403: counted length of a packet on port `p`. -/
def countedLength (s : Dev) (p : Nat) (k : Packet) : Nat := streamBytes k + s.overhead p

/-- R403, R409: weight of queue `c` of port `p` in fair mode. -/
def queueWeight (s : Dev) (p c : Nat) : Nat :=
  match c with
  | 0 => s.weight0 p
  | 1 => s.weight1 p
  | 2 => s.weight2 p
  | 3 => s.weight3 p
  | 4 => s.weight4 p
  | _ => s.transitWeight p

/-- R408: queue `c` of port `p` runs in bucket mode. -/
def inBucketMode (s : Dev) (p c : Nat) : Bool :=
  decide ((s.port p).state = .degraded) || (decide (c < 5) && decide (s.bucketMode p / 2 ^ c % 2 = 1))

/-- R404: the finish tag of a packet that starts at `start`. -/
def finishTag (s : Dev) (p c : Nat) (k : Packet) (start : BitVec 48) : BitVec 48 :=
  start + BitVec.ofNat 48 (ceilDiv (countedLength s p k * 256) (max 1 (queueWeight s p c)))

/-- R391, R404: a packet joins queue `c` of port `p`. One that wakes an empty fair queue takes the port's virtual time as its
start tag; any other gets its tags when it reaches the head. -/
def enqueue (p c : Nat) (k : Packet) (s : Dev) : Dev :=
  let q := s.queue p c
  let fair := (decide (c < 5) || decide (c = 8)) && !inBucketMode s p c
  let v := (s.egr p).virt
  let item : QPacket :=
    if q.items.isEmpty && fair then { packet := k, startTag := some v, finishTag := finishTag s p c k v }
    else { packet := k, startTag := none, finishTag := 0 }
  modQueue p c (fun q => { q with items := q.items ++ [item] }) s

/-- R448: bytes queued for class `c` on port `p`. -/
def queueBytes (s : Dev) (p c : Nat) : Nat := sumBy (fun i => streamBytes i.packet) (s.queue p c).items

/-- R448: the adaptive choice among hops: fewest bytes queued for the class, the lower port code on a tie. -/
def chooseHop (s : Dev) (c : Nat) (hops : List Nat) : Option Nat :=
  firstBy (fun a b => decide (queueBytes s a c < queueBytes s b c) ||
    (decide (queueBytes s a c = queueBytes s b c) && decide (a < b))) hops

/-- R448, R449: the first hop of a packet of class `tc` to device `d`: TC7 keeps its fixed route while that port is up. -/
def firstHop (s : Dev) (tc d : Nat) : Option Nat :=
  if tc = 7 then
    match fixedHop s d with
    | some p => if s.hopUp p then some p else chooseHop s 7 (liveHops s d)
    | none => none
  else chooseHop s tc (liveHops s d)

/-! ## Path sets -/

/-- R354: the path set that serves an endpoint: 512 + p for the own partner on port p, else the device ID. -/
def peerOf (s : Dev) (e : Nat) : Nat :=
  if endpointDevice e = s.par.deviceId ∧ 64 ≤ endpointNumber e then 512 + (endpointNumber e - 64) / 8 else endpointDevice e

/-- A path set on which nothing has been sent or received. -/
def PathSet.fresh : PathSet :=
  { nextPsn := 0, unacked := [], waiting := [], strikes := [], failed := [], inited := false, cum := 0, accepted := [],
    peerEpoch := none, unackedRx := 0, ackSince := none, rnrWaits := [], rnrCounts := [], awaiting := [] }

/-- The path set to `peer`. -/
def Dev.path (s : Dev) (peer : Nat) : PathSet := mgetD s.auv.paths peer PathSet.fresh

/-- The state with the path set to `peer` changed by `f`. -/
def modPath (peer : Nat) (f : PathSet → PathSet) (s : Dev) : Dev :=
  { s with auv.paths := mset s.auv.paths peer (f (s.path peer)) }

/-- R448: the live hops of a path set. -/
def peerHops (s : Dev) (peer : Nat) : List Nat :=
  if 512 ≤ peer then (if s.hopUp (peer - 512) then [peer - 512] else [])
  else (liveHops s peer).filter fun p => !(s.path peer).failed.contains p

/-- The hop that a packet of class `tc` takes on a path set; none where no path is live. -/
def peerHop (s : Dev) (tc peer : Nat) : Option Nat :=
  if 512 ≤ peer then (peerHops s peer).head?
  else
    match firstHop s tc peer with
    | some p => if (s.path peer).failed.contains p then chooseHop s tc (peerHops s peer) else some p
    | none => none

/-- R360: bytes held in the link buffers by unacknowledged packets. -/
def linkBytes (s : Dev) : Nat :=
  sumBy (fun e => sumBy (fun u => streamBytes u.packet) e.2.unacked) s.auv.paths

/-- R360: the window and the link buffers take another packet. -/
def windowOpen (s : Dev) (peer : Nat) (k : Packet) : Bool :=
  decide ((s.path peer).unacked.length < 4096) && decide (linkBytes s + streamBytes k ≤ 50331648)

/-- R432, R365: a PROBE as this device fills it in. -/
def probeMsg (s : Dev) (kind subject : Nat) (init : Bool) : ProbeMsg :=
  { kind, init, tookOver := s.par.tookOver, device := s.par.deviceId, hbCount := s.par.hbCount, sendTime := s.now,
    commitSeq := s.par.commitSeq, takeoverEpoch := s.par.takeoverEpoch,
    pairState := (match s.par.state with
      | .joining => 0 | .paired => 1 | .suspect => 2 | .paused => 3 | .solo => 4 | .isolated => 5 | .resync => 6),
    subject }

/-- The packet of fragment `i` of a message of `len` bytes (R355). -/
def fragment (src dst opcode tc tenant channel : Nat) (csn : BitVec 32) (msgId len addr opWord i : Nat) (cmpl : Bool)
    (data : List Byte) : Packet :=
  let n := max 1 (ceilDiv len 4096)
  { dst, src, opcode, tc, cmplReq := cmpl, resend := false, tenant, channel, psn := 0, pathId := 0, csn, msgId,
    fragIndex := i, fragCount := if i + 1 = n then n else 0, length := if i + 1 = n then len - 4096 * i else 4096,
    epoch := 0, addr, opWord, headerOk := true, payloadOk := true, payload := (data.drop (4096 * i)).take 4096,
    body := .data }

/-- R356, R361, R376, R391: an unsequenced control packet (ACK, RNR, PROBE, SYNC) joins the TC6 queue of a port. DEDUCED: log entry 40. -/
def sendControl (port opcode dst : Nat) (s : Dev) : Dev :=
  let channel := if opcode = 0x0D then 4 else 0
  enqueue port 6 (fragment (s.par.deviceId * 128) dst opcode 6 0 channel 0 0 (if opcode = 0x23 then 16 else 64) 0 0 0 false []) s

/-- A PROBE leaves on a port towards a device. -/
def sendProbe (port device : Nat) (m : ProbeMsg) (s : Dev) : Dev := emit (.probe port m) (sendControl port 0x24 (128 * device) s)

/-- The device at the other end of a path set: this device itself for a partner of its own. -/
def peerDevice (s : Dev) (peer : Nat) : Nat := if 512 ≤ peer then s.par.deviceId else peer

/-- R365: the PROBE with init that opens a path set after start-up or a new epoch. -/
def initPath (peer : Nat) (s : Dev) : Dev :=
  if (s.path peer).inited then s
  else
    let s := modPath peer (fun ps => { ps with inited := true, nextPsn := 0 }) s
    match peerHop s 6 peer with
    | some p => sendProbe p (peerDevice s peer) (probeMsg s 0 0 true) s
    | none => s

/-- R360: a packet with the next psn of its path set, held until acknowledged, joins the queue of its first hop. -/
def transmitNow (peer : Nat) (k : Packet) (s : Dev) : Dev :=
  let ps := s.path peer
  let hop := peerHop s k.tc peer
  let k := { k with psn := ps.nextPsn, pathId := hop.getD 255, epoch := s.auv.epoch.getD 0 }
  let s := modPath peer (fun ps => { ps with
    nextPsn := ps.nextPsn + 1
    unacked := ps.unacked ++ [{ packet := k, path := hop.getD 255, sentAt := s.now }] }) s
  match hop with
  | some p => enqueue p k.tc k s
  | none => s

/-- R360: a sequenced packet is sent, or waits for the window. DEDUCED: log entry 40. -/
def sendPacket (peer : Nat) (k : Packet) (s : Dev) : Dev :=
  let s := initPath peer s
  if windowOpen s peer k && (s.path peer).waiting.isEmpty then transmitNow peer k s
  else modPath peer (fun ps => { ps with waiting := ps.waiting ++ [k] }) s

/-- R360: packets that waited for the window, sent while it is open. -/
def releaseWaiting (peer : Nat) : Nat → Dev → Dev
  | 0, s => s
  | n + 1, s =>
    match (s.path peer).waiting with
    | [] => s
    | k :: rest =>
      if windowOpen s peer k then
        releaseWaiting peer n (transmitNow peer k (modPath peer (fun ps => { ps with waiting := rest }) s))
      else s

/-- R355, R371: a message of the device's own, cut into packets on the path set of its destination. DEDUCED: log entry 40. -/
def sendMsg (dst opcode tc tenant channel msgId len addr : Nat) (cmpl : Bool) (data : List Byte) (s : Dev) : Dev :=
  let key := endpointDevice dst * 1048576 + channel
  let csn := mgetD s.auv.txCsn key 0
  let src := s.par.deviceId * 128 + (if opcode = 0x0C ∨ opcode = 0x03 then 0 else 1)
  let peer := peerOf s dst
  let s := { s with auv.txCsn := mset s.auv.txCsn key (csn + 1) }
  let s := if cmpl then modPath peer (fun ps => { ps with awaiting := ps.awaiting ++ [(dst, msgId)] }) s else s
  forN (max 1 (ceilDiv len 4096))
    (fun i => sendPacket peer (fragment src dst opcode tc tenant channel csn msgId len addr 0 i cmpl data)) s

/-- R355: a message ID of the device's own. -/
def newMsgId (s : Dev) : Nat × Dev := (s.auv.nextMsg % 65536, { s with auv.nextMsg := s.auv.nextMsg + 1 })

/-! ## Replies -/

/-- R385: the reply of a service or administrative request: status and the fields of its record in ascending offset. An Auvas
requester gets it as a `CMPL`, an error in TC0; an action of the device's own is answered to nobody. DEDUCED: log entry 40. -/
def reply (rq : Requester) (st : Status) (fields : List Nat) (s : Dev) : Dev :=
  match rq with
  | .auvas h _ =>
    sendMsg h.src 0x21 (if st = 0 then h.tc else 0) h.tenant 0 h.msgId (16 + 4 * fields.length) 0 false []
      (emit (.cmpl rq st fields) s)
  | .device => s
  | _ => emit (.cmpl rq st fields) s

end Sys2Proof.Machine
end

