-- ==== Sys2Proof/Machine/Events.lean ====
section
/-! DEFINITION. Raising an event: the three paths of R542, the subscriptions of R386 and R387, the CXL logs of R486 and R487. -/

namespace Sys2Proof.Machine

/-- R386: the tenant field of a device-wide event. -/
def deviceWide : Nat := 0xFFFF

/-- R386, R541: a subscription receives the event: its mask selects the subsystem, and it was made with all set, or the event
concerns its tenant, or the event is device-wide. -/
def Subscription.takes (u : Subscription) (w : Status) (tenant : Nat) : Bool :=
  u.mask.getLsbD (subsystem w) && (u.all || decide (tenant = u.tenant) || decide (tenant = deviceWide))

/-- R387: a subscription with the event queued, or counted as lost when its queue of 64 is full. DEDUCED: log entry 84. -/
def Subscription.push (u : Subscription) (e : EventMsg) : Subscription :=
  if u.queue.length < 64 then { u with queue := u.queue ++ [{ e with seq := u.seq.toNat }], seq := u.seq + 1 }
  else { u with lost := u.lost + 1 }

/-- R386, R387: the event goes to every subscription that takes it. DEDUCED: log entry 40. -/
def toSubscriptions (e : EventMsg) (s : Dev) : Dev :=
  { s with auv.subs := s.auv.subs.map fun u => if u.takes e.status e.tenant then u.push e else u }

/-- R387, R356: the EVENT packets of the subscriptions that took the event. DEDUCED: log entry 84. -/
def sendEvents (e : EventMsg) (s : Dev) : Dev :=
  forL (s.auv.subs.filter fun u => u.takes e.status e.tenant && decide (u.queue.length < 64))
    (fun u s => sendMsg u.dst 0x0C 6 u.tenant u.channel (u.seq.toNat) 32 0 false [] s) s

/-- R453: index of a logical device in the tables: port × 16 + LD. -/
def ldIndex (port ld : Nat) : Nat := 16 * port + ld

/-- R452: a logical device as reset leaves it. -/
def Ld.off : Ld :=
  { state := .disabled, windows := [], logs := [], overflow := [], nextHandle := 1, policy := 0, background := none,
    bgStatus := 0, roEvent := none, rwlEvent := none }

/-- The logical device `l` of port `p`. -/
def Dev.ld (s : Dev) (p l : Nat) : Ld := mgetD s.cxl.lds (ldIndex p l) Ld.off

/-- The state with a logical device changed by `f`. -/
def modLd (p l : Nat) (f : Ld → Ld) (s : Dev) : Dev :=
  { s with cxl.lds := mset s.cxl.lds (ldIndex p l) (f (s.ld p l)) }

/-- R487: the logical device receives the event: an operator receives every event, another LD those of its tenant and, while it
is ACTIVE, the device-wide ones. -/
def ldTakes (s : Dev) (i : Nat) (d : Ld) (tenant : Nat) : Bool :=
  decide (s.ldOperator i = 1) && decide (d.state ≠ .disabled)
    || (decide (tenant = deviceWide) && decide (d.state = .active))
    || (decide (tenant = s.ldTenant i) && decide (d.state ≠ .disabled))

/-- R487: an LD with the event in log `c`, or its overflow counted when the log holds 256 records. -/
def Ld.push (d : Ld) (e : EventMsg) (c : Nat) : Ld :=
  let log := mgetD d.logs c []
  if log.length < 256 then
    { d with logs := mset d.logs c (log ++ [{ handle := d.nextHandle, event := e }]), nextHandle := d.nextHandle + 1 }
  else { d with overflow := mset d.overflow c (mgetD d.overflow c 0 + 1) }

/-- R486, R487: the event goes to every LD that takes it. -/
def toLds (e : EventMsg) (s : Dev) : Dev :=
  { s with cxl.lds := s.cxl.lds.map fun d => if ldTakes s d.1 d.2 e.tenant then (d.1, d.2.push e (logClass e.status)) else d }

/-- R542: an event on its three paths, with the In-Band Interrupt of a Failure or Fatal event. `detail` holds the fields that
the owning chapter gives, in ascending offset. -/
def raise (w : Status) (tenant : Nat) (detail : List Nat) (s : Dev) : Dev :=
  let e : EventMsg := { status := w, tenant, device := s.par.deviceId, seq := 0, time := s.now, detail }
  let s := emit (.event e (logClass w)) s
  let s := { s with ras.lastStatus := w, ras.lastLog := logClass w, ras.lastTime := s.now }
  let s := toLds e (toSubscriptions e (sendEvents e s))
  if 2 ≤ logClass w then emit .ibi s else s

/-- A device-wide event without detail. -/
def raiseDev (w : Status) (s : Dev) : Dev := raise w deviceWide [] s

/-- R541: an event at most once per source in each 1,024 frames; `key` numbers the source. -/
def raiseLimited (key : Nat) (w : Status) (tenant : Nat) (detail : List Nat) (s : Dev) : Dev :=
  match mget s.ras.limited key with
  | some f =>
    if (s.tt.frame - f).toNat < 1024 then s
    else raise w tenant detail { s with ras.limited := mset s.ras.limited key s.tt.frame }
  | none => raise w tenant detail { s with ras.limited := mset s.ras.limited key s.tt.frame }

end Sys2Proof.Machine
end

