-- ==== Sys2Proof/Machine/Commit.lean ====
section
/-! DEFINITION. Pair commits as the commands see them (R423 to R426): a change of pair state is applied by the leader and
answered once both sides hold it; side B proposes it; in SUSPECT it is held; in ISOLATED it is refused. -/

namespace Sys2Proof.Machine

/-- What applying a change gives: the status and reply fields its requester gets, and the state. -/
structure Applied where
  status : Status
  fields : List Nat
  state : Dev

/-- The keys of two maps whose values differ, with the value in the first. -/
def mdiff {α : Type} [DecidableEq α] (a b : Map α) : List (Nat × Option α) :=
  (a.filter fun e => decide (mget b e.1 ≠ some e.2)).map (fun e => (e.1, some e.2))
    ++ (b.filter fun e => !mhas a e.1).map (fun e => (e.1, none))

/-- The map with the listed keys set back. -/
def mrestore {α : Type} (m : Map α) (l : List (Nat × Option α)) : Map α :=
  l.foldl (fun m e => match e.2 with | some v => mset m e.1 v | none => mdel m e.1) m

/-- R426: nothing to take back. -/
def Undo.none : Undo :=
  { seqs := [], seats := [], pages := [], nodes := [], objs := [], models := [], chans := [], batch := [], conf := Option.none }

/-- R426: the records in which `b` differs from `a`, as they are in `a`. DEDUCED: log entry 36. -/
def undoOf (a b : Dev) : Undo :=
  { seqs := mdiff a.kvs.seqs b.kvs.seqs, seats := mdiff a.kvs.seats b.kvs.seats, pages := mdiff a.kvs.pages b.kvs.pages,
    nodes := mdiff a.pfx.dir b.pfx.dir, objs := mdiff a.tir.objs b.tir.objs, models := mdiff a.att.models b.att.models,
    chans := mdiff a.auv.chans b.auv.chans, batch := mdiff a.tt.batch b.tt.batch, conf := none }

/-- R426, R85: the index of a sequence that was never opened goes back to the head of the free list. -/
def returnIndex (i : Nat) (s : Dev) : Dev :=
  if s.kvs.freeNext = i + 1 then { s with kvs.freeNext := i } else { s with kvs.freeQueue := i :: s.kvs.freeQueue }

/-- R519: the configuration as it stands. -/
def confOf (s : Dev) : Conf :=
  { regs := s.regs, tenants := s.cfg.tenants, scopes := s.pfx.scopes, deadlines := s.tir.deadlines,
    policers := s.shp.policers, sched := s.tt, lists := s.shp.lists }

/-- R426: the configuration set back: registers, records, and the timetables in force. -/
def restoreConf (c : Conf) (s : Dev) : Dev :=
  { s with
    regs := c.regs
    cfg.tenants := c.tenants
    pfx.scopes := c.scopes
    tir.deadlines := c.deadlines
    shp.policers := c.policers
    shp.lists := c.lists
    tt.set := c.sched.set
    tt.running := c.sched.running
    tt.origin := c.sched.origin
    tt.pending := c.sched.pending
    tt.variant := c.sched.variant
    tt.profile := c.sched.profile }

/-- R426: a commit is applied on neither side: every record it changed is set back. DEDUCED: log entry 36. -/
def takeBack (u : Undo) (s : Dev) : Dev :=
  let s := { s with
    kvs.seqs := mrestore s.kvs.seqs u.seqs
    kvs.seats := mrestore s.kvs.seats u.seats
    kvs.pages := mrestore s.kvs.pages u.pages
    pfx.dir := mrestore s.pfx.dir u.nodes
    tir.objs := mrestore s.tir.objs u.objs
    att.models := mrestore s.att.models u.models
    auv.chans := mrestore s.auv.chans u.chans
    tt.batch := mrestore s.tt.batch u.batch }
  let s := match u.conf with
    | some c => restoreConf c s
    | none => s
  forL (u.seqs.filter fun e => e.2.isNone) (fun e s => returnIndex e.1 s) s

/-- R433: pair changes reach the other side: PAIRED, or PAUSED through the torus (R439). -/
def Dev.mirrored (s : Dev) : Bool := decide (s.par.state = .paired) || decide (s.par.state = .paused)

/-- R429, R439: mirror copies are queued for a partner that is there, or may come back. -/
def Dev.hasPartner (s : Dev) : Bool := !decide (s.par.state = .solo) && !decide (s.par.state = .joining)

/-- R423: the header of a commit or proposal of this side. -/
def commitHdr (s : Dev) (tag : Nat) (proposal : Bool) (boundary : Option Time) : CommitHdr :=
  { seq := if proposal then 0 else s.par.commitSeq, originB := !s.sideA, proposal, resync := false, boundary, tag }

/-- R424: a commit awaits the other side. -/
def await (w : CommitWait) (s : Dev) : Dev := { s with par.waits := s.par.waits ++ [w], par.nextTag := w.tag + 1 }

/-- R423, R424: the leader applies a change, sends it, and answers once the other side has applied it; alone it answers at
once. DEDUCED: log entry 35. -/
def leaderApply (rq : Requester) (op : PairOp) (boundary : Option Time) (ap : Dev → Applied) (s : Dev) : Dev :=
  let r := ap s
  if r.status ≠ St.ok then reply rq r.status r.fields r.state
  else
    let s1 := { r.state with par.commitSeq := r.state.par.commitSeq + 1 }
    if s1.mirrored then
      let tag := s1.par.nextTag
      await { tag, op, rq, reply := r.fields, status := r.status, proposal := false, held := false, applied := true,
              answered := none, undo := undoOf s s1 }
        (emit (.commit (commitHdr s1 tag false boundary) op) s1)
    else if s1.par.state = .resync then
      reply rq r.status r.fields { s1 with par.resyncOps := s1.par.resyncOps ++ [op] }
    else reply rq r.status r.fields s1

/-- R423: side B proposes a change and waits for it to come back; `fields` is the reply that its checks gave. DEDUCED: log entry 35. -/
def propose (rq : Requester) (op : PairOp) (boundary : Option Time) (fields : List Nat) (s : Dev) : Dev :=
  let tag := s.par.nextTag
  await { tag, op, rq, reply := fields, status := St.ok, proposal := true, held := false, applied := false, answered := none,
          undo := Undo.none }
    (emit (.commit (commitHdr s tag true boundary) op) s)

/-- R433: a change made in SUSPECT is held. DEDUCED: log entry 35. -/
def hold (rq : Requester) (op : PairOp) (fields : List Nat) (s : Dev) : Dev :=
  await { tag := s.par.nextTag, op, rq, reply := fields, status := St.ok, proposal := !s.sideA, held := true, applied := false,
          answered := none, undo := Undo.none } s

/-- R423, R433: a change of the device's own, applied here already, goes to the other side; nobody waits for it. DEDUCED: log entry 35. -/
def tell (op : PairOp) (s : Dev) : Dev :=
  let tag := s.par.nextTag
  let w : CommitWait := { tag, op, rq := .device, reply := [], status := St.ok, proposal := !s.sideA, held := false,
                          applied := true, answered := none, undo := Undo.none }
  match s.par.state with
  | .paired | .paused =>
    let s := if s.sideA then { s with par.commitSeq := s.par.commitSeq + 1 } else s
    await w (emit (.commit (commitHdr s tag (!s.sideA) none) op) s)
  | .suspect => await { w with held := true } s
  | .resync => { s with par.commitSeq := s.par.commitSeq + 1, par.resyncOps := s.par.resyncOps ++ [op] }
  | _ => { s with par.commitSeq := s.par.commitSeq + 1 }

/-- R426: a change that fails its checks on the side that asks for it goes no further. -/
def checked (rq : Requester) (ap : Dev → Applied) (f : List Nat → Dev → Dev) (s : Dev) : Dev :=
  let r := ap s
  if r.status ≠ St.ok then reply rq r.status r.fields r.state else f r.fields s

/-- R423 to R426, R433, R437: a change of pair state, asked for by `rq`, that `ap` applies. DEDUCED: log entry 35. -/
def pairChange (rq : Requester) (op : PairOp) (boundary : Option Time) (ap : Dev → Applied) (s : Dev) : Dev :=
  match s.par.state with
  | .isolated => reply rq St.parIsolated [] s
  | .suspect => checked rq ap (hold rq op) s
  | .paired | .paused => if s.sideA then leaderApply rq op boundary ap s else checked rq ap (propose rq op boundary) s
  | _ => leaderApply rq op boundary ap s

/-- R419: this side owns the sequence with cold-record index `i`. -/
def ownsSeq (s : Dev) (i : Nat) : Bool := s.par.ownerB.contains i != s.sideA

/-- R420: this side owns the object with index `i`. -/
def ownsObj (s : Dev) (i : Nat) : Bool := s.par.objOwnerB.contains i != s.sideA

end Sys2Proof.Machine
end

