-- ==== Sys2Proof/Machine/Timetable.lean ====
section
/-! DEFINITION. Timetables: the checks of R67 and R600, activation (R72 to R78), variants (R69, R70), and where the slots of a
stream lie in the frames to come (R52 to R59). -/

namespace Sys2Proof

open Machine

/-! ## Codes -/

/-- R66: profile and variant codes. -/
def Profile.code : Profile → Nat
  | .throughput => 0 | .balanced => 1 | .latency => 2 | .density => 3
def Variant.code : Variant → Nat
  | .normal => 0 | .solo => 1 | .degraded => 2 | .soloDegraded => 3
def profileOf : Nat → Profile
  | 0 => .throughput | 1 => .balanced | 2 => .latency | _ => .density

/-- R51: the directions that a class occupies on its port. -/
def SlotClass.ingress : SlotClass → Bool
  | .attend => true | .mirror => true | .transit => true | _ => false
def SlotClass.egress : SlotClass → Bool
  | .result => true | .wstream => true | .mirror => true | .transit => true | _ => false

/-- R51: the slot-class table: the port codes a class allows. -/
def SlotClass.allows : SlotClass → Nat → Bool
  | .attend, p => decide (p < 13)
  | .result, p => decide (p < 13)
  | .wstream, p => decide (p < 13)
  | .promote, p => decide (p = 255)
  | .mirror, p => decide (p = 12)
  | .transit, p => decide (8 ≤ p) && decide (p < 13)

/-! ## The checks of R67 -/

/-- Frame length in nanoseconds. -/
def Timetable.frameNs (tt : Timetable) : Nat := tt.frameLenQ * 250

/-- Frame length in fabric-time units. -/
def Timetable.frameUnits (tt : Timetable) : Nat := tt.frameLenQ * 4000

/-- Cycle length in fabric-time units. -/
def Timetable.cycleUnits (tt : Timetable) : Nat := tt.frameUnits * tt.cycleFrames

/-- The header checks of R67. -/
def Timetable.headerOk (tt : Timetable) : Bool :=
  decide (8 ≤ tt.frameLenQ) && decide (tt.frameLenQ ≤ 256) && decide (1 ≤ tt.cycleFrames) && decide (tt.cycleFrames ≤ 64)
    && decide (tt.slotCount ≤ 256 * tt.cycleFrames) && decide (tt.slotCount = tt.slots.length)
    && decide (tt.containerLen = 64 + 16 * tt.slotCount) && decide (tt.maxAbsent ≤ 16)
    && (decide (tt.variant = .degraded) || decide (tt.variant = .soloDegraded) || decide (tt.maxAbsent = 0))
    && decide (tt.slackPct ≤ 100) && decide (2 ≤ tt.distLead) && decide (tt.distLead ≤ 64)
    && (decide (tt.profile ≠ .latency) || (decide (tt.frameLenQ ≤ 16) && decide (20 ≤ tt.slackPct)))

/-- The slot entry with index `slot` at frame position `pos`. -/
def Timetable.slotAt (tt : Timetable) (pos slot : Nat) : Option SlotEntry :=
  tt.slots.find? fun e => decide (e.framePos = pos) && decide (e.slot = slot)

/-- R53: the entry of the result slot that an ATTEND entry names. -/
def Timetable.resultOf (tt : Timetable) (e : SlotEntry) : Option SlotEntry :=
  tt.slotAt ((e.framePos + e.resultDframes) % tt.cycleFrames) e.resultSlot

/-- R51, R53, R66: the checks of one entry by itself. DEDUCED: log entry 44. -/
def Timetable.entryOk (tt : Timetable) (e : SlotEntry) : Bool :=
  decide (e.framePos < tt.cycleFrames) && decide (e.slot < 256) && decide (64 ≤ e.lengthNs)
    && decide (e.startNs + e.lengthNs ≤ tt.frameNs) && e.cls.allows e.port
    && (if e.cls = .attend then
          decide (e.resultDframes ≤ 15) && decide (1 ≤ e.maxRows) && decide (e.maxRows ≤ 4096)
            && (match tt.resultOf e with
                | some r => decide (r.cls = .result) && decide (r.port = e.port)
                    && (decide (e.resultDframes ≠ 0) || decide (e.startNs + e.lengthNs ≤ r.startNs))
                | none => false)
        else decide (e.resultDframes = 0) && decide (e.resultSlot = 0) && decide (e.maxRows = 0))

/-- R51: two entries of one frame position share a direction of a port and overlap in time. -/
def overlaps (a b : SlotEntry) : Bool :=
  decide (a.framePos = b.framePos) && decide (a.port = b.port)
    && ((a.cls.ingress && b.cls.ingress) || (a.cls.egress && b.cls.egress))
    && decide (a.startNs < b.startNs + b.lengthNs) && decide (b.startNs < a.startNs + a.lengthNs)

/-- R67: an entry against an earlier one: no overlap, a unique slot index, one class and port per stream. -/
def pairOk (a b : SlotEntry) : Bool :=
  !overlaps a b && !(decide (a.framePos = b.framePos) && decide (a.slot = b.slot))
    && (decide (a.stream ≠ b.stream) || (decide (a.cls = b.cls) && decide (a.port = b.port)))

/-- R600: the resources of a device. -/
inductive Resource | dram | flash | egress (port : Nat)
  deriving DecidableEq, Repr

/-- R600: the resources that a slot is charged against. -/
def SlotEntry.resources (e : SlotEntry) : List Resource :=
  match e.cls with
  | .attend => [.dram]
  | .result => [.egress e.port]
  | .wstream => [.egress e.port, .dram]
  | .promote => [.flash, .dram]
  | .mirror => [.egress 12]
  | .transit => [.egress e.port]

/-- R600: capacity of a resource as a fraction in bytes per nanosecond. -/
def capacity (p : Profile) : Resource → Nat × Nat
  | .dram => (match p with | .throughput => 11700 | .balanced => 9360 | .latency => 9940 | .density => 10500, 1)
  | .flash => (195, 1)
  | .egress q => (portLanes q * 50000, match p with | .latency => 1120 | _ => 1075)

/-- R600: start in the cycle, in ns, and length of the interval that a slot occupies its resources. -/
def Timetable.occupies (tt : Timetable) (e : SlotEntry) : Nat × Nat :=
  let start := e.framePos * tt.frameNs + e.startNs
  match e.cls, tt.resultOf e with
  | .attend, some r => (start, e.resultDframes * tt.frameNs + r.startNs - e.startNs)
  | _, _ => (start, e.lengthNs)

/-- R600: how many times the repeating interval of a slot covers the instant `at0` of the cycle. -/
def Timetable.covers (tt : Timetable) (e : SlotEntry) (at0 : Nat) : Nat :=
  let c := tt.frameNs * tt.cycleFrames
  let (start, len) := tt.occupies e
  let off := (at0 + c - start % c) % c
  if off < len then (len - 1 - off) / c + 1 else 0

/-- Sum of two fractions, as numerator and denominator. -/
def addFrac (a b : Nat × Nat) : Nat × Nat := if b.1 = 0 then a else (a.1 * b.2 + b.1 * a.2, a.2 * b.2)

/-- R600: the byte rate charged against a resource at an instant of the cycle. -/
def Timetable.load (tt : Timetable) (r : Resource) (at0 : Nat) : Nat × Nat :=
  tt.slots.foldl (fun acc e =>
    if e.resources.contains r then addFrac acc (e.budgetQ * 65536 * tt.covers e at0, max 1 (tt.occupies e).2) else acc) (0, 1)

/-- R600: the load of a resource at an instant is above its capacity. -/
def Timetable.overloaded (tt : Timetable) (r : Resource) (at0 : Nat) : Bool :=
  let l := tt.load r at0
  let c := capacity tt.profile r
  decide (c.1 * l.2 < l.1 * c.2)

/-- R600: the slot occupies a resource at an instant at which the resource is overloaded. Loads change only where an interval
starts or ends, and are greatest at a start. -/
def Timetable.overCapacity (tt : Timetable) (e : SlotEntry) : Bool :=
  e.resources.any fun r => tt.slots.any fun f =>
    f.resources.contains r && decide (0 < tt.covers e (tt.occupies f).1) && tt.overloaded r (tt.occupies f).1

/-- R67: index of the first entry that fails, from index `i` on; `before` holds the entries already passed. DEDUCED: log entry 45. -/
def Timetable.firstBad (tt : Timetable) (before : List SlotEntry) (i : Nat) : List SlotEntry → Option Nat
  | [] => none
  | e :: rest =>
    if tt.entryOk e && before.all (pairOk e) && !tt.overCapacity e then tt.firstBad (e :: before) (i + 1) rest else some i

/-- R67: at every frame position, the slots of each port and direction leave the slack free. -/
def Timetable.slackOk (tt : Timetable) : Bool :=
  (List.range tt.cycleFrames).all fun pos => (List.range 13).all fun port =>
    let here := tt.slots.filter fun e => decide (e.framePos = pos) && decide (e.port = port)
    decide (100 * sumBy (·.lengthNs) (here.filter (·.cls.ingress)) ≤ (100 - tt.slackPct) * tt.frameNs)
      && decide (100 * sumBy (·.lengthNs) (here.filter (·.cls.egress)) ≤ (100 - tt.slackPct) * tt.frameNs)

/-- R67: the header index of a refusal. DEDUCED: log entry 45. -/
def headerIndex : Nat := 0xFFFFFFFF

/-- R67: none when the timetable passes every check, else the index that its refusal names. DEDUCED: log entry 44. DEDUCED: log entry 45. -/
def Timetable.check (tt : Timetable) : Option Nat :=
  if !tt.headerOk then some headerIndex
  else
    match tt.firstBad [] 0 tt.slots with
    | some i => some i
    | none => if tt.slackOk then none else some headerIndex

/-- R68: the variants of one profile agree: one frame length, and every common stream of one class and port. -/
def variantsAgree (a b : Timetable) : Bool :=
  decide (a.profile ≠ b.profile) || (decide (a.frameLenQ = b.frameLenQ)
    && a.slots.all fun x => b.slots.all fun y =>
      decide (x.stream ≠ y.stream) || (decide (x.cls = y.cls) && decide (x.port = y.port)))

/-- The timetable of a set for a profile and a variant. -/
def pickTt (set : List Timetable) (p : Profile) (v : Variant) : Option Timetable :=
  set.find? fun t => decide (t.profile = p) && decide (t.variant = v)

/-- R28, R68: every timetable passes R67, there is one for a profile and variant, the variants agree, and each permitted profile has a
NORMAL variant. -/
def ttSetOk (set : List Timetable) (permitted : BitVec 4) : Bool :=
  set.all (fun t => decide (t.check = none)) && decide ((set.map fun t => (t.profile, t.variant)).Nodup) && set.all (fun a => set.all (variantsAgree a))
    && (List.range 4).all fun p => !permitted.getLsbD p || (pickTt set (profileOf p) .normal).isSome

/-- R59: max_rows of the ATTEND slot that declares the result slot `r` of frame position `pos` in a timetable. -/
def Timetable.rowsOf (t : Timetable) (pos slot : Nat) : Nat :=
  match t.slots.find? fun e => decide (e.cls = .attend) && decide (e.resultSlot = slot)
      && decide ((e.framePos + e.resultDframes) % t.cycleFrames = pos) with
  | some e => e.maxRows
  | none => 0

end Sys2Proof

namespace Sys2Proof.Machine

/-! ## Frames to come -/

/-- R49: length of the running frame, 8 µs before any timetable runs. -/
def Dev.frameUnits (s : Dev) : Nat :=
  match s.tt.running with
  | some t => t.frameUnits
  | none => 128000

/-- R69: the condition of the device: it has taken over its partner's ID, and how many logical cores are absent. -/
def Dev.absentCores (s : Dev) : Nat := 64 - s.att.lmap.length

/-- R69: the variant that matches the condition. -/
def Dev.wantedVariant (s : Dev) : Variant :=
  match s.par.tookOver, decide (0 < s.absentCores) with
  | false, false => .normal
  | true, false => .solo
  | false, true => .degraded
  | true, true => .soloDegraded

/-- R70: a timetable serves the device's condition: a degraded variant only up to its max_absent. -/
def Dev.serves (s : Dev) (t : Timetable) : Bool :=
  decide (t.variant = .normal) || decide (t.variant = .solo) || decide (s.absentCores ≤ t.maxAbsent)

/-- R69, R70: the timetable of a set that the device's condition asks for. -/
def Dev.fitting (s : Dev) (set : List Timetable) (p : Profile) : Option Timetable :=
  match pickTt set p s.wantedVariant with
  | some t => if s.serves t then some t else none
  | none => none

/-- R71, R70: the timetable that a set runs: the fitting one, else the last variant where the set has it, else NORMAL. -/
def Dev.runsOf (s : Dev) (set : List Timetable) (p : Profile) : Option Timetable :=
  match s.fitting set p with
  | some t => some t
  | none =>
    match pickTt set p s.tt.variant with
    | some t => some t
    | none => pickTt set p .normal

/-- R602: the frame position at which a timetable starts when it takes over at boundary `b` of the running grid, with the time
from which its cycles are counted. DEDUCED: log entry 47. -/
def startPosition (t : Timetable) (b : Time) : Nat × Time :=
  if serialLe t.baseTime b && decide (elapsed t.baseTime b % t.frameUnits = 0) && decide (0 < t.frameUnits) then
    (elapsed t.baseTime b / t.frameUnits % t.cycleFrames, t.baseTime)
  else (0, b)

/-- One frame to come: its number, its start and the slots it runs. -/
structure FrameRef where
  frame : Frame
  start : Time
  slots : List SlotEntry
  deriving DecidableEq, Repr

/-- R54: the start of a slot in a frame that starts at `b`. -/
def slotStart (b : Time) (e : SlotEntry) : Time := b + ns e.startNs

/-- Frames of the running timetable, the current one included, before the pending one takes effect (R74: the last one cut). -/
def Dev.framesLeft (s : Dev) : Option Nat :=
  match s.tt.pending with
  | some p => some (ceilDiv (elapsed s.tt.frameStart p.effective) s.frameUnits)
  | none => none

/-- R74, R601: frame `k` from the current one: of the running timetable, or of the pending one from its effective time on. -/
def Dev.frameRef (s : Dev) (k : Nat) : Option FrameRef :=
  match s.tt.running with
  | none => none
  | some r =>
    let here (cut : SlotEntry → Time → Bool) : FrameRef :=
      let b := s.tt.frameStart + BitVec.ofNat 64 (k * r.frameUnits)
      { frame := s.tt.frame + BitVec.ofNat 32 k, start := b,
        slots := r.slots.filter fun e => decide (e.framePos = (s.tt.framePos + k) % r.cycleFrames) && cut e b }
    match s.tt.pending, s.framesLeft with
    | some p, some left =>
      if k < left then some (here fun e b => serialLt (slotStart b e) p.effective)
      else
        match s.runsOf p.set s.tt.profile with
        | none => none
        | some t =>
          let j := k - left
          some { frame := s.tt.frame + BitVec.ofNat 32 k, start := p.effective + BitVec.ofNat 64 (j * t.frameUnits),
                 slots := t.slots.filter fun e => decide (e.framePos = j % t.cycleFrames) }
    | _, _ => some (here fun _ _ => true)

/-- How many frames after the current one the time `t` lies, for `t` at or after the current frame's start. -/
def Dev.framesTo (s : Dev) (t : Time) : Nat :=
  let n := elapsed s.tt.frameStart t / max 1 s.frameUnits
  match s.tt.pending, s.framesLeft with
  | some p, some left =>
    if serialLt t p.effective then n
    else
      match s.runsOf p.set s.tt.profile with
      | some u => left + elapsed p.effective t / max 1 u.frameUnits
      | none => left
  | _, _ => n

/-- R52, R57: the slots of a stream and class in frame `k`, earliest first. -/
def streamSlots (f : FrameRef) (stream : Nat) (c : SlotClass) : List SlotEntry :=
  sortBy (fun a b => decide (a.startNs ≤ b.startNs))
    (f.slots.filter fun e => decide (e.stream = stream) && decide (e.cls = c))

/-- The first slot of a stream and class that `ok` accepts, from frame `k` on, in at most `n` frames. -/
def Dev.findSlot (s : Dev) (stream : Nat) (c : SlotClass) (ok : FrameRef → SlotEntry → Bool) :
    Nat → Nat → Option (FrameRef × SlotEntry)
  | _, 0 => none
  | k, n + 1 =>
    match s.frameRef k with
    | none => none
    | some f =>
      match (streamSlots f stream c).find? (ok f) with
      | some e => some (f, e)
      | none => s.findSlot stream c ok (k + 1) n

/-- Frames in which every pattern of slots, and every slot already used, has passed: the reach of a search. -/
def Dev.reach (s : Dev) : Nat := 66 * (s.tt.uses.length + s.att.reqs.length + 3)

/-- R50: frame `j` before the current one, of the running timetable. -/
def Dev.frameBefore (s : Dev) (j : Nat) : Option FrameRef :=
  s.tt.running.map fun r =>
    { frame := s.tt.frame - BitVec.ofNat 32 j, start := s.tt.frameStart - BitVec.ofNat 64 (j * r.frameUnits),
      slots := r.slots.filter fun e => decide ((e.framePos + j) % r.cycleFrames = s.tt.framePos) }

/-- Frame number `f`, of the past or to come. -/
def Dev.frameNo (s : Dev) (f : Frame) : Option FrameRef :=
  if serialLe s.tt.frame f then s.frameRef (f - s.tt.frame).toNat else s.frameBefore (s.tt.frame - f).toNat

/-- R52, R54: the ATTEND or WSTREAM slot of a stream that holds the time `t`. -/
def Dev.slotHolding (s : Dev) (stream : Nat) (c : SlotClass) (t : Time) : Option (FrameRef × SlotEntry) :=
  let holds (f : FrameRef) (e : SlotEntry) : Bool :=
    serialLe (slotStart f.start e) t && serialLt t (slotStart f.start e + ns e.lengthNs)
  if serialLt t s.tt.frameStart then
    (s.frameBefore (ceilDiv (elapsed t s.tt.frameStart) (max 1 s.frameUnits))).bind fun f =>
      ((streamSlots f stream c).find? (holds f)).map fun e => (f, e)
  else s.findSlot stream c holds (s.framesTo t) 1

/-- R57: the next slot of a stream that starts after `t`. -/
def Dev.nextSlot (s : Dev) (stream : Nat) (c : SlotClass) (t : Time) : Option (FrameRef × SlotEntry) :=
  s.findSlot stream c (fun f e => serialLt t (slotStart f.start e)) (s.framesTo t) s.reach

/-- The timetable in force in frame number `f`. -/
def Dev.ttOfFrame (s : Dev) (f : Frame) : Option Timetable :=
  match s.tt.pending, s.framesLeft with
  | some p, some left =>
    if serialLt f s.tt.frame || decide ((f - s.tt.frame).toNat < left) then s.tt.running else s.runsOf p.set s.tt.profile
  | _, _ => s.tt.running

/-- R53: the result slot that an ATTEND slot of frame `f` declares, with its entry, where the frame it lies in still has it. -/
def Dev.declaredSlot (s : Dev) (f : FrameRef) (e : SlotEntry) : Option (SlotRef × SlotEntry) :=
  match s.frameNo (f.frame + BitVec.ofNat 32 e.resultDframes), (s.ttOfFrame f.frame).bind (fun t => t.resultOf e) with
  | some g, some own =>
    match g.slots.find? (fun r => decide (r.slot = e.resultSlot) && decide (r.cls = .result) && decide (r.stream = own.stream)) with
    | some r => some ({ frame := g.frame, slot := r.slot, start := slotStart g.start r }, r)
    | none => none
  | _, _ => none

/-- R59: rows that the result slot `r` of frame `f` accepts. -/
def Dev.slotRows (s : Dev) (f : FrameRef) (r : SlotEntry) : Nat :=
  match s.ttOfFrame f.frame with
  | some t => t.rowsOf r.framePos r.slot
  | none => 0

/-- R59: rows already assigned to a result slot. -/
def Dev.rowsUsed (s : Dev) (f : Frame) (slot : Nat) : Nat :=
  sumBy (·.rows) (s.tt.uses.filter fun u => decide (u.frame = f) && decide (u.slot = slot))

/-- R59, R605: the slot belongs to a run. -/
def Dev.inRun (s : Dev) (f : Frame) (slot : Nat) : Bool :=
  s.tt.uses.any fun u => decide (u.frame = f) && decide (u.slot = slot) && u.run

/-- R76: within 2^30 frames of the current one. -/
def Dev.inHorizon (s : Dev) (f : Frame) : Bool := decide ((f - s.tt.frame).toNat ≤ 2 ^ 30)

/-- R59, R606: the first free result slot of `stream` that starts after `bound` and takes `rows` more rows. -/
def Dev.freeSlot (s : Dev) (stream rows : Nat) (bound : Time) : Option (FrameRef × SlotEntry) :=
  match s.findSlot stream .result (fun f e => serialLt bound (slotStart f.start e) && !s.inRun f.frame e.slot
      && decide (s.rowsUsed f.frame e.slot + rows ≤ s.slotRows f e)) (s.framesTo bound) s.reach with
  | some (f, e) => if s.inHorizon f.frame then some (f, e) else none
  | none => none

/-- R605: the result slots of a stream from `bound` on, in order, over `n` frames. DEDUCED: log entry 44. -/
def Dev.resultSlots (s : Dev) (stream : Nat) (bound : Time) : Nat → Nat → List (FrameRef × SlotEntry)
  | _, 0 => []
  | k, n + 1 =>
    match s.frameRef k with
    | none => []
    | some f =>
      ((streamSlots f stream .result).filter fun e => serialLt bound (slotStart f.start e)).map (fun e => (f, e))
        ++ s.resultSlots stream bound (k + 1) n

/-- R605: consecutive slots from the head of the list, all unassigned, whose rows add up to `rows`. -/
def Dev.takeRun (s : Dev) (rows : Nat) : List (FrameRef × SlotEntry) → Option (List SlotRef)
  | [] => none
  | (f, e) :: rest =>
    if s.rowsUsed f.frame e.slot ≠ 0 ∨ s.inRun f.frame e.slot then none
    else
      let here : SlotRef := { frame := f.frame, slot := e.slot, start := slotStart f.start e }
      if rows ≤ s.slotRows f e then some [here]
      else
        match s.takeRun (rows - s.slotRows f e) rest with
        | some l => some (here :: l)
        | none => none

/-- R605: the first run of result slots that carries `rows` rows. -/
def Dev.findRun (s : Dev) (rows : Nat) : List (FrameRef × SlotEntry) → Option (List SlotRef)
  | [] => none
  | l@(_ :: rest) =>
    match s.takeRun rows l with
    | some r => some r
    | none => s.findRun rows rest

/-- R61: result slots of a stream after `a` up to and with `b`, at most 65,535. -/
def Dev.slotsShifted (s : Dev) (stream : Nat) (a b : Time) : Nat :=
  min 65535 ((s.resultSlots stream a (s.framesTo a) (s.framesTo b - s.framesTo a + 1)).filter
    fun x => serialLe (slotStart x.1.start x.2) b).length

/-! ## Activation -/

/-- R72: `b` lies on a boundary of the running timetable's frames. -/
def Dev.onBoundary (s : Dev) (b : Time) : Bool :=
  match s.tt.running with
  | none => true
  | some _ =>
    if serialLe s.tt.frameStart b then decide (elapsed s.tt.frameStart b % max 1 s.frameUnits = 0)
    else decide (elapsed b s.tt.frameStart % max 1 s.frameUnits = 0)

/-- R73: the smallest n that places base_time + n × cycle at least one running frame after `now`. -/
def Dev.resolveN (s : Dev) (t : Timetable) (now : Time) : Nat :=
  let due := now + BitVec.ofNat 64 s.frameUnits
  if serialLe due t.baseTime then 0 else ceilDiv (elapsed t.baseTime due) (max 1 t.cycleUnits)

/-- R73: the effective time of a timetable that arrives at `now`. -/
def Dev.effectiveOf (s : Dev) (t : Timetable) (now : Time) : Time :=
  t.baseTime + BitVec.ofNat 64 (s.resolveN t now * t.cycleUnits)

/-- R76: the time lies within 2^30 running frames of now. -/
def Dev.timeInHorizon (s : Dev) (b : Time) : Bool :=
  decide (elapsed s.now b ≤ 2 ^ 30 * s.frameUnits) || serialLe b s.now

/-- R73: late_start is set and raised when n > 0. -/
def noteLateStart (n : Nat) (s : Dev) : Dev :=
  if 0 < n then raiseDev St.iatLateStart { s with sync.lateStart := true } else s

/-- R601, R73: a set of timetables becomes the pending one, replacing any other. -/
def setPending (set : List Timetable) (effective : Time) (s : Dev) : Dev :=
  { s with tt.pending := some { set, effective, lists := [] } }

/-- R69, R70: the device's condition may have changed: a switch is declared where another variant is wanted, and a missing or
exceeded variant is reported. DEDUCED: log entry 48. -/
def declareVariant (s : Dev) : Dev :=
  match s.tt.running with
  | none => s
  | some r =>
    match s.fitting s.tt.set s.tt.profile with
    | some t =>
      if t.variant = r.variant ∧ !s.tt.absentService then { s with tt.switchAt := none }
      else if s.tt.switchAt.isSome then s else { s with tt.switchAt := some s.now }
    | none =>
      let s := if s.tt.switchAt.isSome then s else { s with tt.switchAt := some s.now }
      raiseDev St.iatVariantAbsent { s with sync.variantAbsent := true }

/-- R79: timetabled service of the image's timetable is started under R73 when no running fabric was heard; frame 0 first. -/
def startImageTimetable (s : Dev) : Dev :=
  if s.tt.started ∨ s.tt.pending.isSome then s
  else
    match s.runsOf s.tt.set s.tt.profile with
    | none => s
    | some t =>
      match s.tt.adopted with
      | some (_, _, next) =>
        let due := s.now + BitVec.ofNat 64 t.frameUnits
        let n := if serialLe due next then 0 else ceilDiv (elapsed next due) (max 1 t.frameUnits)
        setPending s.tt.set (next + BitVec.ofNat 64 (n * t.frameUnits)) s
      | none => noteLateStart (s.resolveN t s.now) (setPending s.tt.set (s.effectiveOf t s.now) s)

end Sys2Proof.Machine
end

