-- ==== Sys2Proof/Machine/Time.lean ====
section
/-! DEFINITION. Fabric time and synchronisation (R36 to R48, R82). -/

namespace Sys2Proof.Machine

/-- R41: the sync interval, 31.25 µs × 2^v, in fabric-time units. -/
def syncUnits (s : Dev) : Nat := 500000 * 2 ^ s.syncInterval

/-- R42: the bound of a silence or an unchanged announce counter: 8 sync intervals. -/
def eightIntervals (s : Dev) : Time := BitVec.ofNat 64 (8 * syncUnits s)

/-- R40: a difference of two timestamps, signed. -/
def tdiff (a b : Time) : Int := (a - b).toInt

/-- R40: ((t2 − t1) − (t4 − t3)) / 2; a half unit goes either way. -/
def exchangeOffset (m : SyncMsg) : Int :=
  let n := tdiff m.t2 m.t1 - tdiff m.t4 m.t3
  n / 2 + (if n % 2 = 1 ∧ Config.halfUnitUp n then 1 else 0)

/-- R37: within ±4 ns, in units of 1/16 ns. -/
def withinLock (off : Int) : Bool := decide (-64 ≤ off) && decide (off ≤ 64)

/-- R43: the correction of an offset (positive when this device is ahead): a slew of at most 50 ppm up to 1 µs, a step forward
when behind by more, a slew back of at most 500 ppm when ahead by more. DESIGN CHOICE: log entry 7. -/
def correct (off : Int) (s : Dev) : Dev :=
  if off < -16000 then
    { s with sync.time := s.sync.time + BitVec.ofInt 64 (-off), sync.slew := 0, sync.slewPpm := 0 }
  else if 16000 < off then { s with sync.slew := -off, sync.slewPpm := 500 }
  else { s with sync.slew := -off, sync.slewPpm := 50 }

/-- R43, R79, R502: the device is synchronised for the first time: start-up goes on to step 8 and timetabled service is started. -/
def enterRun (s : Dev) : Dev :=
  if s.cfg.phase = .sync then
    startImageTimetable { s with cfg.phase := .run, cfg.step := 8, cfg.stepAt := s.now, par.since := s.now, ras.lastLive := s.now }
  else s

/-- R43: into `LOCKED`. -/
def enterLocked (s : Dev) : Dev :=
  enterRun { s with
    sync.state := .locked
    sync.since := s.now
    sync.starting := false
    sync.promise := true
    sync.good := 0
    sync.bad := 0 }

/-- R43, R44: into `ACQUIRE` or `FREE` with the promise withdrawn. -/
def loseSync (st : SyncState) (s : Dev) : Dev :=
  raiseDev St.iatUnsync { s with
    sync.state := st
    sync.since := s.now
    sync.promise := false
    sync.good := 0
    sync.bad := 0 }

/-- R43: one exchange counts towards or against the lock. -/
def judgeOffset (off : Int) (s : Dev) : Dev :=
  let inside := withinLock off
  match s.sync.state with
  | .acquire =>
    if inside then
      if 15 ≤ s.sync.good then enterLocked s else { s with sync.good := s.sync.good + 1 }
    else { s with sync.good := 0 }
  | .locked =>
    if inside then { s with sync.bad := 0 }
    else if 3 ≤ s.sync.bad then loseSync .acquire s
    else { s with sync.bad := s.sync.bad + 1 }
  | .holdover => if inside then enterLocked s else loseSync .acquire s
  | .free => { s with sync.state := .acquire, sync.since := s.now, sync.good := 0, sync.bad := 0 }

/-- R45: the order of candidates: the higher rank, the lower device ID on a tie. -/
def betterGm (a b : Nat × Nat) : Bool := decide (b.1 < a.1) || (decide (a.1 = b.1) && decide (a.2 < b.2))

/-- R45: the candidates a device knows, as rank and device ID: the grandmasters its neighbours follow and, once it has locked,
itself unless its rank is 0. DEDUCED: log entry 46. -/
def gmCandidates (s : Dev) : List (Nat × Nat) :=
  (s.sync.peers.map fun p => (p.2.gmRank, p.2.gmDevice))
    ++ (if s.gmRank ≠ 0 ∧ !s.sync.starting then [(s.gmRank, s.par.deviceId)] else [])

/-- R45: the device that the image names as grandmaster. -/
def namedGm (s : Dev) : Option Nat := s.cfg.image.map (·.body.gmDevice)

/-- R45, R46: the grandmaster that a device elects from what it knows; the named device takes its own role back only with
`GM_RETURN`. DEDUCED: log entry 46. -/
def electGm (s : Dev) : Option Nat :=
  match namedGm s with
  | some n =>
    if s.sync.peers.any (fun p => decide (p.2.gmDevice = n)) ∨ (n = s.par.deviceId ∧ s.sync.gmSelf) then some n
    else (firstBy betterGm ((gmCandidates s).filter fun c => decide (c.2 ≠ n ∨ n ≠ s.par.deviceId))).map (·.2)
  | none => (firstBy betterGm (gmCandidates s)).map (·.2)

/-- R42: the neighbour to follow: the lowest hop count to the elected grandmaster, the lowest port on a tie. -/
def followPort (s : Dev) (gm : Nat) : Option (Nat × SyncPeer) :=
  firstBy (fun a b => decide (a.2.hops < b.2.hops) || (decide (a.2.hops = b.2.hops) && decide (a.1 < b.1)))
    (s.sync.peers.filter fun p => decide (p.2.gmDevice = gm))

/-- R42, R45: the device follows what it elects; a change of the acting grandmaster is raised. -/
def follow (s : Dev) : Dev :=
  match electGm s with
  | none => s
  | some gm =>
    let changed := decide (gm ≠ s.sync.gmDevice) && !s.sync.starting
    let self := decide (gm = s.par.deviceId)
    let s := match followPort s gm with
      | some (p, q) =>
        if self then { s with sync.followed := none, sync.hops := 0 }
        else
          let fresh := decide (q.announce ≠ s.sync.gmAnnounce) || decide (gm ≠ s.sync.gmDevice)
          { s with
            sync.followed := some p
            sync.hops := q.hops + 1
            sync.gmAnnounce := q.announce
            sync.gmAnnounceAt := if fresh then s.now else s.sync.gmAnnounceAt }
      | none => { s with sync.followed := none, sync.hops := 0 }
    let s := { s with sync.gmDevice := gm, sync.gmSelf := self }
    if changed then raiseDev St.iatGmChange s else s

/-- R42: what the neighbour on a port says of itself. -/
def hear (port : Nat) (m : SyncMsg) (s : Dev) : Dev :=
  let q : SyncPeer := { gmDevice := m.gmDevice, announce := m.announce, hops := m.hops, gmRank := m.gmRank, heardAt := s.now }
  let named := match namedGm s with
    | some n => decide (n = s.par.deviceId) && !s.sync.gmSelf
    | none => false
  { s with
    sync.peers := mset s.sync.peers port q
    sync.heard := true
    sync.lastSync := s.now
    sync.exchanges := s.sync.exchanges.erase port
    sync.namedSince := if named then (match s.sync.namedSince with | some t => some t | none => some s.now) else none }

/-- R40 to R47: a SYNC exchange on a link. -/
def syncExchange (port : Nat) (m : SyncMsg) (s : Dev) : Dev :=
  let s := follow (hear port m s)
  if s.sync.gmSelf then s
  else if s.sync.followed = some port then
    let off := exchangeOffset m - (s.port port).asym.toInt
    judgeOffset off (correct off { s with sync.offset := BitVec.ofInt 32 off })
  else if s.sync.state = .free then { s with sync.state := .acquire, sync.since := s.now, sync.good := 0, sync.bad := 0 }
  else s

/-- R41: an exchange starts on every link; the acting grandmaster's announce counter advances. DEDUCED: log entry 46. -/
def startExchanges (s : Dev) : Dev :=
  let ports := (List.range 13).filter s.linkUp
  let s := { s with
    sync.exchanges := ports
    sync.gmAnnounce := if s.sync.gmSelf then s.sync.gmAnnounce + 1 else s.sync.gmAnnounce }
  forL ports (fun p s => emit (.syncOut p) (sendControl p 0x0D (128 * (s.port p).farDevice) s)) s

/-- R43: 8 intervals of silence in LOCKED. The acting grandmaster has nothing to hold over to. -/
def syncSilence (s : Dev) : Dev :=
  if s.sync.state = .locked ∧ !s.sync.gmSelf ∧ past s.sync.lastSync (eightIntervals s) s.now then
    raiseDev St.iatHoldover { s with sync.state := .holdover, sync.since := s.now }
  else s

/-- R43, R45: the grandmaster's announce counter has stood for 8 intervals: whoever follows it is no candidate, and another is
elected. -/
def announceTimeout (s : Dev) : Dev :=
  if s.sync.state = .locked ∧ !s.sync.gmSelf ∧ past s.sync.gmAnnounceAt (eightIntervals s) s.now then
    let gone := s.sync.gmDevice
    let s := { s with sync.peers := mkeep s.sync.peers fun _ q => decide (q.gmDevice ≠ gone) }
    let s' := follow s
    if s'.sync.gmDevice = gone then raiseDev St.iatGmChange { s' with sync.gmAnnounceAt := s.now } else s'
  else s

/-- R43, R502: 1 s in ACQUIRE at start-up, from the end of step 5. -/
def acquireTimeout (s : Dev) : Dev :=
  if s.cfg.phase = .sync ∧ s.sync.state = .acquire ∧ s.sync.starting ∧ past s.sync.since (ms 1000) s.now then
    if s.sync.heard then
      let s := if s.cfg.step = 7 then raise St.cfgStepTimeout deviceWide [7] s else s
      enterRun (raiseDev St.iatLockTimeout { s with sync.starting := false })
    else
      enterLocked (raiseDev St.iatGmChange
        { s with sync.gmSelf := true, sync.gmDevice := s.par.deviceId, sync.hops := 0, sync.followed := none })
  else s

/-- R43: 10 ms in HOLDOVER. -/
def holdoverTimeout (s : Dev) : Dev :=
  if s.sync.state = .holdover ∧ past s.sync.since (ms 10) s.now then loseSync .free s else s

/-- R46: the named grandmaster, reachable for 1 s, takes the role back; fabric time goes on. DEDUCED: log entry 46. -/
def gmReturn (s : Dev) : Dev :=
  match namedGm s, s.sync.namedSince with
  | some n, some since =>
    if n = s.par.deviceId ∧ !s.sync.gmSelf ∧ s.sync.state = .locked ∧ past since (ms 1000) s.now then
      raiseDev St.iatGmChange { s with
        sync.gmSelf := true
        sync.gmDevice := n
        sync.hops := 0
        sync.followed := none
        sync.namedSince := none
        sync.slew := 0 }
    else s
  | _, _ => s

/-- R48: one second in fabric-time units. -/
def secondUnits : Nat := 16000000000

/-- R48, R554, R589: a valid edge of PPS_IN at the acting grandmaster sets the slew that brings it onto a whole second.
DEDUCED: log entry 46. -/
def ppsEdge (highNs : Nat) (s : Dev) : Dev :=
  if s.ppsEnable = 1 ∧ s.sync.gmSelf ∧ 100 ≤ highNs ∧ highNs ≤ 500000000 then
    let r := s.now.toNat % secondUnits
    let err : Int := if 2 * r ≤ secondUnits then -(r : Int) else (secondUnits - r : Nat)
    { s with sync.slew := err, sync.slewPpm := 50, sync.ppsAt := some s.now }
  else s

/-- R48: no edge for 2 s: the device keeps its own rate. -/
def ppsMissing (s : Dev) : Dev :=
  let since := s.sync.ppsAt.getD s.sync.since
  if s.ppsEnable = 1 ∧ s.sync.gmSelf ∧ past since (ms 2000) s.now then
    raiseDev St.iatPpsMissing { s with sync.ppsMissing := true, sync.slew := 0, sync.ppsAt := none }
  else s

/-- R511, R453: a requester that reads and writes the register file: an operator LD, the management controller, the device; in
recovery every LD is an operator (R506). -/
def isOperator (s : Dev) : Requester → Bool
  | .ld p l => decide (s.cfg.phase = .recovery) || decide (s.ldOperator (ldIndex p l) = 1)
  | .mctp => true
  | .device => true
  | .auvas _ _ => false

/-- R82, R511: a read of the low half of IAT_FABRIC_TIME latches the high half; an LD that is no operator reads zero. -/
def readTimeLow (rq : Requester) (s : Dev) : Dev :=
  if isOperator s rq then
    emit (.regValue rq (s.now &&& 0xFFFFFFFF#64)) { s with sync.latchedHigh := some ((s.now >>> 32).setWidth 32) }
  else emit (.regValue rq 0) s

/-- R502, R506: the phases in which the device keeps fabric time: from the end of step 2 on, but not in recovery. -/
def keepsTime (s : Dev) : Bool :=
  match s.cfg.phase with
  | .train | .nand | .restore | .sync | .run => true
  | _ => false

/-- An event of synchronisation meets a device that keeps fabric time. -/
def timed (t : Time) (f : Dev → Dev) : Dev → Dev := awake t fun s => if keepsTime s then f s else s

/-! ## Meanings -/

/-- SYNC. -/
def execSync (t : Time) (port : Nat) (m : SyncMsg) (s : State) : Host.Outcome State Fault Refusal :=
  run (timed t (syncExchange port m)) s

/-- SYNC_INTERVAL. -/
def execSyncInterval (t : Time) (s : State) : Host.Outcome State Fault Refusal := run (timed t startExchanges) s

/-- SYNC_SILENCE_TIMEOUT. -/
def execSyncSilenceTimeout (t : Time) (s : State) : Host.Outcome State Fault Refusal := run (timed t syncSilence) s

/-- GM_ANNOUNCE_TIMEOUT. -/
def execGmAnnounceTimeout (t : Time) (s : State) : Host.Outcome State Fault Refusal := run (timed t announceTimeout) s

/-- ACQUIRE_TIMEOUT. -/
def execAcquireTimeout (t : Time) (s : State) : Host.Outcome State Fault Refusal := run (timed t acquireTimeout) s

/-- HOLDOVER_TIMEOUT. -/
def execHoldoverTimeout (t : Time) (s : State) : Host.Outcome State Fault Refusal := run (timed t holdoverTimeout) s

/-- GM_RETURN. -/
def execGmReturn (t : Time) (s : State) : Host.Outcome State Fault Refusal := run (timed t gmReturn) s

/-- PPS_IN_EDGE. -/
def execPpsInEdge (t : Time) (highNs : Nat) (s : State) : Host.Outcome State Fault Refusal := run (timed t (ppsEdge highNs)) s

/-- PPS_MISSING_TIMEOUT. -/
def execPpsMissingTimeout (t : Time) (s : State) : Host.Outcome State Fault Refusal := run (timed t ppsMissing) s

/-- FABRIC_TIME_READ_LOW. -/
def execFabricTimeReadLow (t : Time) (rq : Requester) (s : State) : Host.Outcome State Fault Refusal :=
  run (awake t (readTimeLow rq)) s

end Sys2Proof.Machine
end

