-- ==== Sys2Proof/Machine/Admit.lean ====
section
/-! DEFINITION. Who may send a request: the device serves (R505, R506, R559), the logical device is enabled (R452), the
requester is an operator where the command table asks for one (R453), the tenant is the requester's (R128, R453). -/

namespace Sys2Proof.Machine

/-- R452: the request comes from a logical device whose binding has enable 0. -/
def ldDisabled (s : Dev) : Requester → Bool
  | .ld p l => decide (s.ldEnable (ldIndex p l) = 0)
  | _ => false

/-- R128, R453: the tenant on whose behalf a requester acts; none for the management controller and the device. -/
def tenantOf (s : Dev) : Requester → Option Nat
  | .auvas h _ => some h.tenant
  | .ld p l => some (s.ldTenant (ldIndex p l))
  | _ => none

/-- R128: the tenant that a request names is the requester's. -/
def tenantOk (s : Dev) (rq : Requester) (tenant : Nat) : Bool :=
  match tenantOf s rq with
  | some t => decide (t = tenant)
  | none => true

/-- R501: a tenant whose record is valid. -/
def tenantValid (s : Dev) (tenant : Nat) : Bool :=
  match mget s.cfg.tenants tenant with
  | some r => r.valid
  | none => false

/-- R452, R453, R506: a vendor command meets a device that runs: recovery refuses it, a disabled LD and an LD that is no
operator are refused by name, and a device that does not serve leaves it unanswered. DEDUCED: log entry 8. -/
def vendor (t : Time) (rq : Requester) (operator : Bool) (f : Dev → Dev) : Dev → Dev := awake t fun s =>
  if s.cfg.phase = .recovery then reply rq St.cfgRecovery [] s
  else if ldDisabled s rq then reply rq St.cxlLdDisabled [] s
  else if operator && !isOperator s rq then reply rq St.cxlNotOperator [] s
  else if s.serving then f s else s

end Sys2Proof.Machine
end

