-- ==== Sys2Proof/Machine/Power.lean ====
section
/-! DEFINITION. Power domains (R563 to R579), the core clock with its two clamps (R33, R595), and the end of start-up step 8
(R575). -/

namespace Sys2Proof.Machine

/-! ## The domains (R563) -/

/-- R563: `AON`, `MGMT` and `BRIDGE` offer ON only. -/
def onOnly (d : Nat) : Bool := decide (d = 0) || decide (d = 1) || decide (d = 70)

/-- R563: the domain is that of a core. -/
def isCore (d : Nat) : Bool := decide (2 ≤ d) && decide (d < 70)

/-- R563: the domain is that of a port. -/
def isPortDomain (d : Nat) : Bool := decide (87 ≤ d) && decide (d < 100)

/-- R563: the domain offers OFF. -/
def offersOff (d : Nat) : Bool := isCore d || (decide (87 ≤ d) && decide (d < 106))

/-- R563: wake from RET, in nanoseconds. -/
def wakeNs (d : Nat) : Nat :=
  if d < 71 then 2000 else if d < 79 then 3000 else if d < 87 then 5000 else if d < 102 then 10000 else 1000

/-- R563: power-up from OFF, in nanoseconds. -/
def powerUpNs (d : Nat) : Nat := if d < 103 then 20000 else if d = 103 then 10000 else 5000

/-- R566: a core that never leaves OFF: fenced or failed. -/
def neverWakes (s : Dev) (d : Nat) : Bool :=
  isCore d && (match mget s.att.pcores (d - 2) with
    | some c => decide (c.state = .fenced) || decide (c.state = .failed)
    | none => false)

/-- R566: the domain runs through an entry. -/
def PowerState.entering : PowerState → Bool
  | .asking => true | .draining => true | .quiescing => true | .clamping => true | .lowering => true | _ => false

/-- R344, R573: a port begins to train. -/
def trainPort (p : Nat) (s : Dev) : Dev :=
  emit (.training p) (modPort p (fun q => { q with state := .training, trainedAt := s.now, slept := false }) s)

/-! ## POWER_REQUESTs that wait (R578) -/

/-- R579: the state codes of PWR_STATE. -/
def PowerState.code : PowerState → Nat
  | .on => 0 | .asking => 1 | .draining => 2 | .quiescing => 3 | .clamping => 4 | .lowering => 5 | .ret => 6 | .off => 7
  | .waking => 8 | .poweringUp => 9

/-- R578: a request names domain `d`. -/
def PowerWait.covers (w : PowerWait) (d : Nat) : Bool := decide (w.first ≤ d) && decide (d < w.first + w.count)

/-- R578: the reply fields: accepted, first_failed, reason and state. A pending enable is accepted and gives its own status
(the worked example). -/
def powerReply (s : Dev) (w : PowerWait) : Status × List Nat :=
  let accepted := (w.outcome.filter fun e => decide (e.2.1 = St.ok) || decide (e.2.1 = St.pwrPendingOn)).length
  match w.outcome.find? fun e => decide (e.2.1 ≠ St.ok) with
  | some (d, st, reason) => (st, [accepted, d, reason, (s.domain d).state.code])
  | none => (St.ok, [accepted, 0xFF, 0, 0])

/-- R578: requests whose every domain has an outcome are answered. -/
def answerPower (s : Dev) : Dev :=
  let done := s.pwr.waits.filter fun w => decide (w.count ≤ w.outcome.length)
  forL done (fun w s => reply w.rq (powerReply s w).1 (powerReply s w).2 s)
    { s with pwr.waits := s.pwr.waits.filter fun w => !decide (w.count ≤ w.outcome.length) }

/-- R578: the outcome of domain `d` for the requests that `p` selects and that still wait for it. -/
def settle (d : Nat) (p : PowerWait → Bool) (st : Status) (reason : Nat) (s : Dev) : Dev :=
  let note (w : PowerWait) : PowerWait :=
    if w.covers d && p w && !mhas w.outcome d then { w with outcome := mset w.outcome d (st, reason) } else w
  answerPower { s with pwr.waits := s.pwr.waits.map note }

/-- Requests for ON, and requests to leave ON. -/
def PowerWait.forOn (w : PowerWait) : Bool := decide (w.target = 0)
def PowerWait.forEntry (w : PowerWait) : Bool := !decide (w.target = 0)

/-! ## Entry -/

/-- R566: E1: the power controller asks the owner. -/
def startEntry (d target : Nat) (s : Dev) : Dev :=
  modDomain d (fun q => { q with
    state := .asking
    target := target
    entryAt := s.now
    fromOn := decide (q.state = .on)
    wakeHeld := none
    pendingOn := false }) s

/-- R564: an owner's answer. -/
inductive Answer
  | ack
  | defer (workEnds : Option Time)
  | nak (reason : Nat)
  deriving DecidableEq, Repr

/-- `DEFER` while the owner has work, else `ACK`. -/
def deferOr (workEnds : Option Time) : Answer :=
  match workEnds with
  | some t => .defer (some t)
  | none => .ack

/-- R564: the running variant has a slot of any class on the port. -/
def slotOnPort (s : Dev) (p : Nat) : Bool :=
  match s.tt.running with
  | some t => t.slots.any fun e => decide (e.port = p)
  | none => false

/-- R564: packets of the port that have not left. -/
def portHasTraffic (s : Dev) (p : Nat) : Bool :=
  (s.egr p).queues.any (fun q => !q.2.items.isEmpty) || serialLt s.now (s.egr p).busyUntil

/-- R564: the owner of domain `d` answers a request to enter `target`; the first row that applies decides. -/
def ownerSays (s : Dev) (d target : Nat) (v : OwnerView) : Answer :=
  if isCore d then
    if target = 2 then .nak 8 else deferOr v.workEnds
  else if d < 79 then deferOr v.workEnds
  else if d < 87 then
    if v.longNand then .nak 10
    else if s.fls.ckpt.isSome then .defer v.workEnds
    else deferOr v.workEnds
  else if d < 100 then
    if slotOnPort s (d - 87) then .nak 3
    else if d = 99 ∧ s.par.state ≠ .solo ∧ s.par.state ≠ .isolated then .nak 4
    else if portHasTraffic s (d - 87) then .defer v.workEnds
    else deferOr v.workEnds
  else if d < 102 then
    if v.linkActive then .nak 5
    else if target = 2 ∧ !(if d = 100 then s.cxl.snoop0 else s.cxl.snoop1).isEmpty then .nak 6
    else .ack
  else if d = 102 then
    if target = 2 ∧ (s.tt.profile = .latency ∨ s.tt.profile = .density ∨ s.tir.deadlines.any fun r => decide (r.2.policy = 0))
    then .nak 7
    else deferOr v.workEnds
  else if d = 103 then
    if target = 2 ∧ s.par.state = .isolated then .nak 12 else deferOr v.workEnds
  else deferOr v.workEnds

/-- R567: the end of the drain: the owner's time, or 100 µs after E1, whichever comes first. -/
def drainLimit (entryAt : Time) (workEnds : Option Time) : Time :=
  match workEnds with
  | some t => if serialLt t (entryAt + us 100) then t else entryAt + us 100
  | none => entryAt + us 100

/-- R578, R567: the entry is refused: the domain stays as it was, its owner resumes work, and its idle timer runs again. -/
def refuseEntry (d : Nat) (st : Status) (reason : Nat) (s : Dev) : Dev :=
  settle d PowerWait.forEntry st reason (count Reg.pwrNakCount (modDomain d (fun q => { q with
    state := if q.fromOn then .on else .ret
    target := if q.fromOn then 0 else 1
    lastReason := reason
    idleSince := s.now }) s))

/-- R565: an OFF of the match array travels to the other side. DEDUCED: log entry 37. -/
def tellArrayOff (d target : Nat) (s : Dev) : Dev :=
  if d = 103 ∧ target = 2 then
    pairChange .device .arrayClear none (fun s => { status := St.ok, fields := [], state := s }) s
  else s

/-- R564, R565: the owner's answer reaches the power controller. -/
def ownerAnswer (d : Nat) (v : OwnerView) (s : Dev) : Dev :=
  let q := s.domain d
  if q.state = .asking then
    match ownerSays s d q.target v with
    | .nak reason => refuseEntry d St.pwrRefused reason s
    | .ack => tellArrayOff d q.target (modDomain d (fun q => { q with state := .quiescing }) s)
    | .defer w =>
      tellArrayOff d q.target
        (modDomain d (fun q => { q with state := .draining, drainBy := drainLimit q.entryAt w }) s)
  else s

/-- R567: the drain has ended. -/
def drainEnd (d : Nat) (s : Dev) : Dev :=
  if (s.domain d).state = .draining then modDomain d (fun q => { q with state := .quiescing }) s else s

/-- R567: the drain has not ended by its limit. -/
def drainTimeout (d : Nat) (s : Dev) : Dev :=
  if (s.domain d).state = .draining ∧ serialLe (s.domain d).drainBy s.now then refuseEntry d St.pwrDrainTimeout 11 s else s

/-! ## Wakes -/

/-- R573: the port's far end needs a wake ordered set: the wake did not come from it. DEDUCED: log entry 51. -/
def sendWakeSet (p source : Nat) (s : Dev) : Dev := if source = 1 ∨ source = 2 then s else emit (.wakeSet p) s

/-- R576: a domain in RET or OFF begins to wake; a port in retention trains at once. DEDUCED: log entry 51. -/
def beginWake (d source : Nat) (during : Bool) (point : Nat) (s : Dev) : Dev :=
  let fromOff := decide ((s.domain d).state = .off)
  let s := modDomain d (fun q => { q with
    state := if fromOff then .poweringUp else .waking
    target := 0
    pendingOn := false
    wakeHeld := none
    wakeSource := source
    wakeDuring := during
    wakeAbort := point
    wakeTime := s.now }) s
  if isPortDomain d ∧ !fromOff then trainPort (d - 87) (sendWakeSet (d - 87) source s) else s

/-- R568: the entry is abandoned at an abort point. An entry that began in RET leaves the domain in RET, from where it wakes.
DEDUCED: log entry 50. -/
def abandon (d point source : Nat) (s : Dev) : Dev :=
  let q := s.domain d
  let s := modDomain d (fun q => { q with
    state := if q.fromOn then .on else .ret
    target := 0
    pendingOn := false
    aborted := true
    wakeHeld := none
    wakeSource := source
    wakeDuring := true
    wakeAbort := point
    wakeTime := s.now
    idleSince := s.now }) s
  let s := raise St.pwrAborted deviceWide [d, point] (count Reg.pwrAbortCount s)
  let s := settle d PowerWait.forEntry St.pwrAborted 0 s
  if q.fromOn then settle d PowerWait.forOn St.ok 0 s else beginWake d source true point s

/-- R569, R577: a wake is held; when two come at once the lower source code is recorded. -/
def holdWake (d source : Nat) (s : Dev) : Dev :=
  modDomain d (fun q => { q with
    wakeHeld := some (match q.wakeHeld with
      | some w => if q.wakeTime = s.now then min w source else w
      | none => source)
    wakeTime := (match q.wakeHeld with | some _ => q.wakeTime | none => s.now) }) s

/-- R568, R569, R576, R577: a wake with source code `source` reaches domain `d`. -/
def wakeDomain (d source : Nat) (s : Dev) : Dev :=
  if neverWakes s d then s
  else
    match (s.domain d).state with
    | .on => s
    | .asking => abandon d 1 source s
    | .draining => abandon d 1 source s
    | .quiescing => holdWake d source s
    | .clamping => holdWake d source s
    | .lowering =>
      let s := holdWake d source s
      if (s.domain d).target = 2 then modDomain d (fun q => { q with pendingOn := true }) s else s
    | .ret => beginWake d source false 0 s
    | .off => beginWake d source false 0 s
    | .waking => s
    | .poweringUp => s

/-- R571, R576: an engine has work for domain `d`: a domain that is not ON wakes, and the idle timer starts again. -/
def needDomain (d : Nat) (s : Dev) : Dev :=
  wakeDomain d 4 (modDomain d (fun q => { q with idleSince := s.now }) s)

/-- R566: E3 ends: the second abort point. -/
def quiesceComplete (d : Nat) (s : Dev) : Dev :=
  let q := s.domain d
  if q.state = .quiescing then
    match q.wakeHeld with
    | some w => abandon d 2 w s
    | none => modDomain d (fun q => { q with state := .clamping }) s
  else s

/-- R573: E5 of a port begins with the sleep ordered set; the port goes `DOWN`, keeping equalisation and identity in RET. -/
def sleepPort (p target : Nat) (s : Dev) : Dev :=
  let trained := s.linkUp p
  let s := if trained then emit (.sleepSet p) s else s
  modPort p (fun q => { q with state := .down, retained := trained && decide (target = 1) }) s

/-- R566, R570: E4 ends: the last abort point. DEDUCED: log entry 50. -/
def clampComplete (d : Nat) (s : Dev) : Dev :=
  let q := s.domain d
  if q.state = .clamping then
    match q.wakeHeld with
    | some w => abandon d 3 w s
    | none =>
      let s := modDomain d (fun q => { q with state := .lowering }) s
      if isPortDomain d then sleepPort (d - 87) q.target s else s
  else s

/-- R563: what a domain loses in OFF: a port its training; a CXL port its mailboxes, event logs and link state; the match
array its content. DEDUCED: log entry 50. -/
def loseInOff (d : Nat) (s : Dev) : Dev :=
  if isPortDomain d then modPort (d - 87) (fun q => { q with retained := false }) s
  else if d = 100 ∨ d = 101 then
    let k := d - 100
    { s with
      cxl.links := s.cxl.links.erase k
      cxl.lds := s.cxl.lds.map fun e =>
        if e.1 / 16 = k then (e.1, { e.2 with logs := [], overflow := [], nextHandle := 1, background := none }) else e }
  else if d = 103 then { s with pfx.arr := [], pfx.shadow := [], pfx.inserts := [] }
  else s

/-- R566, R569: E5 ends: the domain is in RET or OFF; a held wake starts at once. -/
def lowerComplete (d : Nat) (s : Dev) : Dev :=
  let q := s.domain d
  if q.state = .lowering then
    let off := decide (q.target = 2)
    let s := modDomain d (fun q => { q with state := if off then .off else .ret }) s
    let s := count Reg.pwrEntryCount (if off then loseInOff d s else s)
    let s := settle d PowerWait.forEntry St.ok 0 s
    match q.wakeHeld with
    | some w => beginWake d (if off then 8 else w) true 0 s
    | none => s
  else s

/-- R565: at power-up of the match array every node's in_array is cleared. -/
def clearInArray (s : Dev) : Dev := { s with pfx.dir := mmap s.pfx.dir fun n => { n with inArray := false } }

/-- R563, R571: the domain is ON. A port that was OFF sends the wake ordered set and trains. -/
def wakeComplete (d : Nat) (s : Dev) : Dev :=
  let q := s.domain d
  if q.state = .waking ∨ q.state = .poweringUp then
    let s := modDomain d (fun q => { q with state := .on, idleSince := s.now }) s
    let s := if q.state = .poweringUp ∧ d = 103 then clearInArray s else s
    let s := if q.state = .poweringUp ∧ isPortDomain d then trainPort (d - 87) (sendWakeSet (d - 87) q.wakeSource s) else s
    settle d PowerWait.forOn St.ok 0 s
  else s

/-! ## What slots need (R572) -/

/-- R572: the domains that a slot needs. -/
def slotNeeds (s : Dev) (e : SlotEntry) : List Nat :=
  let hbm := (List.range 8).map (· + 71)
  let nand := (List.range 8).map (· + 79)
  match e.cls with
  | .attend => (87 + e.port) :: (s.att.lmap.map (fun l => l.2 + 2) ++ hbm ++ [104])
  | .result => [87 + e.port]
  | .transit => [87 + e.port]
  | .wstream => (87 + e.port) :: (hbm ++ nand ++ [102])
  | .promote => nand ++ [102] ++ hbm
  | .mirror => hbm

/-- The slots of the running variant that start at or after now, over one cycle and the current frame, with their starts. -/
def slotsAhead (s : Dev) : List (Time × SlotEntry) :=
  match s.tt.running with
  | none => []
  | some t =>
    (List.range (t.cycleFrames + 1)).flatMap fun k =>
      match s.frameRef k with
      | none => []
      | some f => (f.slots.map fun e => (slotStart f.start e, e)).filter fun x => serialLe s.now x.1

/-- R572: an entry of the domain, begun now, could not be undone by a wake before some slot that needs the domain. -/
def tooLateToEnter (s : Dev) (d target : Nat) : Bool :=
  let port := if target = 2 ∧ isPortDomain d then 800 else 0
  let time := 100 + 1000 + 20 + (if target = 2 then 5000 + port + powerUpNs d else 2000 + wakeNs d)
  (slotsAhead s).any fun x => (slotNeeds s x.2).contains d && serialLt x.1 (s.now + ns time)

/-- R574: a domain that has started no work for idle_us is entered into RET or OFF. -/
def idlePolicy (d : Nat) (s : Dev) : Dev :=
  let target := if s.autoOff d = 1 ∧ offersOff d then 2 else 1
  if s.autoRet d = 1 ∧ (s.domain d).state = .on ∧ !onOnly d ∧ past (s.domain d).idleSince (us (s.idleUs d)) s.now
      ∧ !tooLateToEnter s d target then startEntry d target s
  else s

/-- R572: the wake of the domains that the next slot with this index needs, each when its lead time has come. DEDUCED: log entry 51. -/
def leadWake (slot : Nat) (s : Dev) : Dev :=
  match firstBy (fun a b => serialLt a.1 b.1) ((slotsAhead s).filter fun x => decide (x.2.slot = slot)) with
  | none => s
  | some (start, e) =>
    forL (slotNeeds s e) (fun d s =>
      let lead := match (s.domain d).state with
        | .off => powerUpNs d
        | .lowering => if (s.domain d).target = 2 then powerUpNs d else wakeNs d
        | _ => wakeNs d
      if serialLe start (s.now + ns lead) then wakeDomain d 7 s else s) s

/-! ## POWER_REQUEST (R578) -/

/-- R578: ON asked for domain `d`. DEDUCED: log entry 50. -/
def requestOn (d : Nat) (s : Dev) : Dev :=
  if neverWakes s d then settle d PowerWait.forOn St.pwrRefused 9 s
  else
    match (s.domain d).state with
    | .on => settle d PowerWait.forOn St.ok 0 s
    | .lowering => settle d PowerWait.forOn St.pwrPendingOn 0 (wakeDomain d 5 s)
    | _ => wakeDomain d 5 s

/-- R578: RET or OFF asked for domain `d`. DEDUCED: log entry 50. -/
def requestEntry (d target : Nat) (s : Dev) : Dev :=
  let st := (s.domain d).state
  if onOnly d then settle d PowerWait.forEntry St.pwrRefused 1 s
  else if target = 2 ∧ !offersOff d then settle d PowerWait.forEntry St.pwrRefused 2 s
  else if (st = .ret ∧ target = 1) ∨ (st = .off ∧ target = 2) then settle d PowerWait.forEntry St.ok 0 s
  else if st.entering then settle d PowerWait.forEntry St.pwrRefused 13 s
  else if st = .on ∨ st = .ret then startEntry d target s
  else settle d PowerWait.forEntry St.pwrRange 0 s

/-- R578: the named domains in ascending index, each on its own. DEDUCED: log entry 50. -/
def powerRequest (rq : Requester) (first cnt target : Nat) (s : Dev) : Dev :=
  if 105 < first ∨ cnt = 0 ∨ 106 - first < cnt ∨ 2 < target then reply rq St.pwrRange [0, 0xFF, 0, 0] s
  else
    forN cnt (fun i s => if target = 0 then requestOn (first + i) s else requestEntry (first + i) target s)
      { s with pwr.waits := s.pwr.waits ++ [{ rq, first, count := cnt, target, outcome := [] }] }

/-! ## The end of start-up step 8 (R505, R575) -/

/-- R575: the start state of a domain. -/
def startStateOf (s : Dev) (d : Nat) : Nat :=
  match s.cfg.image with
  | some i => i.body.powerStart.getD d 0
  | none => 0

/-- R502, R505, R575: step 8 ends once the timetable has started and the pair has joined: the controller enters each remaining
domain into its start state. -/
def finishStartup (s : Dev) : Dev :=
  if s.cfg.phase = .run ∧ s.cfg.step = 8 ∧ s.tt.started ∧ s.par.state ≠ .joining then
    forN 106 (fun d s =>
      if startStateOf s d ≠ 0 ∧ (s.domain d).state = .on then startEntry d (startStateOf s d) s else s)
      { s with cfg.step := 0 }
  else s

/-! ## The core clock (R27, R33, R595) -/

/-- R27: the core clock of a profile, in MHz, and its package power budget, in milliwatts. -/
def profileMhz : Profile → Nat
  | .balanced => 2400
  | _ => 3000
def profileMilliwatts : Profile → Nat
  | .balanced => 850000
  | _ => 1100000

/-- R595: the lower of the two clamps is in force. -/
def setClock (s : Dev) : Dev := { s with pwr.coreMhz := min s.pwr.budgetMhz s.pwr.thermalMhz }

/-- R27: a profile sets the core clock anew. -/
def clockForProfile (s : Dev) : Dev :=
  setClock { s with pwr.budgetMhz := profileMhz s.tt.profile, pwr.thermalMhz := profileMhz s.tt.profile }

/-- R33: one step down when the 1 ms average is above the profile's budget. DEDUCED: log entry 49. -/
def budgetTick (milliwatts : Nat) (s : Dev) : Dev :=
  if profileMilliwatts s.tt.profile < milliwatts then
    raiseDev St.pwrBudgetClamp (setClock { s with
      pwr.budgetMhz := s.pwr.budgetMhz - 100
      pwr.budgetClamp := true })
  else s

/-- The greatest value of a list of readings and its index from `i` on; the first on a tie. DEDUCED: log entry 49. -/
def hottestFrom (i best bi : Nat) : List Nat → Nat × Nat
  | [] => (bi, best)
  | c :: rest => if best < c then hottestFrom (i + 1) c i rest else hottestFrom (i + 1) best bi rest

/-- R595: the readings of one sample, stacks last. DEDUCED: log entry 49. -/
def readSensors (c : List Nat) (s : Dev) : Dev :=
  { s with
    pwr.hottest := (hottestFrom 0 0 0 c).1
    pwr.maxC := (hottestFrom 0 0 0 (c.take 93)).2
    pwr.stackMaxC := (hottestFrom 0 0 0 (c.drop 93)).2 }

/-- R595: the thermal clamp: 100 MHz per millisecond down while hot, up while cool. DEDUCED: log entry 49. -/
def thermalStep (s : Dev) : Dev :=
  let hot := decide (s.throttleC ≤ s.pwr.maxC) || decide (95 ≤ s.pwr.stackMaxC)
  let cool := decide (s.pwr.maxC + 3 < s.throttleC) && decide (s.pwr.stackMaxC + 3 < 95)
  if !s.pwr.thermalClamp || past s.pwr.thermalAt (ms 1) s.now then
    if hot then
      raiseDev St.pwrBudgetClamp (setClock { s with
        pwr.thermalMhz := s.pwr.thermalMhz - 100
        pwr.thermalClamp := true
        pwr.thermalAt := s.now })
    else if cool && s.pwr.thermalClamp then
      let up := min (profileMhz s.tt.profile) (s.pwr.thermalMhz + 100)
      setClock { s with
        pwr.thermalMhz := up
        pwr.thermalClamp := decide (up < profileMhz s.tt.profile)
        pwr.thermalAt := s.now }
    else s
  else s

/-! ## Meanings -/

/-- SENSOR_SAMPLE. -/
def execSensorSample (t : Time) (celsius : List Nat) (s : State) : Host.Outcome State Fault Refusal :=
  run (awake t fun s => thermalStep (readSensors celsius s)) s

/-- POWER_BUDGET_TICK. -/
def execPowerBudgetTick (t : Time) (milliwatts : Nat) (s : State) : Host.Outcome State Fault Refusal :=
  run (awake t (budgetTick milliwatts)) s

/-- POWER_REQUEST. -/
def execPowerRequest (t : Time) (rq : Requester) (first count target : Nat) (s : State) :
    Host.Outcome State Fault Refusal :=
  run (vendor t rq true (powerRequest rq first count target)) s

/-- OWNER_ANSWER. -/
def execOwnerAnswer (t : Time) (domain : Nat) (v : OwnerView) (s : State) : Host.Outcome State Fault Refusal :=
  run (awake t (ownerAnswer domain v)) s

/-- DRAIN_END. -/
def execDrainEnd (t : Time) (domain : Nat) (s : State) : Host.Outcome State Fault Refusal :=
  run (awake t (drainEnd domain)) s

/-- DRAIN_TIMEOUT. -/
def execDrainTimeout (t : Time) (domain : Nat) (s : State) : Host.Outcome State Fault Refusal :=
  run (awake t (drainTimeout domain)) s

/-- QUIESCE_COMPLETE. -/
def execQuiesceComplete (t : Time) (domain : Nat) (s : State) : Host.Outcome State Fault Refusal :=
  run (awake t (quiesceComplete domain)) s

/-- CLAMP_COMPLETE. -/
def execClampComplete (t : Time) (domain : Nat) (s : State) : Host.Outcome State Fault Refusal :=
  run (awake t (clampComplete domain)) s

/-- LOWER_COMPLETE. -/
def execLowerComplete (t : Time) (domain : Nat) (s : State) : Host.Outcome State Fault Refusal :=
  run (awake t (lowerComplete domain)) s

/-- DOMAIN_WAKE. -/
def execDomainWake (t : Time) (domain source : Nat) (s : State) : Host.Outcome State Fault Refusal :=
  run (awake t (wakeDomain domain source)) s

/-- WAKE_COMPLETE. -/
def execWakeComplete (t : Time) (domain : Nat) (s : State) : Host.Outcome State Fault Refusal :=
  run (awake t (wakeComplete domain)) s

/-- IDLE_POLICY_TIMEOUT. -/
def execIdlePolicyTimeout (t : Time) (domain : Nat) (s : State) : Host.Outcome State Fault Refusal :=
  run (awake t (idlePolicy domain)) s

/-- TIMETABLE_LEAD_WAKE. -/
def execTimetableLeadWake (t : Time) (slot : Nat) (s : State) : Host.Outcome State Fault Refusal :=
  run (awake t (leadWake slot)) s

end Sys2Proof.Machine
end

