-- ==== Sys2Proof/Machine/Store.lean ====
section
/-! DEFINITION. Where data lie: the bytes of a page (R99 to R102), staging slots (R115), the T1 pools (R255, R256), compression
(R270 to R274), the flash log's bands and extents (R310 to R320), and the homes that they hold. -/

namespace Sys2Proof.Machine

/-! ## Pages as bytes -/

/-- R110: bytes of an element. -/
def elemSize : Format → Nat
  | .bf16 => 2 | .fp16 => 2 | .e4m3 => 1 | .e5m2 => 1

/-- R110: stored-format codes. -/
def formatOf : Nat → Option Format
  | 0 => some .bf16 | 1 => some .fp16 | 2 => some .e4m3 | 3 => some .e5m2 | _ => none
def formatCode : Format → Nat
  | .bf16 => 0 | .fp16 => 1 | .e4m3 => 2 | .e5m2 => 3

/-- R99: byte size of a page. -/
def pageBytes (kvHeads headDim : Nat) (f : Format) : Nat := 16 * kvHeads * headDim * 2 * elemSize f

/-- R99: footprint of a page in 4 KiB units. -/
def pageUnits (kvHeads headDim : Nat) (f : Format) : Nat := ceilDiv (pageBytes kvHeads headDim f) 4096

/-- Footprint of a sequence's pages in 4 KiB units. -/
def Seq.page4k (q : Seq) : Nat := pageUnits q.kvHeads q.headDim q.format

/-- R89: a sequence whose cold record is brought up to date. -/
def refreshCold (q : Seq) : Seq :=
  { q with cold := { length := q.length, sharedTokens := q.sharedTokens, tailKey := q.tailKey, lastFrame := q.lastFrame } }

/-- Footprint of a page in 4 KiB units. -/
def Page.page4k (pg : Page) : Nat := pageUnits pg.kvHeads pg.headDim pg.format

/-- R101: one plane of a page: head by head, token by token; a token not written reads as zero. `row` gives the bytes of one
token, heads in order, `width` the bytes of one head. -/
def planeBytes (heads width : Nat) (rows : List (List Byte)) : List Byte :=
  (List.range heads).flatMap fun h => (List.range 16).flatMap fun t =>
    let row := rows.getD t []
    (List.range width).map fun i => row.getD (h * width + i) 0

/-- R101: the bytes of a page: the K plane, the V plane, and zeros up to the footprint. -/
def pageImage (kvHeads headDim : Nat) (f : Format) (toks : List TokenKv) : List Byte :=
  let w := headDim * elemSize f
  let body := planeBytes kvHeads w (toks.map (·.k)) ++ planeBytes kvHeads w (toks.map (·.v))
  body ++ List.replicate (4096 * pageUnits kvHeads headDim f - body.length) 0

/-! ## Compression (R271 to R274) -/

/-- R271: the planes of a datum: nibbles for one-byte elements, else one plane per byte of an element. -/
def planesOf (e : Nat) (b : List Byte) : List (List Byte) :=
  if e = 1 then
    let pair (f : Byte → Nat) : List Byte :=
      (List.range ((b.length + 1) / 2)).map fun i =>
        BitVec.ofNat 8 (f (b.getD (2 * i) 0) + 16 * f (b.getD (2 * i + 1) 0))
    [pair fun x => x.toNat % 16, pair fun x => x.toNat / 16]
  else (List.range e).map fun p => (List.range (b.length / e)).map fun i => b.getD (e * i + p) 0

/-- R272: a plane of one repeated byte. -/
def isConstant : List Byte → Bool
  | [] => true
  | x :: rest => rest.all (· == x)

/-- R272: coded length of a plane: the shortest of raw, constant and Huffman. -/
def planeLen (b : List Byte) : Nat :=
  let raw := b.length
  let best := min raw (Config.huffmanLen b)
  if isConstant b then min 1 best else best

/-- R273: bytes of a compressed datum: the 64-byte header and the planes, each on a 64-byte boundary. -/
def packedBytes (e : Nat) (b : List Byte) : Nat := 64 + sumBy (fun p => 64 * ceilDiv (planeLen p) 64) (planesOf e b)

/-- R274: codec and length in 4 KiB units of a datum of `units` units in T2. DEDUCED: log entry 53. -/
def storedForm (e units : Nat) (b : List Byte) : Nat × Nat :=
  let n := ceilDiv (packedBytes e b) 4096
  if n < units then (1, n) else (0, units)

/-- R261, R274, R260: bytes of a home in the cold pool: the plane header, and the datum in compressed form where the profile is
density and that is shorter. -/
def coldBytes (density : Bool) (e units : Nat) (b : List Byte) : Nat :=
  if density && decide (ceilDiv (packedBytes e b) 4096 < units) then 4096 * ceilDiv (packedBytes e b) 4096
  else 4096 * ceilDiv (4096 * units + 64) 4096

/-! ## Staging slots (R115) -/

/-- R115: staging units in use, those that left the pool included. -/
def stagingUsed (s : Dev) : Nat := sumBy (fun e => e.2.1) s.kvs.staging

/-- R115: room for `units` more. DESIGN CHOICE: log entry 52. -/
def stagingFits (s : Dev) (units : Nat) : Bool := decide (stagingUsed s + units ≤ s.tir.stagingUnits)

/-- A staging slot number that is not in use. DESIGN CHOICE: log entry 52. -/
def freeSlotNumber (s : Dev) : Nat :=
  (leastFrom (fun k => !mhas s.kvs.staging k) 0 (s.kvs.staging.length + 1)).getD 0

/-- R117: a staging slot for an open page. DESIGN CHOICE: log entry 52. -/
def stagingTake (units : Nat) (s : Dev) : Nat × Dev :=
  let k := freeSlotNumber s
  (k, { s with kvs.staging := mset s.kvs.staging k (units, false) })

/-- R117: the slot leaves the pool and stays its page's home. -/
def stagingLeave (slot : Nat) (s : Dev) : Dev :=
  { s with kvs.staging := mmod s.kvs.staging slot fun (e : Nat × Bool) => (e.1, true) }

/-! ## T1 (R255, R256) -/

/-- The pools of R256: the cold pool, the reserve share of a model, the weight pool. -/
def coldPoolKey : Nat := 0
def sharePool (model : Nat) : Nat := model + 1
def weightPoolKey : Nat := 257

/-- R256: a model's reserve share. -/
def shareBytes (s : Dev) (model : Nat) : Nat :=
  match mget s.att.models model with
  | some m => m.desc.t1Bytes
  | none => 0

/-- R245: bytes lent from the cold pool. -/
def lentBytes (s : Dev) : Nat := sumBy (fun e => e.2.borrowed) s.att.models

/-- R244: the free part of the cold pool. -/
def coldFree (s : Dev) : Nat := s.tir.coldPool - s.tir.coldUsed - lentBytes s

/-- R256: the pool has room for `n` bytes. -/
def poolFits (s : Dev) (pool n : Nat) : Bool :=
  if pool = coldPoolKey then decide (n ≤ coldFree s)
  else if pool = weightPoolKey then decide (s.tir.weightUsed + n ≤ s.tir.weightPool)
  else decide (mgetD s.tir.reserveUsed (pool - 1) 0 + n ≤ shareBytes s (pool - 1))

/-- A pool's use raised by `n`, or lowered where `up` is false. -/
def poolUse (pool n : Nat) (up : Bool) (s : Dev) : Dev :=
  let f (x : Nat) : Nat := if up then x + n else x - n
  if pool = coldPoolKey then { s with tir.coldUsed := f s.tir.coldUsed }
  else if pool = weightPoolKey then { s with tir.weightUsed := f s.tir.weightUsed }
  else
    let m := pool - 1
    { s with tir.reserveUsed := mset s.tir.reserveUsed m (f (mgetD s.tir.reserveUsed m 0)) }

/-- The least address from `a` on at which `n` bytes overlap none of the ranges, which are in ascending order. -/
def placeFrom (a n : Nat) : List (Nat × Nat) → Nat
  | [] => a
  | (k, m) :: rest => if k + m ≤ a then placeFrom a n rest else if a + n ≤ k then a else placeFrom (max a (k + m)) n rest

/-- R545: what an allocation must not touch: the T1 homes and the retired frames. -/
def t1Taken (s : Dev) : List (Nat × Nat) :=
  let homes : List (Nat × Nat) := s.tir.t1Homes.map fun e => (e.1, e.2.1)
  let retired : List (Nat × Nat) := s.ras.retired.map fun f => (4096 * f, 4096)
  sortBy (fun a b => decide (a.1 ≤ b.1)) (homes ++ retired)

/-- R256: a T1 home of `n` bytes in a pool that has room. -/
def t1Take (pool n : Nat) (s : Dev) : Nat × Dev :=
  let (k, s) := draw s
  let a := placeFrom (4096 * Config.t1Pick k) n (t1Taken s)
  (a, poolUse pool n true { s with tir.t1Homes := mset s.tir.t1Homes a (n, pool) })

/-- The T1 home at an address is free again. -/
def t1Free (a : Nat) (s : Dev) : Dev :=
  match mget s.tir.t1Homes a with
  | none => s
  | some (n, pool) =>
    poolUse pool n false { s with tir.t1Homes := mdel s.tir.t1Homes a, tir.heat := mdel s.tir.heat a }

/-! ## The flash log (R310 to R320) -/

/-- R312: rows of a band, and its units. -/
def bandRows (s : Dev) : Nat := s.fls.pagesPerBlock * s.fls.planes
def bandUnits (s : Dev) : Nat := 60 * bandRows s

/-- R311: bands of a group. -/
def bandsPerGroup (s : Dev) : Nat := min 4096 (s.fls.blocksPerPlane - s.fls.spareBlocks)

/-- Index of a band in the table of bands. -/
def bandKey (group band : Nat) : Nat := 4096 * group + band

/-- R311: a band that nothing has opened. -/
def Band.fresh : Band :=
  { state := .free, refresh := false, evacuate := false, eraseCount := 0, writePoint := 0, summaryUnit := 0, seq := 0,
    reads := List.replicate 16 0, extents := [], bad := [], eraseLeft := [], goodRows := 0, reloc := false }

/-- The band record. -/
def Dev.band (s : Dev) (key : Nat) : Band := mgetD s.fls.bands key Band.fresh

/-- The state with a band record changed by `f`. -/
def modBand (key : Nat) (f : Band → Band) (s : Dev) : Dev :=
  { s with fls.bands := mset s.fls.bands key (f (s.band key)) }

/-- R310: the groups in service: slots below the fitted count. -/
def groupExists (s : Dev) (g : Nat) : Bool := decide (g < 64) && decide (g % 16 < s.fls.diesPerChannel)

/-- R337: band 0 of groups 0 and 32 holds the checkpoint roots. -/
def isRootArea (group band : Nat) : Bool := decide (band = 0) && (decide (group = 0) || decide (group = 32))

/-- R311: the band may be opened. -/
def bandFree (s : Dev) (g b : Nat) : Bool := !isRootArea g b && decide ((s.band (bandKey g b)).state = .free)

/-- R317: free bands of a group. -/
def freeBands (s : Dev) (g : Nat) : Nat :=
  bandsPerGroup s - (if g = 0 ∨ g = 32 then 1 else 0)
    - (s.fls.bands.filter fun e => decide (e.1 / 4096 = g) && !isRootArea g (e.1 % 4096) && !decide (e.2.state = .free)).length

/-- R310: the half of a group: false east, true west. -/
def groupWest (g : Nat) : Bool := decide (32 ≤ g)

/-- R313: the log address of a unit. -/
def logAddress (key unit : Nat) : Nat := key * 1048576 + unit

/-- R313: band key and unit of a log address; the group number holds quad and slot as the address does. -/
def bandOfUnit (u : Nat) : Nat := u / 1048576
def unitInBand (u : Nat) : Nat := u % 1048576

/-- R315: units of the summary of a band with `n` extents. -/
def summaryUnits (n : Nat) : Nat := ceilDiv n 256

/-- R314, R315: an extent of `n` units fits into the band before its summary. -/
def extentFits (s : Dev) (b : Band) (n : Nat) : Bool :=
  decide (b.writePoint + n + summaryUnits (b.extents.length + 1) ≤ bandUnits s)

/-- R315: the band's summary is written and the band closed. -/
def closeBand (key : Nat) (s : Dev) : Dev :=
  modBand key (fun b => { b with
    state := .closed
    summaryUnit := bandUnits s - summaryUnits b.extents.length
    writePoint := bandUnits s }) s

/-- The writer of a group: for new data, or for relocations. -/
def Dev.writer (s : Dev) (g : Nat) (reloc : Bool) : Option Writer :=
  if reloc then mget s.fls.relocs g else mget s.fls.writers g

/-- The state with a group's writer set or gone. -/
def setWriter (g : Nat) (reloc : Bool) (w : Option Writer) (s : Dev) : Dev :=
  match reloc, w with
  | true, some w => { s with fls.relocs := mset s.fls.relocs g w }
  | true, none => { s with fls.relocs := mdel s.fls.relocs g }
  | false, some w => { s with fls.writers := mset s.fls.writers g w }
  | false, none => { s with fls.writers := mdel s.fls.writers g }

/-- R311, R317: the group opens a band, which takes the next band sequence number; none when it has no free band or is
degraded. -/
def openBand (g : Nat) (reloc : Bool) (s : Dev) : Option Dev :=
  if s.fls.degraded.contains g then none
  else
    let n := bandsPerGroup s
    let (k, s) := draw s
    let start := Config.bandPick k % max 1 n
    match leastFrom (fun i => bandFree s g ((start + i) % max 1 n)) 0 n with
    | none => none
    | some i =>
      let key := bandKey g ((start + i) % max 1 n)
      let s := modBand key (fun b => { Band.fresh with eraseCount := b.eraseCount, state := .opened, seq := s.fls.nextSeq, reloc }) s
      some (setWriter g reloc (some { band := key, rowSince := none })
        { s with fls.nextSeq := s.fls.nextSeq + 1 })

/-- An extent at the write point of the writer's band, which has room for it. -/
def writeExtent (g : Nat) (reloc : Bool) (w : Writer) (n : Nat) (kind : ExtKind) (owner : Option Datum) (s : Dev) :
    Nat × Dev :=
  let b := s.band w.band
  let first := b.writePoint
  let ext : BandExt := { first, len := n, kind, owner, good := false }
  let rowStart := if first % 60 = 0 ∨ (first + n) / 60 ≠ first / 60 then some s.now else w.rowSince
  let since := if (first + n) % 60 = 0 then none else rowStart
  (logAddress w.band first,
    setWriter g reloc (some { w with rowSince := since })
      (modBand w.band (fun b => { b with writePoint := first + n, extents := b.extents ++ [ext] }) s))

/-- R314, R317: an extent of `n` units appended to the group's log; the open band is closed where it does not fit. -/
def appendExtent (g : Nat) (reloc : Bool) (n : Nat) (kind : ExtKind) (owner : Option Datum) (s : Dev) : Option (Nat × Dev) :=
  match s.writer g reloc with
  | some w =>
    if extentFits s (s.band w.band) n then some (writeExtent g reloc w n kind owner s)
    else
      let s := setWriter g reloc none (closeBand w.band s)
      match openBand g reloc s with
      | none => none
      | some s =>
        match s.writer g reloc with
        | some w => if extentFits s (s.band w.band) n then some (writeExtent g reloc w n kind owner s) else none
        | none => none
  | none =>
    match openBand g reloc s with
    | none => none
    | some s =>
      match s.writer g reloc with
      | some w => if extentFits s (s.band w.band) n then some (writeExtent g reloc w n kind owner s) else none
      | none => none

/-- R317: the group for new data of a half: the most free bands, the lower number on a tie. -/
def dataGroup (s : Dev) (west : Bool) : Option Nat :=
  let able := (List.range 64).filter fun g => groupExists s g && decide (groupWest g = west) && !s.fls.degraded.contains g
    && (decide (0 < freeBands s g) || (s.writer g false).isSome)
  firstBy (fun a b => decide (freeBands s b < freeBands s a) || (decide (freeBands s a = freeBands s b) && decide (a < b))) able

/-- R317: the half that writes a datum: true is west. -/
def westOf (s : Dev) : Datum → Bool
  | .block obj _ => decide (obj % 2 = 1)
  | .pendingArea i => decide (i % 2 = 1)
  | .tables i => decide (i % 2 = 1)
  | .page p =>
    match mget s.kvs.pages p with
    | none => false
    | some pg =>
      match pg.owner with
      | some i => decide (i % 2 = 1)
      | none =>
        match s.pfx.dir.find? fun n => decide (n.2.gen = pg.nodeGen) with
        | some n => n.2.key.getLsbD 4
        | none => false

/-- R328: no band can take a write. -/
def noFreeBand (s : Dev) : Dev :=
  if s.fls.noFreeBand then s else raiseDev St.flsNoFreeBand { s with fls.noFreeBand := true }

/-- R315: the kind of a datum's extents. -/
def kindOf (s : Dev) : Datum → ExtKind
  | .page p => match mget s.kvs.pages p with
    | some pg => if pg.owner.isSome then .privatePage else .sharedPage
    | none => .pad
  | .block _ _ => .objectBlock
  | .pendingArea _ => .table
  | .tables _ => .table

/-- R317: an extent for a datum in the log of its half; none when no band can take it. DEDUCED: log entry 53. -/
def t2Take (d : Datum) (codec units : Nat) (s : Dev) : Option (Extent × Dev) :=
  match dataGroup s (westOf s d) with
  | none => none
  | some g =>
    match appendExtent g false units (kindOf s d) (some d) s with
    | none => none
    | some (u, s) => some ({ unit := u, len4k := units, codec }, s)

/-- R319: the extent at a log address has been reported good. -/
def extentGood (s : Dev) (u : Nat) : Bool :=
  (s.band (bandOfUnit u)).extents.any fun e => decide (e.first = unitInBand u) && e.good

/-! ## Homes -/

/-- R263: a location is free again: a staging slot, a T1 address; a T2 extent becomes stale by itself. -/
def freeHome (h : Home) (s : Dev) : Dev :=
  match h with
  | .staging k => { s with kvs.staging := mdel s.kvs.staging k }
  | .t1 a => t1Free a s
  | .t2 _ => s

/-- A home in T1: an address or a staging slot. -/
def Home.inT1 : Home → Bool
  | .t2 _ => false
  | _ => true

/-- R279: the NAND die of a log address, as group and position of its first unit. -/
def dieOfUnit (u : Nat) : Nat :=
  let g := bandOfUnit u / 4096
  let p := bandOfUnit u % 4096 % 16
  let member := unitInBand u % 60 / 4
  let pos := if member < p then member else member + 1

  (16 * (g / 16) + pos) * 16 + g % 16

end Sys2Proof.Machine
end

