-- ==== Sys2Proof/Machine/Pages.lean ====
section
/-! DEFINITION. Pages with their references, pins and retirement (R145 to R152, R176), the home of every datum (R252), and the
moves with the home switch (R262 to R269). -/

namespace Sys2Proof.Machine

/-! ## Pages -/

/-- The state with page `p` changed by `f`. -/
def modPage (p : Nat) (f : Page → Page) (s : Dev) : Dev := { s with kvs.pages := mmod s.kvs.pages p f }

/-- The state with sequence `i` changed by `f`. -/
def modSeq (i : Nat) (f : Seq → Seq) (s : Dev) : Dev := { s with kvs.seqs := mmod s.kvs.seqs i f }

/-- R148: the loss key of a page. -/
def lossKey (pg : Page) : BitVec 64 :=
  match pg.owner with
  | some i => BitVec.ofNat 64 (i * 2 ^ 32 + pg.layer * 2 ^ 24 + pg.index)
  | none => BitVec.ofNat 64 (2 ^ 63 + pg.nodeGen.toNat * 2 ^ 16 + pg.layer)

/-- R303: the page has been lost. -/
def pageIsLost (s : Dev) (p : Nat) : Bool :=
  s.tir.lostUnlisted.contains p || (match mget s.kvs.pages p with
    | some pg => s.tir.lostPages.contains (lossKey pg)
    | none => false)

/-! ## Pins (R148, R149) -/

/-- The operation number under which a move, or a request, holds its pins (the model's own numbering). -/
def moveOp (id : Nat) : Nat := 2 * id + 1
def reqOp (id : Nat) : Nat := 2 * id

/-- R148: pins held on a page. -/
def pinCount (s : Dev) (p : Nat) : Nat := mgetD s.pfx.pins p 0

/-- R263: new pin grants for a page wait while its home is being switched. -/
def grantsHeld (s : Dev) (p : Nat) : Bool :=
  s.tir.moves.any fun m => decide (m.datum = .page p) && decide (m.state = .switching) && m.grantHold.isSome

/-- R148: the pin table has room for one more pin of the page. -/
def pinRoom (s : Dev) (p : Nat) : Bool :=
  decide (pinCount s p < 65535) && (mhas s.pfx.pins p || decide (s.pfx.pins.length < 131072))

/-- R149: a page that entered RETIRING takes no new pin from frame f + 2 on. -/
def pinRefused (s : Dev) (pg : Page) : Bool :=
  decide (pg.state = .retiring) && serialLe (pg.retireFrame + 2) s.tt.frame

/-- R257: a read, or a new home, of a sealed page or an object's block in T1 sets the home's age to 0. -/
def markRead (h : Home) (s : Dev) : Dev :=
  match h with
  | .t1 a => { s with tir.heat := mset s.tir.heat a 0 }
  | _ => s

/-- R262: the pin is granted with the page's present location. -/
def grantPin (op p : Nat) (loc : Home) (s : Dev) : Dev :=
  let s := markRead loc s
  { s with
    pfx.pins := mset s.pfx.pins p (pinCount s p + 1)
    pfx.pinOps := s.pfx.pinOps ++ [{ op, page := p, loc }] }

/-- R149: the pin waits; PFX_PIN_FULL once per episode. -/
def waitPin (op p : Nat) (full : Bool) (s : Dev) : Dev :=
  let s := { s with pfx.pinWaits := s.pfx.pinWaits ++ [{ op, page := p, since := s.now }] }
  if full ∧ !s.pfx.pinEpisode then raiseDev St.pfxPinFull { s with pfx.pinEpisode := true, pfx.pinFull := true } else s

/-- R148, R149, R263: an operation asks for a pin on a page. -/
def takePin (op p : Nat) (s : Dev) : Dev :=
  match mget s.kvs.pages p with
  | none => s
  | some pg =>
    if pinRefused s pg then s
    else if grantsHeld s p then waitPin op p false s
    else if pinRoom s p then grantPin op p pg.home s
    else waitPin op p true s

/-- R263: an unpin at an old location counts down that location's drain entry. -/
def drainDown (d : Datum) (loc : Home) (s : Dev) : Dev :=
  { s with tir.drains := s.tir.drains.map fun e =>
      if e.datum = d ∧ e.old = loc then { e with count := e.count - 1 } else e }

/-- R148: an operation releases one pin on a page. -/
def dropPin (op p : Nat) (s : Dev) : Dev :=
  match s.pfx.pinOps.find? fun h => decide (h.op = op) && decide (h.page = p) with
  | none => s
  | some h =>
    let n := pinCount s p - 1
    let s := { s with
      pfx.pinOps := s.pfx.pinOps.erase h
      pfx.pins := if n = 0 then mdel s.pfx.pins p else mset s.pfx.pins p n }
    drainDown (.page p) h.loc s

/-- R149: an operation ends or starts again: every pin it holds or waits for is released. -/
def dropPins (op : Nat) (s : Dev) : Dev :=
  let held := s.pfx.pinOps.filter fun h => decide (h.op = op)
  let s := { s with pfx.pinWaits := s.pfx.pinWaits.filter fun w => !decide (w.op = op) }
  forL held (fun h s => dropPin op h.page s) s

/-! ## Homes (R252) -/

/-- R288: bytes of a block's footprint. -/
def blockBytes (o : Obj) (i : Nat) : Nat :=
  if (i + 1) * 1048576 ≤ o.size then 1048576 else 4096 * ceilDiv (o.size - i * 1048576) 4096

/-- R287: device virtual address of a byte of an object. -/
def objVa (obj off : Nat) : Nat := 2 ^ 63 + obj * 2 ^ 44 + off

/-- R268: bytes of the saved-table set: the level-1 table, the level-2 tables, the level-3 tables with companions, the token
log. -/
def savedBytes (q : Seq) : Nat :=
  let layers := (q.l3.map fun e => e.1 / 65536).eraseDups
  let tables := (q.l3.map fun e => e.1 / 256).eraseDups
  2048 + 2048 * layers.length + 4096 * tables.length + 40960 * q.logPieces.length

/-- R252: the home of a datum. -/
def homeOf (s : Dev) : Datum → Option Home
  | .page p => (mget s.kvs.pages p).map (·.home)
  | .block obj i => (mget s.tir.objs obj).bind fun o => mget o.blocks i
  | .pendingArea i => (mget s.kvs.seqs i).map fun q =>
      match q.pendingExtent with | some e => .t2 e | none => .t1 q.pendingBase
  | .tables i => (mget s.kvs.seqs i).map fun q =>
      match q.ptExtent with | some e => .t2 e | none => .t1 q.ptRoot

/-- R263: the one write that moves a datum's home. -/
def setHome (d : Datum) (h : Home) (s : Dev) : Dev :=
  match d with
  | .page p => modPage p (fun pg => { pg with home := h }) s
  | .block obj i => { s with tir.objs := mmod s.tir.objs obj fun o => { o with blocks := mset o.blocks i h } }
  | .pendingArea i => modSeq i (fun q =>
      match h with
      | .t2 e => { q with pendingExtent := some e }
      | .t1 a => { q with pendingExtent := none, pendingBase := a }
      | .staging _ => q) s
  | .tables i => modSeq i (fun q =>
      match h with
      | .t2 e => { q with ptExtent := some e, ptSet := if q.ptNext = [] then q.ptSet else q.ptNext, ptNext := [] }
      | .t1 a => { q with ptExtent := none, ptSet := [], ptNext := [], ptRoot := a }
      | .staging _ => q) s

/-- R271, R288, R90: a datum's footprint in 4 KiB units, its element size, and the bytes it holds where they are kept. -/
def datumForm (s : Dev) : Datum → Nat × Nat × List Byte
  | .page p =>
    match mget s.kvs.pages p with
    | none => (0, 1, [])
    | some pg => (pg.page4k, elemSize pg.format, pageImage pg.kvHeads pg.headDim pg.format pg.toks)
  | .block obj i =>
    match mget s.tir.objs obj with
    | none => (0, 1, [])
    | some o => (blockBytes o i / 4096, if o.elem = 0 then 1 else if o.elem = 1 then 2 else 4,
        memReadN s.mem (objVa obj (i * 1048576)) (blockBytes o i))
  | .pendingArea _ => (5, 1, [])
  | .tables i =>
    match mget s.kvs.seqs i with
    | none => (0, 1, [])
    | some q => (ceilDiv (savedBytes q) 4096, 1, [])

/-- R256: the pools that a datum's T1 home comes from, in order; 258 is the table pool of the system pool, 259 its pending
areas. DEDUCED: log entry 53. -/
def poolsOf (s : Dev) : Datum → List Nat
  | .page p => match mget s.kvs.pages p with
    | some pg => [sharePool pg.model, coldPoolKey]
    | none => []
  | .block _ _ => [weightPoolKey, coldPoolKey]
  | .pendingArea _ => [259]
  | .tables _ => [258]

/-- R255: the system pool is not divided further. -/
def isSystemPool (pool : Nat) : Bool := decide (258 ≤ pool)

/-- R270: blocks of OPEN objects are never compressed. -/
def neverCompressed (s : Dev) : Datum → Bool
  | .block obj _ => (mget s.tir.objs obj).any fun o => decide (o.state = .opened)
  | _ => false

/-- R256, R261: a T1 home for a datum, in the first of its pools with room. DEDUCED: log entry 53. -/
def t1Home (d : Datum) (pools : List Nat) (s : Dev) : Option (Home × Dev) :=
  let (units, e, b) := datumForm s d
  let packed := decide (s.tt.profile = .density) && !neverCompressed s d
  let size (pool : Nat) : Nat := if pool = coldPoolKey then coldBytes packed e units b else 4096 * units
  match pools.find? fun pool => isSystemPool pool || poolFits s pool (size pool) with
  | none => none
  | some pool => let (a, s) := t1Take pool (size pool) s; some (.t1 a, s)

/-- R268: the saved-table set in extents of at most 1 MiB, and its index extent. DEDUCED: log entry 53. -/
def savedSet (i units : Nat) : Nat → Dev → List Extent → Option (List Extent × Dev)
  | 0, s, acc => some (acc, s)
  | n + 1, s, acc =>
    let k := min 256 (units - 256 * acc.length)
    if units ≤ 256 * acc.length then some (acc, s)
    else
      match t2Take (.tables i) 0 k s with
      | none => none
      | some (e, s) => savedSet i units n s (acc ++ [e])

/-- R270, R274: a T2 home for a datum, compressed where that is shorter. -/
def t2Home (d : Datum) (s : Dev) : Option (Home × Dev) :=
  let (units, e, b) := datumForm s d
  match d with
  | .tables i =>
    match savedSet i units (ceilDiv units 256) s [] with
    | none => none
    | some (set, s) =>
      match t2Take d 0 (ceilDiv (8 * (set.length + 1)) 4096) s with
      | none => none
      | some (x, s) => some (.t2 x, modSeq i (fun q => { q with ptSet := set, ptNext := [] }) s)
  | .pendingArea _ => (t2Take d 0 units s).map fun x => (.t2 x.1, x.2)
  | _ =>
    let (codec, n) := storedForm e units b
    (t2Take d codec n s).map fun x => (.t2 x.1, x.2)

/-! ## Moves (R265, R266) -/

/-- R265: the way a kind of move goes: 1 into T1, 2 into T2, 3 within T2, 0 within T1. -/
def MoveKind.way : MoveKind → Nat
  | .promotion => 1 | .resume => 1 | .refetch => 1 | .abortReturn => 1
  | .demotion => 2 | .park => 2
  | .relocation => 3
  | .sealCopy => 0 | .compaction => 0

/-- The move of a datum that has not switched. -/
def moveOf (s : Dev) (d : Datum) : Option Move :=
  s.tir.moves.find? fun m => decide (m.datum = d) && !decide (m.state = .switching)

/-- The state with a move changed by `f`. -/
def modMove (id : Nat) (f : Move → Move) (s : Dev) : Dev :=
  { s with tir.moves := s.tir.moves.map fun m => if m.id = id then f m else m }

/-- R266: a move that no longer exists: its destination is free, its pin released. -/
def cancelMove (m : Move) (s : Dev) : Dev :=
  let s := { s with
    tir.moves := s.tir.moves.filter fun x => !decide (x.id = m.id)
    tir.allocWaits := s.tir.allocWaits.filter fun w => !decide (w.move = m.id)
    fls.reads := s.fls.reads.filter fun r => !decide (r.move = some m.id) }
  let s := match m.dest with
    | some h => freeHome h s
    | none => s
  let s := match m.datum with
    | .page p => { s with tir.proj := mdel s.tir.proj p }
    | _ => s
  dropPins (moveOp m.id) s

/-- R266: every move of a datum that has not switched is cancelled. -/
def cancelMoves (d : Datum) (s : Dev) : Dev :=
  match moveOf s d with
  | some m => cancelMove m s
  | none => s

/-- R277: the earlier of two need_by values, where zero is latest. -/
def earlier (a b : Time) : Time := if a = 0 then b else if b = 0 then a else if serialLt a b then a else b

/-- A move joins the queue. -/
def pushMove (d : Datum) (kind : MoveKind) (needBy : Time) (s : Dev) : Dev :=
  { s with
    tir.moves := s.tir.moves ++ [{ id := s.tir.nextMove, datum := d, kind, state := .queued, needBy, order := s.tir.nextMove,
                                   dest := none, drainWait := none, grantHold := none }]
    tir.nextMove := s.tir.nextMove + 1 }

/-- R265, R277, R329: a move is asked for: one of the same way keeps the earlier need_by; the opposite way cancels the move in
progress and the datum stays at its home; a move within a tier gives way. -/
def queueMove (d : Datum) (kind : MoveKind) (needBy : Time) (s : Dev) : Dev :=
  match moveOf s d with
  | none => pushMove d kind needBy s
  | some m =>
    if m.kind.way = kind.way then modMove m.id (fun m => { m with needBy := earlier m.needBy needBy }) s
    else if kind.way = 3 ∨ kind.way = 0 then s
    else if m.kind.way = 3 ∨ m.kind.way = 0 then pushMove d kind needBy (cancelMove m s)
    else cancelMove m s

/-- R263: the drain entry of a location that a switch has left. -/
def addDrain (d : Datum) (old : Home) (s : Dev) : Dev :=
  let n := match d with
    | .page p => (s.pfx.pinOps.filter fun h => decide (h.page = p) && decide (h.loc = old)).length
    | _ => 0
  { s with tir.drains := s.tir.drains ++ [{ datum := d, old, count := n, frame := s.tt.frame }] }

/-- R607: the token log goes where the tables go: its pieces are freed in T1, or found new places there. -/
def moveLog (i : Nat) (new : Home) (s : Dev) : Dev :=
  match mget s.kvs.seqs i with
  | none => s
  | some q =>
    if new.inT1 then
      forL q.logPieces (fun e s =>
        let (a, s) := t1Take 258 40960 s
        modSeq i (fun q => { q with logPieces := mset q.logPieces e.1 a }) s) s
    else forL q.logPieces (fun e s => t1Free e.2 s) s

/-- R263: the home switch of a datum. -/
def switchHome (d : Datum) (new : Home) (s : Dev) : Dev :=
  match homeOf s d with
  | none => freeHome new s
  | some old =>
    let s := addDrain d old (setHome d new s)
    match d with
    | .page _ => markRead new s
    | .block _ _ => markRead new s
    | .tables i => if old.inT1 == new.inT1 then s else moveLog i new s
    | .pendingArea _ => s

/-! ## References and retirement (R147, R149, R151) -/

/-- R303: an entry of the lost-page table leaves it with the page's last reference. -/
def unlistLost (p : Nat) (s : Dev) : Dev :=
  match mget s.kvs.pages p with
  | none => s
  | some pg => { s with
      tir.lostPages := s.tir.lostPages.filter fun k => !decide (k = lossKey pg)
      tir.lostUnlisted := s.tir.lostUnlisted.filter fun x => !decide (x = p) }

/-- R149: the last reference drops: the page becomes RETIRING, and a move of it that has not switched is cancelled. -/
def retirePage (p : Nat) (s : Dev) : Dev :=
  let s := { s with par.copies := s.par.copies.filter fun c => !decide (c.1 = .page p) }
  modPage p (fun pg => { pg with state := .retiring, retireFrame := s.tt.frame, refs := 0 })
    (cancelMoves (.page p) (unlistLost p s))

/-- An open page leaves at once: nothing but its sequence names it. -/
def freeOpenPage (p : Nat) (s : Dev) : Dev :=
  match mget s.kvs.pages p with
  | none => s
  | some pg =>
    let s := freeHome pg.home (cancelMoves (.page p) s)
    { s with kvs.pages := mdel s.kvs.pages p }

/-- R147: one reference to a page is dropped. -/
def dropRef (p : Nat) (s : Dev) : Dev :=
  match mget s.kvs.pages p with
  | none => s
  | some pg =>
    if pg.state = .opened then freeOpenPage p s
    else if pg.owner.isSome ∨ pg.refs ≤ 1 then retirePage p s
    else modPage p (fun pg => { pg with refs := pg.refs - 1 }) s

/-- R147: one reference to a shared page is added. -/
def addRef (p : Nat) (s : Dev) : Dev := modPage p (fun pg => { pg with refs := pg.refs + 1 }) s

/-- R152: a page-list entry is free; the list goes when all its entries are. -/
def freeListEntry (addr : Nat) (s : Dev) : Dev :=
  match s.pfx.plists.find? fun e => decide (e.1 ≤ addr) && e.2.2.contains addr with
  | none => s
  | some (base, gen, used) =>
    let rest := used.filter fun a => !decide (a = addr)
    if rest = [] then t1Free base { s with pfx.plists := mdel s.pfx.plists base }
    else { s with pfx.plists := mset s.pfx.plists base (gen, rest) }

/-- R151: a RETIRING page is reclaimed once it has no pins and frame f + 2 has begun. -/
def reclaimPage (p : Nat) (s : Dev) : Dev :=
  match mget s.kvs.pages p with
  | none => s
  | some pg =>
    if pg.state = .retiring ∧ pinCount s p = 0 ∧ serialLe (pg.retireFrame + 2) s.tt.frame ∧ !s.ras.reclaimHalted then
      let s := freeHome pg.home s
      let s := if pg.owner.isNone then freeListEntry pg.plEntry s else s
      { s with kvs.pages := mdel s.kvs.pages p }
    else s

/-- A new page: the next number of the model's own. -/
def newPage (pg : Page) (s : Dev) : Nat × Dev :=
  (s.kvs.nextPage, { s with kvs.pages := mset s.kvs.pages s.kvs.nextPage pg, kvs.nextPage := s.kvs.nextPage + 1 })

/-- R104: index of a level-3 entry. -/
def l3Key (layer page : Nat) : Nat := 65536 * layer + page

end Sys2Proof.Machine
end

