-- ==== Sys2Proof/Machine/Seats.lean ====
section
/-! DEFINITION. Sequences as the tables hold them (R84 to R98): handles, seats, parking, resuming, aborting a park, and the
entry to LOST. -/

namespace Sys2Proof.Machine

/-! ## Codes and replies -/

/-- R92: state codes. -/
def SeqState.code : SeqState → Nat
  | .seated => 1 | .parking => 2 | .parked => 3 | .resuming => 4 | .closing => 5 | .lost => 6

/-- R84: cold-record index of a handle. -/
def indexOf (handle : BitVec 32) : Nat := handle.toNat % 16777216

/-- R84: the handle of an index and a generation. -/
def handleOf (index : Nat) (gen : BitVec 8) : BitVec 32 := BitVec.ofNat 32 (gen.toNat * 16777216 + index)

/-- R86: the live sequence that a handle names; a CLOSING one has no handle any more (R92). -/
def findSeq (s : Dev) (handle : BitVec 32) : Option (Nat × Seq) :=
  match mget s.kvs.seqs (indexOf handle) with
  | none => none
  | some q => if q.handle = handle ∧ q.state ≠ .closing then some (indexOf handle, q) else none

/-- R127: pages of the sequence with their home in T1, and in T2. -/
def homedPages (s : Dev) (q : Seq) (t1 : Bool) : Nat :=
  (q.l3.filter fun e => match mget s.kvs.pages e.2.page with
    | some pg => pg.home.inT1 == t1
    | none => false).length

/-- R127: the fields of the SEQ_ADMIN reply after the status. -/
def seqFields (s : Dev) (i : Nat) : List Nat :=
  match mget s.kvs.seqs i with
  | none => []
  | some q => [q.state.code, formatCode q.format, q.handle.toNat, q.length, q.sharedTokens, q.seat.getD 0xFFFFFFFF, q.maxLen,
      homedPages s q true, homedPages s q false]

/-- KVS_REFUSALS (R87, R292): requests refused with these words are counted. -/
def countsAsRefusal (st : Status) : Bool :=
  decide (st = St.kvsTenant) || decide (st = St.kvsBadHandle) || decide (st = St.tirTenant)

/-- A refusal of the sequence and object services. -/
def refuse (rq : Requester) (st : Status) (s : Dev) : Dev :=
  reply rq st [] (if countsAsRefusal st then count Reg.kvsRefusals s else s)

/-- R111 step 1, R128, R419: handle, tenant, then the owner. `owned` asks for the owner check. DEDUCED: log entry 54. -/
def checkSeq (s : Dev) (rq : Requester) (tenant : Nat) (handle : BitVec 32) (owned : Bool) : Status × Nat :=
  if !tenantOk s rq tenant then (St.kvsTenant, 0)
  else
    match findSeq s handle with
    | none => (St.kvsBadHandle, 0)
    | some (i, q) =>
      if q.tenant ≠ tenant then (St.kvsTenant, i)
      else if owned && !ownsSeq s i then (St.parNotOwner, i)
      else (St.ok, i)

/-- R127 to R131: the requester of a command that may be held. -/
def requesterOf : Instr → Requester
  | .append _ rq _ => rq
  | .seqAdminOpen _ rq _ _ _ _ => rq
  | .seqAdminResume _ rq _ _ => rq
  | .seqAdminTruncate _ rq _ _ _ => rq
  | .seqAdminClose _ rq _ _ => rq
  | .lookup _ rq _ _ => rq
  | .attach _ rq _ => rq
  | .promote _ rq _ => rq
  | _ => .device

/-- The handle that a command which may be held names. -/
def handleOfCmd : Instr → BitVec 32
  | .append _ _ m => m.handle
  | .seqAdminResume _ _ _ h => h
  | .seqAdminTruncate _ _ _ h _ => h
  | .seqAdminClose _ _ _ h => h
  | .lookup _ _ m _ => m.handle
  | .attach _ _ m => m.handle
  | .promote _ _ m => m.handle
  | _ => 0xFFFFFFFF

/-- R92: a held CLOSE. -/
def Held.isClose (h : Held) : Bool :=
  match h.cmd with
  | .seqAdminClose _ _ _ _ => true
  | _ => false

/-! ## Seats (R88, R96, R97, R247) -/

/-- Seats there are. -/
def seatCount : Nat := 262144

/-- R247: seats that sequences of a model hold. -/
def modelSeats (s : Dev) (model : Nat) : Nat :=
  (s.kvs.seqs.filter fun e => decide (e.2.model = model) && e.2.seat.isSome).length

/-- R245: seats granted to a model. -/
def grantedSeats (s : Dev) (model : Nat) : Nat :=
  match mget s.att.models model with
  | some m => m.granted
  | none => 0

/-- The lowest free seat. -/
def lowestSeat (s : Dev) : Option Nat :=
  match leastFrom (fun k => !mhas s.kvs.seats k) 0 (s.kvs.seats.length + 1) with
  | some k => if k < seatCount then some k else none
  | none => none

/-- R97: the seat a sequence takes: its previous one where that is free, else the lowest. -/
def seatFor (s : Dev) (model : Nat) (prev : Option Nat) : Option Nat :=
  if grantedSeats s model ≤ modelSeats s model then none
  else
    match prev with
    | some k => if mhas s.kvs.seats k then lowestSeat s else some k
    | none => lowestSeat s

/-- R95, R81: the sequence has been idle for `k` × 1,024 frames. -/
def idleFor (s : Dev) (q : Seq) (k : Nat) : Bool :=
  let n := (s.tt.frame - q.lastFrame).toNat
  decide (n < 2 ^ 31) && decide (1024 * k ≤ n) || (decide (2 ^ 30 < n) && decide (n < 2 ^ 31))

/-- R96: some engine holds a pin on a page of the sequence. -/
def hasPins (s : Dev) (q : Seq) : Bool := q.l3.any fun e => decide (0 < pinCount s e.2.page)

/-- R96, R247: the sequence that a seat-pressure eviction parks: the oldest last_frame, the lowest seat on a tie; of the same
model where the model's grant is used up. -/
def evictionVictim (s : Dev) (model : Nat) (but : Option Nat) : Option Nat :=
  let full := decide (grantedSeats s model ≤ modelSeats s model)
  let able := s.kvs.seqs.filter fun e => decide (e.2.state = .seated) && !decide (but = some e.1) && idleFor s e.2 s.evictMinK && !hasPins s e.2
    && (!full || decide (e.2.model = model))
  (firstBy (fun a b => serialLt a.2.lastFrame b.2.lastFrame
    || (decide (a.2.lastFrame = b.2.lastFrame) && decide (a.2.seat.getD 0 < b.2.seat.getD 0))) able).map (·.1)

/-- R88: the seat is given to a sequence. -/
def giveSeat (i k : Nat) (s : Dev) : Dev :=
  modSeq i (fun q => { q with seat := some k }) { s with kvs.seats := mset s.kvs.seats k i }

/-- R92: the seat of a sequence is free. -/
def freeSeat (i : Nat) (s : Dev) : Dev :=
  match mget s.kvs.seqs i with
  | none => s
  | some q =>
    match q.seat with
    | none => s
    | some k => modSeq i (fun q => { q with seat := none, prevSeat := some k }) { s with kvs.seats := mdel s.kvs.seats k }

/-! ## Reads from T2 (R279) -/

/-- R279: the projection of a read of the extent queued now. -/
def projectRead (s : Dev) (e : Extent) : Time :=
  let last := mgetD s.tir.dieProj (dieOfUnit e.unit) s.now
  (if serialLt s.now last then last else s.now) + us s.t2BoundUs

/-- R279, R322: a read is queued on its die. -/
def addRead (d : Datum) (e : Extent) (move : Option Nat) (s : Dev) : Dev :=
  let t := projectRead s e
  { s with
    tir.dieProj := mset s.tir.dieProj (dieOfUnit e.unit) t
    fls.reads := s.fls.reads ++ [{ id := s.fls.nextRead, unit := e.unit, len := e.len4k, move, datum := d, projection := t,
                                   step := 0 }]
    fls.nextRead := s.fls.nextRead + 1 }

/-- R279: the projection of a datum's read in flight. -/
def readInFlight (s : Dev) (d : Datum) : Option Time :=
  (s.fls.reads.find? fun r => decide (r.datum = d)).map (·.projection)

/-- A read of the datum that no move asked for, when it lies in T2. -/
def readIfT2 (d : Datum) (s : Dev) : Dev :=
  match homeOf s d with
  | some (.t2 e) => addRead d e none s
  | _ => s

/-! ## Parking (R92, R267) -/

/-- R267: the pages of a sequence that a park moves: private, homed in T1, in ascending layer and page; sealed or open. -/
def parkPages (s : Dev) (q : Seq) (sealedOnes : Bool) : List Nat :=
  (q.l3.filter fun e => !e.2.shared && (match mget s.kvs.pages e.2.page with
    | some pg => pg.home.inT1 && (decide (pg.state = .sealed) == sealedOnes)
    | none => false)).map (·.2.page)

/-- R92, R267: a park begins: the sequence's moves to T2 are queued. -/
def startPark (i : Nat) (wait : Option Nat) (s : Dev) : Dev :=
  match mget s.kvs.seqs i with
  | none => s
  | some q =>
    let s := modSeq i (fun q => { q with state := .parking, evictedFor := wait }) s
    let s := forL (parkPages s q true) (fun p s => queueMove (.page p) .park 0 s) s
    let s := forL (parkPages s q false) (fun p s => queueMove (.page p) .park 0 s) s
    queueMove (.tables i) .park 0 (queueMove (.pendingArea i) .park 0 s)

/-- R423: a park that the device began goes to the other side. -/
def tellPark (i : Nat) (s : Dev) : Dev :=
  match mget s.kvs.seqs i with
  | some q => tell (.seqPark q.handle) s
  | none => s

/-- The sequence to which a datum belongs. -/
def seqOfDatum (s : Dev) : Datum → Option Nat
  | .page p => (mget s.kvs.pages p).bind (·.owner)
  | .block _ _ => none
  | .pendingArea i => some i
  | .tables i => some i

/-- The moves of one kind of the sequence's data. -/
def movesOf (s : Dev) (i : Nat) (k : MoveKind) : List Move :=
  s.tir.moves.filter fun m => decide (m.kind = k) && decide (seqOfDatum s m.datum = some i)

/-- R266: the moves of a sequence that have not switched are cancelled. -/
def cancelSeqMoves (i : Nat) (k : MoveKind) (s : Dev) : Dev :=
  forL ((movesOf s i k).filter fun m => !decide (m.state = .switching)) cancelMove s

/-- R269: what has already switched to T2 comes back. -/
def returnToT1 (i : Nat) (s : Dev) : Dev :=
  match mget s.kvs.seqs i with
  | none => s
  | some q =>
    let back := (q.l3.filter fun e => !e.2.shared && (match mget s.kvs.pages e.2.page with
      | some pg => !pg.home.inT1 && decide (pg.state = .opened)
      | none => false)).map fun e => e.2.page
    let s := forL back (fun p s => queueMove (.page p) .abortReturn 0 s) s
    let s := if q.pendingExtent.isSome then queueMove (.pendingArea i) .abortReturn 0 s else s
    if q.ptExtent.isSome then queueMove (.tables i) .abortReturn 0 s else s

/-- R269: moves back to T1 are still running, so held commands wait. -/
def returning (s : Dev) (i : Nat) : Bool := !(movesOf s i .abortReturn).isEmpty

/-- R96: the model of the sequence that a waiting command asks a seat for, and the seat it had. -/
def waitModel (s : Dev) : Instr → Nat × Option Nat
  | .seqAdminOpen _ _ _ m _ _ => (m, none)
  | c => match findSeq s (handleOfCmd c) with
    | some (_, q) => (q.model, q.prevSeat)
    | none => (256, none)

/-! ## Requests with a segment that fails (R187) -/

/-- The state with a request changed by `f`. -/
def modReq (id : Nat) (f : Request → Request) (s : Dev) : Dev := { s with att.reqs := mmod s.att.reqs id f }

/-- R216: the state with the dispatcher's next slice for a logical core moved into that core's queue, when it has room.
DEDUCED: log entry 61. -/
def queueNext (core : Nat) (s : Dev) : Dev :=
  let queued := sumBy (fun r => (r.2.slices.filter fun x => decide (x.core = core) && x.queued && !x.done).length) s.att.reqs
  if 256 ≤ queued then s
  else
    match s.att.reqs.find? fun r => r.2.slices.any fun x => decide (x.core = core) && !x.queued with
    | none => s
    | some (id, r) =>
      match r.slices.find? fun x => decide (x.core = core) && !x.queued with
      | none => s
      | some x =>
        let mark (y : Slice) : Slice := if y.g = x.g then { y with queued := true } else y
        modReq id (fun r => { r with slices := r.slices.map mark }) s

/-- R187: a segment of an accepted request fails after its acceptance: the entry says why, its work is dropped. -/
def failSegment (id seg : Nat) (st : Status) (s : Dev) : Dev :=
  match mget s.att.reqs id with
  | none => s
  | some r =>
    if (r.segs[seg]?).any (fun g => decide (g.status = St.ok)) then
      let fail (g : SegView) : SegView := { g with status := st }
      let gone := (r.slices.filter fun x => decide (x.seg = seg)).map (·.core)
      let s := modReq id (fun r => { r with
        segs := r.segs.modify seg fail
        slices := r.slices.filter fun x => !decide (x.seg = seg)
        tree := r.tree.filter fun n => !decide (n.seg = seg)
        finished := r.finished.filter fun f => !decide (f.seg = seg) }) s
      forL gone (fun c s => queueNext c s) (count Reg.attSegErrCount { s with att.segError := true })
    else s

/-- Every segment of the accepted requests that `p` holds of fails. -/
def failSegments (p : SegView → Bool) (st : Status) (s : Dev) : Dev :=
  forL s.att.reqs (fun r s => forN r.2.segs.length (fun g s =>
    match r.2.segs[g]? with
    | some v => if decide (v.status = St.ok) && p v then failSegment r.1 g st s else s
    | none => s) s) s

/-! ## Another choice (R96) -/

/-- R96: a wait ends; a park that was made for it alone goes on for nobody. -/
def endWait (w : SeatWait) (s : Dev) : Dev :=
  let rest := s.kvs.seatWaits.filter fun x => !decide (x.id = w.id)
  let s := { s with kvs.seatWaits := rest }
  match w.victim with
  | some v => if rest.any (fun x => decide (x.victim = some v)) then s else modSeq v (fun q => { q with evictedFor := none }) s
  | none => s

/-- R96: a request that waits for a seat is refused, with what else waits for its sequence. DEDUCED: log entry 54. -/
def refuseWait (w : SeatWait) (s : Dev) : Dev :=
  let s := endWait w s
  match w.cmd with
  | .seqAdminOpen _ rq _ _ _ _ => refuse rq St.kvsNoSeat s
  | c =>
    let handle := handleOfCmd c
    let s := match c with
      | .seqAdminResume _ rq _ _ => refuse rq St.kvsNoSeat s
      | _ => s
    let s := failSegments (fun g => decide (g.handle = handle)) St.kvsNoSeat s
    match findSeq s handle with
    | none => s
    | some (i, q) =>
      let gone := q.held.filter fun h => !h.isClose
      let s := modSeq i (fun q => { q with held := q.held.filter Held.isClose }) s
      forL gone (fun h s => refuse (requesterOf h.cmd) St.kvsNoSeat s) s

/-- R96: the request that waits for the seat of sequence `i` waits for whatever seat comes free. -/
def unchoose (i : Nat) (s : Dev) : Dev :=
  let mark (x : SeatWait) : SeatWait := if x.victim = some i then { x with victim := none } else x
  { s with kvs.seatWaits := s.kvs.seatWaits.map mark }

/-- R96: activity has brought sequence `i` back out of its eviction: another sequence is chosen for the request that waits for its
seat, or the request is refused where none qualifies. -/
def chooseAgain (i : Nat) (s : Dev) : Dev :=
  match s.kvs.seatWaits.find? fun w => decide (w.victim = some i) with
  | none => s
  | some w =>
    match evictionVictim s (waitModel s w.cmd).1 (some i) with
    | some j =>
      let mark (x : SeatWait) : SeatWait := if x.victim = some i then { x with victim := some j } else x
      tellPark j (startPark j (some w.id) { s with kvs.seatWaits := s.kvs.seatWaits.map mark })
    | none => refuseWait w s

/-- R92, R269: activity aborts a park. -/
def abortPark (i : Nat) (s : Dev) : Dev :=
  match mget s.kvs.seqs i with
  | none => s
  | some q =>
    if q.state = .parking then
      let s := cancelSeqMoves i .park s
      let s := modSeq i (fun q => { q with state := .seated, evictedFor := none }) s
      let s := raise St.kvsParkAborted q.tenant [] (returnToT1 i s)
      if q.evictedFor.isSome then chooseAgain i s else s
    else s

/-! ## Resuming (R92, R97) -/

/-- R92: a parked sequence with a seat obtained reads its tables, token log, pending area and open pages back. -/
def startResume (i seat : Nat) (s : Dev) : Dev :=
  match mget s.kvs.seqs i with
  | none => s
  | some q =>
    let s := giveSeat i seat (modSeq i (fun q => { q with state := .resuming }) s)
    let s := match q.ptExtent with
      | some e => forL (e :: q.ptSet) (fun x s => addRead (.tables i) x none s) s
      | none => s
    let s := match q.pendingExtent with
      | some e => addRead (.pendingArea i) e none s
      | none => s
    forL (q.l3.filter fun e => !e.2.shared) (fun e s => match mget s.kvs.pages e.2.page with
      | some pg => if pg.state = .opened then readIfT2 (.page e.2.page) s else s
      | none => s) s

/-- R96: what a request for a seat finds. -/
inductive SeatFound
  | seat (k : Nat)
  | evict (victim : Nat)
  | nothing
  deriving DecidableEq, Repr

/-- R96, R97: a seat for a sequence of the model. -/
def seekSeat (s : Dev) (model : Nat) (prev : Option Nat) : SeatFound :=
  match seatFor s model prev with
  | some k => .seat k
  | none =>
    match evictionVictim s model none with
    | some v => .evict v
    | none => .nothing

/-- R96: the command waits for the seat of the sequence chosen. -/
def waitForSeat (cmd : Instr) (victim : Nat) (s : Dev) : Dev :=
  let id := s.kvs.nextWait
  tellPark victim (startPark victim (some id) { s with
    kvs.seatWaits := s.kvs.seatWaits ++ [{ id, cmd, since := s.now, victim := some victim }]
    kvs.nextWait := id + 1 })

/-- R98: a command is held for a resume or for the moves of an aborted park. DEDUCED: log entry 54. -/
def holdCmd (i : Nat) (cmd : Instr) (s : Dev) : Dev :=
  modSeq i (fun q => { q with held := q.held ++ [{ cmd, since := s.now }] }) s

/-- R64: a batch position is emptied at the next frame boundary. -/
def leaveBatches (handle : BitVec 32) (s : Dev) : Dev :=
  let held := s.tt.batch.filter fun e => decide (e.2 = handle)
  { s with tt.batchChanges := s.tt.batchChanges ++ held.map fun e =>
      { stream := e.1 / 4096, position := e.1 % 4096, handle := none, since := s.now } }

/-- R94: entry to LOST: the seat is free, moves are cancelled, held commands refused but for a CLOSE. -/
def markLost (i : Nat) (s : Dev) : Dev :=
  match mget s.kvs.seqs i with
  | none => s
  | some q =>
    if q.state = .closing ∨ q.state = .lost then s
    else
      let s := cancelSeqMoves i .abortReturn (cancelSeqMoves i .resume (cancelSeqMoves i .park s))
      let s := { s with fls.reads := s.fls.reads.filter fun r => !(r.move.isNone && decide (seqOfDatum s r.datum = some i)) }
      let s := freeSeat i (modSeq i (fun q => { q with state := .lost, held := q.held.filter Held.isClose }) s)
      let s := leaveBatches q.handle s
      let s := forL (q.held.filter fun h => !h.isClose) (fun h s => refuse (requesterOf h.cmd) St.kvsLost s) s
      if q.evictedFor.isSome then unchoose i s else s

/-! ## The free list (R85) -/

/-- R85: the index at the head of the free list. -/
def headIndex (s : Dev) : Option Nat :=
  if s.kvs.freeNext < 16777216 then
    leastFrom (fun i => !s.kvs.freeSkip.contains i) s.kvs.freeNext
      (min (16777216 - s.kvs.freeNext) (s.kvs.freeSkip.length + 1))
  else none

/-- R85: the index at the head is taken. -/
def takeIndex (s : Dev) : Option (Nat × Dev) :=
  match headIndex s with
  | some i => some (i, { s with kvs.freeNext := i + 1, kvs.freeSkip := s.kvs.freeSkip.filter fun k => decide (i < k) })
  | none =>
    match s.kvs.freeQueue with
    | i :: rest => some (i, { s with kvs.freeNext := 16777216, kvs.freeQueue := rest })
    | [] => none

/-- R85: the generation after `gen` of an index; 0xFFFF_FFFF is never issued. -/
def nextGen (i : Nat) (gen : BitVec 8) : BitVec 8 :=
  if handleOf i (gen + 1) = 0xFFFFFFFF then 0 else gen + 1

/-- R85: an index goes to the tail of the free list with its next generation. -/
def freeIndex (i : Nat) (s : Dev) : Dev :=
  { s with
    kvs.gens := mset s.kvs.gens i (nextGen i (mgetD s.kvs.gens i 0))
    kvs.freeQueue := s.kvs.freeQueue ++ [i] }

end Sys2Proof.Machine
end

