-- ==== Sys2Proof/Machine/Sha.lean ====
section
/-! DEFINITION. SHA-256 (FIPS 180-4), which R138 names for chain keys, and the chain key of a block. -/

namespace Sys2Proof.Machine

/-- The round constants, rows 1 to 4. -/
def shaK1 : List (BitVec 32) :=
  [0x428a2f98, 0x71374491, 0xb5c0fbcf, 0xe9b5dba5, 0x3956c25b, 0x59f111f1, 0x923f82a4, 0xab1c5ed5,
   0xd807aa98, 0x12835b01, 0x243185be, 0x550c7dc3, 0x72be5d74, 0x80deb1fe, 0x9bdc06a7, 0xc19bf174]
def shaK2 : List (BitVec 32) :=
  [0xe49b69c1, 0xefbe4786, 0x0fc19dc6, 0x240ca1cc, 0x2de92c6f, 0x4a7484aa, 0x5cb0a9dc, 0x76f988da,
   0x983e5152, 0xa831c66d, 0xb00327c8, 0xbf597fc7, 0xc6e00bf3, 0xd5a79147, 0x06ca6351, 0x14292967]
def shaK3 : List (BitVec 32) :=
  [0x27b70a85, 0x2e1b2138, 0x4d2c6dfc, 0x53380d13, 0x650a7354, 0x766a0abb, 0x81c2c92e, 0x92722c85,
   0xa2bfe8a1, 0xa81a664b, 0xc24b8b70, 0xc76c51a3, 0xd192e819, 0xd6990624, 0xf40e3585, 0x106aa070]
def shaK4 : List (BitVec 32) :=
  [0x19a4c116, 0x1e376c08, 0x2748774c, 0x34b0bcb5, 0x391c0cb3, 0x4ed8aa4a, 0x5b9cca4f, 0x682e6ff3,
   0x748f82ee, 0x78a5636f, 0x84c87814, 0x8cc70208, 0x90befffa, 0xa4506ceb, 0xbef9a3f7, 0xc67178f2]

/-- The initial hash value. -/
def shaInit : List (BitVec 32) :=
  [0x6a09e667, 0xbb67ae85, 0x3c6ef372, 0xa54ff53a, 0x510e527f, 0x9b05688c, 0x1f83d9ab, 0x5be0cd19]

/-- The functions of FIPS 180-4, section 4.1.2. -/
def shaCh (x y z : BitVec 32) : BitVec 32 := (x &&& y) ^^^ (~~~x &&& z)
def shaMaj (x y z : BitVec 32) : BitVec 32 := (x &&& y) ^^^ (x &&& z) ^^^ (y &&& z)
def shaBig0 (x : BitVec 32) : BitVec 32 := x.rotateRight 2 ^^^ x.rotateRight 13 ^^^ x.rotateRight 22
def shaBig1 (x : BitVec 32) : BitVec 32 := x.rotateRight 6 ^^^ x.rotateRight 11 ^^^ x.rotateRight 25
def shaSmall0 (x : BitVec 32) : BitVec 32 := x.rotateRight 7 ^^^ x.rotateRight 18 ^^^ (x >>> 3)
def shaSmall1 (x : BitVec 32) : BitVec 32 := x.rotateRight 17 ^^^ x.rotateRight 19 ^^^ (x >>> 10)

/-- The eight working variables. -/
structure ShaVars where
  a : BitVec 32
  b : BitVec 32
  c : BitVec 32
  d : BitVec 32
  e : BitVec 32
  f : BitVec 32
  g : BitVec 32
  h : BitVec 32
  deriving DecidableEq, Repr

/-- One round with constant `k` and schedule word `w`. -/
def shaRound (v : ShaVars) (k w : BitVec 32) : ShaVars :=
  let t1 := v.h + shaBig1 v.e + shaCh v.e v.f v.g + k + w
  let t2 := shaBig0 v.a + shaMaj v.a v.b v.c
  { a := t1 + t2, b := v.a, c := v.b, d := v.c, e := v.d + t1, f := v.e, g := v.f, h := v.g }

/-- The rounds: `ws` holds the next 16 schedule words. -/
def shaRounds : ShaVars → List (BitVec 32) → List (BitVec 32) → ShaVars
  | v, _, [] => v
  | v, ws, k :: ks =>
    let w := ws.getD 0 0
    let next := shaSmall1 (ws.getD 14 0) + ws.getD 9 0 + shaSmall0 (ws.getD 1 0) + w
    shaRounds (shaRound v k w) (ws.drop 1 ++ [next]) ks

/-- One 64-byte block as 16 big-endian words. -/
def shaWords (b : List Byte) : List (BitVec 32) :=
  (List.range 16).map fun i =>
    (b.getD (4 * i) 0 ++ b.getD (4 * i + 1) 0 ++ b.getD (4 * i + 2) 0 ++ b.getD (4 * i + 3) 0 : BitVec 32)

/-- The hash value after one block. -/
def shaBlock (h : List (BitVec 32)) (b : List Byte) : List (BitVec 32) :=
  let x (i : Nat) : BitVec 32 := h.getD i 0
  let v := shaRounds ⟨x 0, x 1, x 2, x 3, x 4, x 5, x 6, x 7⟩ (shaWords b) (shaK1 ++ shaK2 ++ shaK3 ++ shaK4)
  [x 0 + v.a, x 1 + v.b, x 2 + v.c, x 3 + v.d, x 4 + v.e, x 5 + v.f, x 6 + v.g, x 7 + v.h]

/-- The padded message: a one bit, zeros, the bit length in 8 bytes, big-endian. -/
def shaPad (m : List Byte) : List Byte :=
  let zeros := (119 - m.length % 64) % 64
  m ++ [0x80] ++ List.replicate zeros 0 ++ (leBytes (8 * m.length) 8).reverse

/-- `n` blocks of 64 bytes. -/
def shaBlocks : Nat → List (BitVec 32) → List Byte → List (BitVec 32)
  | 0, h, _ => h
  | n + 1, h, b => shaBlocks n (shaBlock h (b.take 64)) (b.drop 64)

/-- The digest's 32 bytes. -/
def sha256 (m : List Byte) : List Byte :=
  let p := shaPad m
  (shaBlocks (p.length / 64) shaInit p).flatMap fun w => (leBytes w.toNat 4).reverse

/-- R138: the chain-key message. -/
def chainMessage (parent : BitVec 96) (toks : List (BitVec 32)) (model : Nat) (salt : BitVec 128) : List Byte :=
  leBytes parent.toNat 12 ++ toks.flatMap (fun t => leBytes t.toNat 4) ++ leBytes model 1 ++ leBytes salt.toNat 16

/-- R138: the chain key of a block: the first 12 bytes of the digest, byte 0 lowest. -/
def chainKey (parent : BitVec 96) (toks : List (BitVec 32)) (model : Nat) (salt : BitVec 128) : BitVec 96 :=
  BitVec.ofNat 96 (ofLeBytes ((sha256 (chainMessage parent toks model salt)).take 12))

end Sys2Proof.Machine
end

