-- ==== Sys2Proof/Machine/Prefix.lean ====
section
/-! DEFINITION. The prefix store (R134 to R177): scopes, the directory, the match array with its key shadow, verification,
attaching and offers. -/

namespace Sys2Proof.Machine

/-! ## Scopes (R134 to R137) -/

/-- R134: the scope a request names; 0xFFFF is the tenant's default. -/
def namedScope (s : Dev) (tenant scope : Nat) : Nat :=
  if scope = 0xFFFF then (match mget s.cfg.tenants tenant with | some t => t.defaultScope | none => 0xFFFF) else scope

/-- R135: the tenant is a member of the scope. -/
def isMember (s : Dev) (tenant scope : Nat) : Bool :=
  match mget s.cfg.tenants tenant with
  | some t => t.valid && (decide (t.defaultScope = scope) || t.scopes.contains scope)
  | none => false

/-- A scope whose record the image does not carry: nothing is shared. -/
def Scope.unused : Scope :=
  { salt := 0, share := false, adopt := false, compact := false, anchored := false, mirror := .m0, saltEpoch := 0,
    maxDepth := 0, retainK := 0 }

/-- The record of a scope. -/
def Dev.scope (s : Dev) (sc : Nat) : Scope := mgetD s.pfx.scopes sc Scope.unused

/-- R243: the model is loaded and not UNLOADING. -/
def modelLoaded (s : Dev) (m : Nat) : Bool :=
  match mget s.att.models m with
  | some x => decide (x.state = .active) || decide (x.state = .tight)
  | none => false

/-! ## The directory (R162, R163) -/

/-- R162: the two candidate buckets of a key. -/
def bucket1 (k : BitVec 96) : Nat := k.toNat % 4194304
def bucket2 (k : BitVec 96) : Nat :=
  let h := k.toNat / 4194304 % 4194304
  if h = bucket1 k then (if h % 2 = 0 then h + 1 else h - 1) else h

/-- The slots of a bucket. -/
def bucketSlots (b : Nat) : List Nat := [4 * b, 4 * b + 1, 4 * b + 2, 4 * b + 3]

/-- The state with a node changed by `f`. -/
def modNode (slot : Nat) (f : Node → Node) (s : Dev) : Dev := { s with pfx.dir := mmod s.pfx.dir slot f }

/-- R164: a probe of both candidate buckets: the slot of the node with the key, one that is not being removed first. -/
def dirProbe (s : Dev) (k : BitVec 96) : Option (Nat × Node) :=
  let found := (bucketSlots (bucket1 k) ++ bucketSlots (bucket2 k)).filterMap fun slot =>
    match mget s.pfx.dir slot with
    | some n => if n.key = k then some (slot, n) else none
    | none => none
  match found.find? fun x => !decide (x.2.state = .removing) with
  | some x => some x
  | none => found.head?

/-- The first free slot of a bucket. -/
def freeSlotIn (s : Dev) (b : Nat) : Option Nat := (bucketSlots b).find? fun k => !mhas s.pfx.dir k

/-- R153, R163: the array entries of a moved node name its new slot. -/
def retarget (old new : Nat) (e : ArrEntry) : ArrEntry :=
  if e.slot = old then
    { e with
      slot := new
      units := match e.units with
        | [a, b, _, d] => [a, b, BitVec.ofNat 64 ((new % 4) * 2 ^ 40 + new / 4 * 2 ^ 18), d]
        | u => u }
  else e

/-- The entries of array, shadow and insert queue follow a moved node. -/
def retargetAll (old new : Nat) (s : Dev) : Dev :=
  { s with
    pfx.arr := mmap s.pfx.arr (retarget old new)
    pfx.shadow := mmap s.pfx.shadow (retarget old new)
    pfx.inserts := s.pfx.inserts.map fun i => { i with entry := retarget old new i.entry } }

/-- R163: the node in hand needs a place in bucket `b`: a free slot there, else it takes the place of the node the pointer
chooses, which is moved to its other bucket. `from?` is the slot the node in hand came from. DEDUCED: log entry 56. -/
def cuckoo (n : Node) (from? : Option Nat) (b : Nat) : Nat → Dev → Option Dev
  | 0, _ => none
  | k + 1, s =>
    match freeSlotIn s b with
    | some slot =>
      let s := { s with pfx.dir := mset s.pfx.dir slot n }
      some (match from? with | some old => retargetAll old slot s | none => s)
    | none =>
      let slot := 4 * b + s.pfx.cuckooPtr
      let s := { s with pfx.cuckooPtr := (s.pfx.cuckooPtr + 1) % 4 }
      match mget s.pfx.dir slot with
      | none => none
      | some r =>
        let s := { s with pfx.dir := mset s.pfx.dir slot n }
        let s := match from? with | some old => retargetAll old slot s | none => s
        cuckoo r (some slot) (if bucket1 r.key = b then bucket2 r.key else bucket1 r.key) k s

/-- R163: a node is inserted into its first bucket, its second, or after at most 32 moves; none leaves the directory as it
was. -/
def dirInsert (n : Node) (s : Dev) : Option Dev :=
  match freeSlotIn s (bucket1 n.key) with
  | some slot => some { s with pfx.dir := mset s.pfx.dir slot n }
  | none =>
    match freeSlotIn s (bucket2 n.key) with
    | some slot => some { s with pfx.dir := mset s.pfx.dir slot n }
    | none => cuckoo n none (bucket1 n.key) 33 s

/-! ## The match array (R153 to R161) -/

/-- R153: units of an entry in a bank of the width code. -/
def widthUnits : Nat → Nat
  | 0 => 0 | 1 => 1 | 2 => 2 | _ => 4

/-- R153: the search key of a chain key: one unit in a compact scope, two otherwise. -/
def searchKey (compact : Bool) (scope model : Nat) (f : Format) (k : BitVec 96) : List (BitVec 64) :=
  let low := scope * 2 ^ 50 + model * 2 ^ 42 + k.toNat % 2 ^ 42
  if compact then [BitVec.ofNat 64 (2 ^ 62 + low)]
  else [BitVec.ofNat 64 (2 ^ 63 + low), BitVec.ofNat 64 (k.toNat / 2 ^ 42 * 2 ^ 10 + formatCode f * 2 ^ 8)]

/-- R136: the width code of the banks that keep a scope's entries. -/
def scopeWidth (sc : Scope) : Nat := if sc.compact then 1 else if sc.anchored then 3 else 2

/-- R153: the units of a node's entry. -/
def entryUnits (sc : Scope) (slot : Nat) (n : Node) : List (BitVec 64) :=
  let key := searchKey sc.compact n.scope n.model n.format n.key
  if sc.anchored && !sc.compact then
    key ++ [BitVec.ofNat 64 ((slot % 4) * 2 ^ 40 + slot / 4 * 2 ^ 18), BitVec.ofNat 64 (n.gen.toNat * 2 ^ 32)]
  else key

/-- R154: the entry lies in a bank that a search of `n` units compares. -/
def compared (s : Dev) (n bank : Nat) : Bool :=
  decide (0 < widthUnits (s.bankWidth bank)) && decide (n ≤ widthUnits (s.bankWidth bank))

/-- R154: enabled banks that the search skips. -/
def skippedBanks (s : Dev) (n : Nat) : Nat :=
  ((List.range 32).filter fun b => decide (0 < widthUnits (s.bankWidth b)) && decide (widthUnits (s.bankWidth b) < n)).length

/-- R154, R155: the matching entries in ascending bank and row. -/
def arrayMatches (s : Dev) (key : List (BitVec 64)) : List Nat :=
  (s.pfx.arr.filter fun e => compared s key.length (e.1 / 8192) && decide (e.2.units.take key.length = key)).map (·.1)

/-- R154, R155: one search, with its counts. -/
def arraySearch (key : List (BitVec 64)) (s : Dev) : Option Nat × Dev :=
  let s := countBy Reg.pfxSkipCount (skippedBanks s key.length) s
  match arrayMatches s key with
  | [] => (none, s)
  | [a] => (some a, s)
  | a :: _ => (some a, raiseDev St.pfxMultiHit (count Reg.pfxMultiHitCount { s with pfx.multiHit := true }))

/-- R156: the bank for a new entry. -/
def bankFor (s : Dev) (k : BitVec 96) (width : Nat) : Option Nat :=
  ((List.range 32).map fun i => (k.toNat + i) % 32).find? fun b => decide (s.bankWidth b = width)

/-- R160: an insert is queued for a LIVE node; a full queue, or no bank of the width, keeps it in the directory only. -/
def queueInsert (slot : Nat) (s : Dev) : Dev :=
  match mget s.pfx.dir slot with
  | none => s
  | some n =>
    let sc := s.scope n.scope
    match bankFor s n.key (scopeWidth sc) with
    | none => s
    | some b =>
      if 256 ≤ s.pfx.inserts.length then s
      else { s with pfx.inserts := s.pfx.inserts ++ [{ bank := b, entry := { units := entryUnits sc slot n, slot },
                                                       moving := !(s.pfx.inserts.any fun i => decide (i.bank = b)) }] }

/-- R153: entries of a bank. -/
def bankEntries (s : Dev) (b : Nat) : Nat := if widthUnits (s.bankWidth b) = 0 then 0 else 8192 / widthUnits (s.bankWidth b)

/-- R157: positions below `k` of a bank move down by one. -/
def shiftDown (bank k : Nat) (m : Map ArrEntry) : Map ArrEntry :=
  m.map fun e => if e.1 / 8192 = bank ∧ e.1 % 8192 < k then (e.1 + 1, e.2) else e

/-- R157: the entry at a position is gone, and its node's in_array clear. -/
def dropEntry (key : Nat) (s : Dev) : Dev :=
  match mget s.pfx.arr key with
  | none => s
  | some e =>
    modNode e.slot (fun n => { n with inArray := false })
      { s with pfx.arr := mdel s.pfx.arr key, pfx.shadow := mdel s.pfx.shadow key }

/-- R157, R159: the block move of a bank's first insert is complete: the new entry is valid at position 0. -/
def blockMove (bank : Nat) (s : Dev) : Dev :=
  match s.pfx.inserts.find? fun i => decide (i.bank = bank) with
  | none => s
  | some ins =>
    let rest := s.pfx.inserts.erase ins
    let next := rest.find? fun i => decide (i.bank = bank)
    let start (i : ArrInsert) : ArrInsert := if next = some i then { i with moving := true } else i
    let s := { s with pfx.inserts := rest.map start }
    match mget s.pfx.dir ins.entry.slot with
    | none => s
    | some n =>
      if n.state ≠ .live ∨ !(entryUnits (s.scope n.scope) ins.entry.slot n == ins.entry.units) then s
      else
        let size := bankEntries s bank
        let base := 8192 * bank
        let k := (leastFrom (fun p => !mhas s.pfx.arr (base + p)) 0 size).getD size
        let s := if k = size then dropEntry (base + size - 1) s else s
        let k := min k (size - 1)
        let put (m : Map ArrEntry) : Map ArrEntry := mset (shiftDown bank k m) base ins.entry
        modNode ins.entry.slot (fun n => { n with inArray := true })
          { s with pfx.arr := put s.pfx.arr, pfx.shadow := put s.pfx.shadow }

/-- R160: position and unit of a row of a bank. -/
def rowPosition (s : Dev) (bank row : Nat) : Nat × Nat :=
  let w := max 1 (widthUnits (s.bankWidth bank))
  (8192 * bank + row / w, row % w)

/-- R160, R166: a soft error in one row of the array. -/
def upsetRow (u : ArrayUpset) (s : Dev) : Dev :=
  let (key, unit) := rowPosition s u.bank u.row
  { s with pfx.arr := mmod s.pfx.arr key fun e => { e with units := e.units.set unit (e.units.getD unit 0 ^^^ u.flips) } }

/-- R159: an entry's units are rewritten from the shadow. -/
def repairEntry (key : Nat) (s : Dev) : Dev :=
  match mget s.pfx.shadow key with
  | some e => { s with pfx.arr := mset s.pfx.arr key e }
  | none => s

/-- R160: the sweep reads its next row and repairs it where it differs from the shadow. -/
def sweepRow (flips : BitVec 64) (s : Dev) : Dev :=
  let bank := s.pfx.sweep / 8192
  let row := s.pfx.sweep % 8192
  let s := upsetRow { bank, row, flips } s
  let (key, unit) := rowPosition s bank row
  let s := match mget s.pfx.shadow key with
    | some e => { s with pfx.arr := mmod s.pfx.arr key fun a => { a with units := a.units.set unit (e.units.getD unit 0) } }
    | none => s
  { s with pfx.sweep := (s.pfx.sweep + 1) % 262144 }

/-! ## Verification (R166, R167) -/

/-- R431: every page of the node is held on this side. -/
def nodeHeld (s : Dev) (n : Node) : Bool :=
  decide (n.pages.length = n.layers) && n.pages.all fun p => mhas s.kvs.pages p

/-- R166 steps 2 to 5, for the node read, but for the pages held. -/
def nodeFits (s : Dev) (n : Node) (k parent : BitVec 96) (toks : List (BitVec 32)) (depth scope model : Nat) (f : Format) :
    Bool :=
  decide (n.state = .live) && decide (n.key = k) && decide (n.scope = scope) && decide (n.model = model)
    && decide (n.format = f) && decide (n.saltEpoch = (s.scope scope).saltEpoch) && decide (n.parent = parent)
    && decide (n.depth = depth) && decide (n.tokens = toks)

/-- R166, R431: the node is that of the block, and this side holds its pages. -/
def nodeMatches (s : Dev) (n : Node) (k parent : BitVec 96) (toks : List (BitVec 32)) (depth scope model : Nat) (f : Format) :
    Bool := nodeHeld s n && nodeFits s n k parent toks depth scope model f

/-- R166: the verified node of a block, whether the array found it, and the state with the counts. -/
def verifyBlock (key : List (BitVec 64)) (k parent : BitVec 96) (toks : List (BitVec 32)) (depth scope model : Nat) (f : Format)
    (hit : Option Nat) (s : Dev) : Option (Nat × Bool) × Dev :=
  let false? := match hit with
    | some h => (match mget s.pfx.shadow h with
      | some e => !decide (e.units.take key.length = key)
      | none => true)
    | none => false
  let s := match hit with
    | some h =>
      if false? then raiseDev St.pfxFalseHit (count Reg.pfxFalseHitCount (repairEntry h { s with pfx.falseHit := true }))
      else s
    | none => s
  let hit := if false? then none else hit
  let anchored := match hit with
    | some h => (match mget s.pfx.arr h with
      | some e => (match e.units with
        | [_, _, u, _] => some (4 * (u.toNat / 2 ^ 18 % 4194304) + u.toNat / 2 ^ 40 % 4)
        | _ => none)
      | none => none)
    | none => none
  let found := match anchored with
    | some slot => (mget s.pfx.dir slot).map fun n => (slot, n)
    | none => dirProbe s k
  match found with
  | some (slot, n) =>
    if nodeMatches s n k parent toks depth scope model f then (some (slot, hit.isSome), s) else (none, s)
  | none => (none, s)

/-! ## Removal (R143, R165) -/

/-- R142: a node with no reference. -/
def Node.unreferenced (n : Node) : Bool := decide (n.refCount = 0) && decide (n.children = 0) && decide (n.state = .live)

/-- R143: the array entry of a node is invalidated. -/
def invalidateEntry (slot : Nat) (s : Dev) : Dev :=
  forL ((s.pfx.arr.filter fun e => decide (e.2.slot = slot)).map (·.1)) dropEntry
    { s with pfx.inserts := s.pfx.inserts.filter fun i => !decide (i.entry.slot = slot) }

/-- R143: a node that is being removed is free: the tree references drop, and the parent has one child less. -/
def freeNode (slot : Nat) (s : Dev) : Dev :=
  match mget s.pfx.dir slot with
  | none => s
  | some n =>
    let s := forL n.pages dropRef { s with pfx.dir := mdel s.pfx.dir slot }
    match dirProbe s n.parent with
    | some (p, _) => if n.depth = 1 then s else modNode p (fun m => { m with children := m.children - 1 }) s
    | none => s

/-- R143, R144: a node leaves LIVE, and is freed once both sides have committed the removal. A parent left unreferenced with
retention 0 follows; `fuel` bounds the chain. -/
def removeNode : Nat → Nat → Dev → Dev
  | 0, _, s => s
  | fuel + 1, slot, s =>
    match mget s.pfx.dir slot with
    | none => s
    | some n =>
      let s := invalidateEntry slot (modNode slot (fun n => { n with state := .removing, inArray := false }) s)
      let s := pairChange .device (.nodeRemove slot) none (fun s => { status := St.ok, fields := [], state := freeNode slot s }) s
      match dirProbe s n.parent with
      | some (p, m) =>
        if n.depth ≠ 1 ∧ m.unreferenced ∧ (s.scope m.scope).retainK = 0 then removeNode fuel p s else s
      | none => s

/-- R143: a node whose last reference dropped goes at once where its scope keeps nothing. -/
def settleNode (slot : Nat) (s : Dev) : Dev :=
  match mget s.pfx.dir slot with
  | some n => if n.unreferenced && decide ((s.scope n.scope).retainK = 0) then removeNode (n.depth + 1) slot s else s
  | none => s

/-- R163, R165: the unreferenced node with the oldest last_hit. -/
def oldestUnreferenced (s : Dev) : Option Nat :=
  (firstBy (fun a b => serialLt a.2.lastHit b.2.lastHit) (s.pfx.dir.filter fun e => e.2.unreferenced)).map (·.1)

/-- R165: removal in order of oldest last_hit until occupancy is at lwm_pct. -/
def relieve : Nat → Dev → Dev
  | 0, s => s
  | n + 1, s =>
    if s.pfx.dir.length * 100 ≤ s.lwmPct * 16777216 then s
    else
      match oldestUnreferenced s with
      | some slot => relieve n (removeNode 1 slot s)
      | none => s

/-- R165: directory pressure. -/
def pressure (s : Dev) : Dev :=
  if s.hwmPct * 16777216 ≤ s.pfx.dir.length * 100 then relieve s.pfx.dir.length s else s

/-! ## Attachment (R142, R170) -/

/-- R142: the slot of the node at which a sequence is attached. -/
def attachedAt (s : Dev) (q : Seq) : Option Nat :=
  if q.sharedTokens = 0 then none
  else
    match mget q.log (q.sharedTokens / 16 - 1) with
    | some r => (dirProbe s r.key).map (·.1)
    | none => none

/-- R142: a node loses one attached sequence. -/
def detach (slot : Nat) (s : Dev) : Dev := settleNode slot (modNode slot (fun n => { n with refCount := n.refCount - 1 }) s)

/-- R142: a node gains one attached sequence. -/
def attachTo (slot : Nat) (s : Dev) : Dev :=
  modNode slot (fun n => { n with refCount := n.refCount + 1, lastHit := s.tt.frame }) s

/-- R140: the chain of a node from the root down, by parent keys. -/
def chainOf (s : Dev) : Nat → BitVec 96 → List (Nat × Node)
  | 0, _ => []
  | n + 1, k =>
    match dirProbe s k with
    | none => []
    | some (slot, m) => if m.depth = n + 1 then chainOf s n m.parent ++ [(slot, m)] else []

/-- R170: one node of the chain mapped into the sequence's tables. -/
def mapNode (i : Nat) (n : Node) (s : Dev) : Dev :=
  let blk := n.depth - 1
  let s := forL n.pages addRef s
  let entries : List (Nat × L3) := (List.range n.pages.length).map fun l =>
    (l3Key l blk, { page := n.pages.getD l 0, shared := true })
  modSeq i (fun q => { q with
    l3 := entries.foldl (fun m e => mset m e.1 e.2) q.l3
    log := mset q.log blk { key := n.key, tokens := n.tokens } }) s

/-- R170, R607: an attach: every page of the chain mapped, the references taken, the lengths set. DEDUCED: log entry 56. -/
def attachChain (i slot : Nat) (s : Dev) : Dev :=
  match mget s.pfx.dir slot with
  | none => s
  | some n =>
    let s := forL (chainOf s n.depth n.key) (fun x s => mapNode i x.2 s) s
    let s := attachTo slot s
    modSeq i (fun q => { q with
      openTable := List.replicate q.layers { pageIndex := n.depth, fill := 0, cow := false, slot := none }
      length := 16 * n.depth
      maxLen := 16 * n.depth
      sharedTokens := 16 * n.depth
      tailKey := n.key
      lastFrame := s.tt.frame }) s

/-- R607: the log pieces that the sequence's complete blocks need, allocated from the table pool. DEDUCED: log entry 56. -/
def growLog (i : Nat) (s : Dev) : Dev :=
  match mget s.kvs.seqs i with
  | none => s
  | some q =>
    forL (((q.log.map fun e => e.1 / 512).eraseDups).filter fun p => !mhas q.logPieces p) (fun p s =>
      let (a, s) := t1Take 258 40960 s
      modSeq i (fun q => { q with logPieces := mset q.logPieces p a }) s) s

/-- R170: the attach as the pair commit applies it. -/
def applyAttach (handle : BitVec 32) (slot : Nat) (fields : Dev → List Nat) (s : Dev) : Applied :=
  match findSeq s handle, mget s.pfx.dir slot with
  | some (i, q), some n =>
    if q.maxLen ≠ 0 then { status := St.pfxAttachState, fields := [], state := s }
    else if n.state ≠ .live then { status := St.pfxStale, fields := [], state := s }
    else
      let s := growLog i (attachChain i slot s)
      { status := St.ok, fields := fields s, state := s }
  | none, _ => { status := St.kvsBadHandle, fields := [], state := s }
  | _, none => { status := St.pfxStale, fields := [], state := s }

/-! ## Offers (R172 to R175) -/

/-- R172: an offer is declined. -/
def decline (s : Dev) : Dev := count Reg.pfxDeclineCount s

/-- The pages of a block of a sequence, layer by layer; fewer than the layers where some are not held. -/
def blockPages (q : Seq) (blk : Nat) : List Nat := (List.range q.layers).filterMap fun l => (mget q.l3 (l3Key l blk)).map (·.page)

/-- R429: a page that a node takes over is due the copies of the node's class. -/
def reclass (p : Nat) (m : MirrorClass) (owned : Bool) (s : Dev) : Dev :=
  match mget s.kvs.pages p with
  | none => s
  | some pg =>
    let others := s.par.copies.filter fun c => !decide (c.1 = .page p)
    let due := owned && !decide (m = .m0) && !pg.mirrored && s.hasPartner
    let copies := if !due then others
      else if s.par.copies.any (fun c => decide (c.1 = .page p)) then s.par.copies
      else s.par.copies ++ [(.page p, s.tt.frame)]
    modPage p (fun pg => { pg with mirror := m }) { s with par.copies := copies }

/-- R174: a page becomes the node's: entry `l` of its page list. -/
def shareEntry (n : Node) (l p : Nat) (s : Dev) : Dev :=
  modPage p (fun pg => { pg with owner := none, nodeGen := n.gen, plEntry := n.plist + 16 + 16 * l, refs := 1 }) s

/-- The page of layer `l` of a node that this side holds. -/
def nodePageAt (s : Dev) (n : Node) (l : Nat) : Option Nat :=
  (s.kvs.pages.find? fun e => e.2.owner.isNone && decide (e.2.nodeGen = n.gen) && decide (e.2.layer = l)
    && decide (e.2.state = .sealed)).map (·.1)

/-- R142, R607: the live sequences that cover a node: their log has its key in their shared prefix. -/
def coverers (s : Dev) (n : Node) : List Nat :=
  (s.kvs.seqs.filter fun e => !decide (e.2.state = .closing) && decide (16 * n.depth ≤ e.2.sharedTokens)
    && (match mget e.2.log (n.depth - 1) with | some r => decide (r.key = n.key) | none => false)).map (·.1)

/-- R422, R431: a node whose pages have all come to be held on this side: its page list names them, and so do the tables of the
sequences that cover it. -/
def completeNode (slot : Nat) (s : Dev) : Dev :=
  match mget s.pfx.dir slot with
  | none => s
  | some n =>
    let pages := (List.range n.layers).filterMap (nodePageAt s n)
    if n.pages ≠ [] ∨ pages.length ≠ n.layers then s
    else
      let entries : List (Nat × L3) := (List.range n.layers).map fun l =>
        (l3Key l (n.depth - 1), { page := pages.getD l 0, shared := true })
      let name (i : Nat) (s : Dev) : Dev :=
        forL pages addRef (modSeq i (fun q => { q with l3 := entries.foldl (fun m e => mset m e.1 e.2) q.l3 }) s)
      forL (coverers s n) name (modNode slot (fun n => { n with pages }) s)

/-- R431: a sequence's own pages of a block become the pages of the node of that block, which this side did not hold. -/
def claimPages (i blk slot : Nat) (s : Dev) : Dev :=
  match mget s.kvs.seqs i, mget s.pfx.dir slot with
  | some q, some n =>
    let own := blockPages q blk
    let sealed' := own.all fun p => (mget s.kvs.pages p).any fun pg => decide (pg.state = .sealed) && pg.owner.isSome
    if n.pages ≠ [] ∨ own.length ≠ n.layers ∨ !sealed' then s
    else
      let s := forN n.layers (fun l s => reclass (own.getD l 0) n.mirror (ownsSeq s i) (shareEntry n l (own.getD l 0) s)) s
      completeNode slot s
  | _, _ => s

/-- R173: the sequence adopts a node: its entries name the node's pages, its own pages are dropped, its attachment moves. Where
this side does not hold the node's pages, its own pages become them. -/
def adopt (i blk slot : Nat) (s : Dev) : Dev :=
  match mget s.kvs.seqs i, mget s.pfx.dir slot with
  | some q, some n =>
    let s := if n.pages = [] then
        claimPages i blk slot (modSeq i (fun q => { q with sharedTokens := q.sharedTokens + 16 }) s)
      else
        let own := blockPages q blk
        let s := forL n.pages addRef s
        let entries : List (Nat × L3) := (List.range n.pages.length).map fun l =>
          (l3Key l blk, { page := n.pages.getD l 0, shared := true })
        let s := modSeq i (fun q => { q with
          l3 := entries.foldl (fun m e => mset m e.1 e.2) q.l3
          sharedTokens := q.sharedTokens + 16 }) s
        forL own dropRef s
    let s := attachTo slot s
    match attachedAt s q with
    | some old => detach old s
    | none => s
  | _, _ => s

/-- R143 PENDING to LIVE: the parent's children count, the offering sequence's attachment, the array insert. -/
def makeLive (i slot : Nat) (s : Dev) : Dev :=
  match mget s.pfx.dir slot, mget s.kvs.seqs i with
  | some n, some q =>
    if n.state ≠ .pending then s
    else
      let s := modNode slot (fun n => { n with state := .live, refCount := n.refCount + 1, lastHit := s.tt.frame }) s
      let s := match dirProbe s n.parent with
        | some (p, _) => if n.depth = 1 then s else modNode p (fun m => { m with children := m.children + 1 }) s
        | none => s
      let s := modSeq i (fun q => { q with sharedTokens := 16 * n.depth }) s
      let s := match attachedAt s q with
        | some old => detach old s
        | none => s
      queueInsert slot s
  | _, _ => s

/-- R140: bytes of a page list, in 512-byte granules. -/
def plistBytes (layers : Nat) : Nat := 512 * ceilDiv (16 + 16 * layers) 512

/-- R172: bytes of the page-list pool in use. -/
def plistUsed (s : Dev) : Nat := sumBy (fun e => if e.2.2 = 260 then e.2.1 else 0) s.tir.t1Homes

/-- R174: the node of a block: its record PENDING, its page list, the sequence's pages as the node's. -/
def createNode (i blk : Nat) (k parent : BitVec 96) (toks : List (BitVec 32)) (s : Dev) : Option Dev :=
  match mget s.kvs.seqs i with
  | none => none
  | some q =>
    let sc := s.scope q.scope
    if s.tir.plistPool < plistUsed s + plistBytes q.layers then none
    else
      let pages := blockPages q blk
      let gen := s.pfx.nodeGen + 1
      let held := decide (pages.length = q.layers)
      let (pl, s) := t1Take 260 (plistBytes q.layers) s
      let n : Node := { key := k, parent, tokens := toks, depth := blk + 1, refCount := 0, gen, lastHit := s.tt.frame, plist := pl,
                        scope := q.scope, model := q.model, format := q.format, mirror := sc.mirror, inArray := false,
                        state := .pending, saltEpoch := sc.saltEpoch, layers := q.layers, children := 0,
                        pages := if held then pages else [] }
      match dirInsert n { s with pfx.nodeGen := gen } with
      | none => none
      | some s =>
        let s := { s with pfx.plists := mset s.pfx.plists pl (gen, (List.range q.layers).map fun l => pl + 16 + 16 * l) }
        if held then
          let s := forN q.layers (fun l s => reclass (pages.getD l 0) sc.mirror (ownsSeq s i)
            (addRef (pages.getD l 0) (shareEntry n l (pages.getD l 0) s))) s
          let share (e : L3) : L3 := if pages.contains e.page then { e with shared := true } else e
          some (modSeq i (fun q => { q with l3 := mmap q.l3 share }) s)
        else some s

/-- R172 to R174: what an offer comes to. -/
inductive OfferFate
  | decline
  | adopt (slot : Nat)
  | create
  deriving DecidableEq, Repr

/-- R172, R173: the fate of the offer of block `blk` of sequence `i`; `held` asks that this side hold a node's pages (R431). -/
def offerFate (held : Bool) (s : Dev) (q : Seq) (blk : Nat) (k parent : BitVec 96) (toks : List (BitVec 32)) : OfferFate :=
  let sc := s.scope q.scope
  let stale := match dirProbe s parent with
    | some (_, n) => !decide (n.saltEpoch = sc.saltEpoch)
    | none => true
  if !sc.share || decide (k = 0) || !decide (q.sharedTokens = 16 * blk)
      || (decide (sc.maxDepth ≠ 0) && decide (sc.maxDepth < blk + 1)) || (decide (0 < blk) && stale) then .decline
  else
    match dirProbe s k with
    | none => .create
    | some (slot, n) =>
      if n.state = .removing then .create
      else if nodeFits s n k parent toks (blk + 1) q.scope q.model q.format && sc.adopt && (!held || nodeHeld s n) then .adopt slot
      else .decline

/-- R163, R172: a node cannot be created: the reason is reported and the offer declined. -/
def noRoom (s : Dev) (layers : Nat) : Dev :=
  if s.tir.plistPool < plistUsed s + plistBytes layers then decline (raiseDev St.pfxPlistFull s)
  else
    let s := decline (raiseDev St.pfxDirFull { s with pfx.dirFull := true })
    match oldestUnreferenced s with
    | some slot => removeNode 1 slot s
    | none => s

/-- R172 to R175, R423: the offer of a complete block as a commit applies it: adopted, or created PENDING. -/
def applyOffer (i blk : Nat) (toks : List (BitVec 32)) (s : Dev) : Applied :=
  match mget s.kvs.seqs i with
  | none => { status := St.kvsBadHandle, fields := [], state := s }
  | some q =>
    let parent := match blk with
      | 0 => 0
      | b + 1 => (match mget q.log b with | some r => r.key | none => 0)
    let k := chainKey parent toks q.model (s.scope q.scope).salt
    match offerFate false s q blk k parent toks with
    | .decline => { status := St.ok, fields := [], state := decline s }
    | .adopt slot => { status := St.ok, fields := [], state := adopt i blk slot s }
    | .create =>
      match createNode i blk k parent toks s with
      | some s => { status := St.ok, fields := [], state := pressure s }
      | none => { status := St.ok, fields := [], state := noRoom s q.layers }

/-- R144: the node that the sequence's offer of a block left PENDING becomes LIVE. -/
def liveAfterOffer (i blk : Nat) (s : Dev) : Dev :=
  match mget s.kvs.seqs i with
  | none => s
  | some q =>
    match mget q.log blk with
    | none => s
    | some r =>
      match dirProbe s r.key with
      | some (slot, n) => if n.state = .pending ∧ n.depth = blk + 1 then makeLive i slot s else s
      | none => s

/-- R118 step 3, R144: a complete block is offered. Declined on this side it goes no further; otherwise it is one pair commit,
and a node created becomes LIVE when both sides have it. -/
def offerBlock (i blk : Nat) (toks : List (BitVec 32)) (s : Dev) : Dev :=
  match mget s.kvs.seqs i with
  | none => s
  | some q =>
    let parent := match blk with
      | 0 => 0
      | b + 1 => (match mget q.log b with | some r => r.key | none => 0)
    let k := chainKey parent toks q.model (s.scope q.scope).salt
    match offerFate true s q blk k parent toks with
    | .decline => decline s
    | _ =>
      let s := pairChange .device (.nodeCreate q.handle blk toks) none (applyOffer i blk toks) s
      if s.mirrored || decide (s.par.state = .suspect) then s else liveAfterOffer i blk s

end Sys2Proof.Machine
end

