-- ==== Sys2Proof/Machine/Append.lean ====
section
/-! DEFINITION. What the commands do to one sequence's pages: appending and sealing (R110 to R118), truncation (R123 to R126),
opening and closing (R85, R92, R129). -/

namespace Sys2Proof.Machine

/-! ## Appending (R111 to R118) -/

/-- R91: length of a layer. -/
def layerLen (q : Seq) (l : Nat) : Nat :=
  match q.openTable[l]? with
  | some e => 16 * e.pageIndex + e.fill
  | none => 0

/-- R91: the least layer length. -/
def leastLen (q : Seq) : Nat :=
  match q.openTable with
  | [] => 0
  | e :: rest => rest.foldl (fun m x => min m (16 * x.pageIndex + x.fill)) (16 * e.pageIndex + e.fill)

/-- R110: length of a message body of `count` tokens. -/
def appendBytes (q : Seq) (count : Nat) (f : Format) : Nat :=
  16 + 16 * ceilDiv (4 * count) 16 + 2 * count * q.kvHeads * q.headDim * elemSize f

/-- R111 step 2: the header's fields, and the length that it implies. -/
def appendShape (q : Seq) (m : AppendMsg) : Bool :=
  decide (1 ≤ m.count) && decide (m.count ≤ 16) && decide (m.layer < q.layers)
    && (match formatOf m.format with
      | none => false
      | some f =>
        let w := q.kvHeads * q.headDim * elemSize f
        decide (m.bodyLen = appendBytes q m.count f) && decide (m.tokens.length = m.count) && decide (m.kv.length = m.count)
          && m.kv.all fun t => decide (t.k.length = w) && decide (t.v.length = w))

/-- R111 step 7: the token IDs agree with those recorded. -/
def tokensAgree (q : Seq) (pos : Nat) : List (BitVec 32) → Bool
  | [] => true
  | t :: rest => (decide (q.maxLen ≤ pos) || decide (mget q.ring (pos % 4096) = some t)) && tokensAgree q (pos + 1) rest

/-- R111 step 8: pages that a message opens. -/
def pagesOpened (e : OpenEntry) (count : Nat) : Nat :=
  if e.slot.isNone then ceilDiv (e.fill + count) 16 else ceilDiv (e.fill + count) 16 - 1

/-- R111 steps 2 to 8, for a SEATED sequence. -/
def appendCheck (s : Dev) (q : Seq) (m : AppendMsg) : Status :=
  if !appendShape q m then St.kvsRange
  else if m.format ≠ formatCode q.format then St.kvsFormatMismatch
  else if m.position ≠ layerLen q m.layer then St.kvsPosition
  else if 1048576 < m.position + m.count then St.kvsLengthLimit
  else if q.length / 16 * 16 + 4096 < m.position + m.count then St.kvsSkew
  else if !tokensAgree q m.position m.tokens then St.kvsTokenMismatch
  else
    match q.openTable[m.layer]? with
    | none => St.kvsRange
    | some e => if stagingFits s (pagesOpened e m.count * q.page4k) then St.ok else St.kvsBattFull

/-- The state with the open-page entry of a layer changed by `f`. -/
def modOpen (i l : Nat) (f : OpenEntry → OpenEntry) (s : Dev) : Dev :=
  modSeq i (fun q => match q.openTable[l]? with
    | some e => { q with openTable := q.openTable.set l (f e) }
    | none => q) s

/-- The open-page entry of a layer. -/
def openEntry (s : Dev) (i l : Nat) : OpenEntry :=
  match mget s.kvs.seqs i with
  | some q => (q.openTable[l]?).getD { pageIndex := 0, fill := 0, cow := false, slot := none }
  | none => { pageIndex := 0, fill := 0, cow := false, slot := none }

/-- The page that a level-3 entry names. -/
def l3Page (s : Dev) (i l idx : Nat) : Option (Nat × Page) :=
  match mget s.kvs.seqs i with
  | none => none
  | some q =>
    match mget q.l3 (l3Key l idx) with
    | none => none
    | some e => (mget s.kvs.pages e.page).map fun pg => (e.page, pg)

/-- R115, R124: the layer's current page is opened in a staging slot; a page under cow gives its first tokens and loses a
reference. -/
def openPage (i l : Nat) (s : Dev) : Dev :=
  match mget s.kvs.seqs i with
  | none => s
  | some q =>
    let e := openEntry s i l
    let (slot, s) := stagingTake q.page4k s
    let kept := if e.cow then (match l3Page s i l e.pageIndex with | some (_, pg) => pg.toks.take e.fill | none => []) else []
    let s := if e.cow then (match l3Page s i l e.pageIndex with | some (p, _) => dropRef p s | none => s) else s
    let fresh : Page :=
      { owner := some i, layer := l, index := e.pageIndex, nodeGen := 0, plEntry := 0, state := .opened,
        home := .staging slot, kvHeads := q.kvHeads, headDim := q.headDim, format := q.format, toks := kept, refs := 1,
        retireFrame := 0, tenant := q.tenant, model := q.model, mirror := q.mirror, mirrored := false }
    let (p, s) := newPage fresh s
    let s := modSeq i (fun q => { q with l3 := mset q.l3 (l3Key l e.pageIndex) { page := p, shared := false } }) s
    modOpen i l (fun e => { e with slot := some slot, cow := false }) s

/-- R429, R439: the mirror copy that a sealed page is due. -/
def dueCopy (p : Nat) (m : MirrorClass) (owned : Bool) (s : Dev) : Dev :=
  if !owned then s
  else
    match m with
    | .m0 => s
    | .m1 =>
      if s.hasPartner then { s with par.copies := s.par.copies ++ [(.page p, s.tt.frame)] } else s
    | .m2 =>
      if s.par.state = .paused then { s with par.copies := s.par.copies ++ [(.page p, s.tt.frame)] }
      else modPage p (fun pg => { pg with mirrored := s.mirrored || decide (s.par.state = .suspect) }) s

/-- R113, R118: complete blocks of the sequence, which the token log lists. -/
def completeBlocks (q : Seq) : Nat := q.log.length

/-- R118: the token IDs of a block in the token ring. -/
def ringTokens (q : Seq) (blk : Nat) : List (BitVec 32) := (List.range 16).map fun j => mgetD q.ring ((16 * blk + j) % 4096) 0

/-- R118: the first incomplete block is complete once every layer has sealed its page of it: chain key, log record, offer,
tail_key, ring. `skip` names a block whose offer is declined unseen (R164). -/
def completeBlock (i : Nat) (skip : Option Nat) (s : Dev) : Dev :=
  match mget s.kvs.seqs i with
  | none => s
  | some q =>
    let b := completeBlocks q
    if mgetD q.blockCount (b % 256) 0 < q.layers ∨ q.layers = 0 then s
    else
      let toks := ringTokens q b
      let key := chainKey q.tailKey toks q.model (s.scope q.scope).salt
      let s := growLog i (modSeq i (fun q => { q with log := mset q.log b { key, tokens := toks } }) s)
      let s := if ownsSeq s i then (if skip = some b then decline s else offerBlock i b toks s) else s
      modSeq i (fun q => { q with
        tailKey := key
        ring := (List.range 16).foldl (fun r j => mdel r ((16 * b + j) % 4096)) q.ring
        blockCount := mdel q.blockCount (b % 256) }) s

/-- R116, R117: the layer's full page is sealed: its seal copy is queued, its block counted. -/
def sealPage (i l : Nat) (skip : Option Nat) (s : Dev) : Dev :=
  let e := openEntry s i l
  match l3Page s i l e.pageIndex with
  | none => s
  | some (p, pg) =>
    let s := modPage p (fun pg => { pg with state := .sealed }) s
    let s := queueMove (.page p) .sealCopy 0 s
    let s := dueCopy p pg.mirror (ownsSeq s i) s
    let s := modSeq i (fun q => { q with
      blockCount := mset q.blockCount (e.pageIndex % 256) (mgetD q.blockCount (e.pageIndex % 256) 0 + 1) }) s
    let s := modOpen i l (fun e => { e with pageIndex := e.pageIndex + 1, fill := 0, slot := none }) s
    completeBlock i skip s

/-- R110: one token of an accepted APPEND. -/
def appendToken (i l pos oldMax : Nat) (tok : BitVec 32) (kv : TokenKv) (skip : Option Nat) (s : Dev) : Dev :=
  let s := if oldMax ≤ pos then modSeq i (fun q => { q with ring := mset q.ring (pos % 4096) tok }) s else s
  let s := if (openEntry s i l).slot.isNone then openPage i l s else s
  let e := openEntry s i l
  let s := match l3Page s i l e.pageIndex with
    | some (p, _) => modPage p (fun pg => { pg with toks := pg.toks.take e.fill ++ [kv] }) s
    | none => s
  let s := modOpen i l (fun e => { e with fill := e.fill + 1 }) s
  if e.fill + 1 = 16 then sealPage i l skip s else s

/-- R112: every token of an accepted APPEND in order, from position `pos`. -/
def appendTokens (i l oldMax : Nat) (skip : Option Nat) : Nat → List (BitVec 32) → List TokenKv → Dev → Dev
  | pos, t :: ts, kv :: kvs, s => appendTokens i l oldMax skip (pos + 1) ts kvs (appendToken i l pos oldMax t kv skip s)
  | _, _, _, s => s

/-- R112: an accepted APPEND applied whole. -/
def applyAppend (m : AppendMsg) (skip : Option Nat) (s : Dev) : Applied :=
  match findSeq s m.handle with
  | none => { status := St.kvsBadHandle, fields := [], state := s }
  | some (i, q) =>
    let st := appendCheck s q m
    if st ≠ St.ok then
      { status := st, fields := [], state := if st = St.kvsBattFull then { s with kvs.battFull := true } else s }
    else
      let s := appendTokens i m.layer q.maxLen skip m.position m.tokens m.kv s
      let s := modSeq i (fun q => { q with
        maxLen := max q.maxLen (m.position + m.count)
        length := leastLen q
        lastFrame := s.tt.frame }) s
      { status := St.ok, fields := [m.position + m.count], state := s }

/-! ## Truncation (R123 to R126) -/

/-- R124: what a layer's page does when the sequence is cut to `len` tokens. -/
def cutLayer (i len l : Nat) (s : Dev) : Dev :=
  match mget s.kvs.seqs i with
  | none => s
  | some q =>
    let here := q.l3.filter fun e => decide (e.1 / 65536 = l)
    let gone := here.filter fun e => decide (len ≤ 16 * (e.1 % 65536))
    let s := forL gone (fun e s => dropRef e.2.page (modSeq i (fun q => { q with l3 := mdel q.l3 e.1 }) s)) s
    let idx := len / 16
    let r := len % 16
    if r = 0 then modOpen i l (fun _ => { pageIndex := idx, fill := 0, cow := false, slot := none }) s
    else
      match l3Page s i l idx with
      | none => modOpen i l (fun _ => { pageIndex := idx, fill := r, cow := false, slot := none }) s
      | some (p, pg) =>
        if pg.state = .opened then
          modOpen i l (fun e => { e with pageIndex := idx, fill := r, cow := false })
            (modPage p (fun pg => { pg with toks := pg.toks.take r }) s)
        else modOpen i l (fun _ => { pageIndex := idx, fill := r, cow := true, slot := none }) s

/-- R125: tail_key, token ring and token log of a sequence cut to `len` tokens. -/
def cutRecords (len : Nat) (q : Seq) : Seq :=
  let idx := len / 16
  let tail := match idx with
    | 0 => (0 : BitVec 96)
    | b + 1 => (match mget q.log b with | some r => r.key | none => 0)
  let toks := match mget q.log idx with
    | some r => r.tokens
    | none => ringTokens q idx
  { q with
    length := len
    maxLen := len
    tailKey := tail
    ring := (List.range (len % 16)).foldl (fun r j => mset r ((16 * idx + j) % 4096) (toks.getD j 0)) []
    blockCount := []
    log := mkeep q.log fun b _ => decide (b < idx) }

/-- R607: log pieces that hold no record are freed. -/
def shrinkLog (i : Nat) (s : Dev) : Dev :=
  match mget s.kvs.seqs i with
  | none => s
  | some q =>
    let gone := q.logPieces.filter fun e => !(q.log.any fun r => decide (r.1 / 512 = e.1))
    forL gone (fun e s => modSeq i (fun q => { q with logPieces := mdel q.logPieces e.1 }) (t1Free e.2 s)) s

/-- R125: a sequence cut below its shared prefix is attached at the node of the last shared block that stays. -/
def cutShared (i len : Nat) (q : Seq) (s : Dev) : Dev :=
  if q.sharedTokens ≤ len then s
  else
    let idx := len / 16
    let q' := { q with sharedTokens := 16 * idx }
    let s := modSeq i (fun x => { x with sharedTokens := 16 * idx }) s
    let s := match attachedAt s q' with
      | some slot => modNode slot (fun n => { n with refCount := n.refCount + 1 }) s
      | none => s
    match attachedAt s q with
    | some slot => detach slot s
    | none => s

/-- R123 to R126: truncation to `len` tokens, which is at most the length. DEDUCED: log entry 56. -/
def truncateSeq (i len : Nat) (s : Dev) : Dev :=
  match mget s.kvs.seqs i with
  | none => s
  | some q =>
    let s := forN q.layers (cutLayer i len) s
    let s := cutShared i len q s
    shrinkLog i (modSeq i (cutRecords len) s)

/-- R123: TRUNCATE as the commit applies it. -/
def applyTruncate (handle : BitVec 32) (len : Nat) (s : Dev) : Applied :=
  match findSeq s handle with
  | none => { status := St.kvsBadHandle, fields := [], state := s }
  | some (i, q) =>
    if q.length < len then { status := St.kvsRange, fields := seqFields s i, state := s }
    else
      let s := truncateSeq i len s
      { status := St.ok, fields := seqFields s i, state := s }

/-! ## Opening and closing -/

/-- R100: head_dim of a code. -/
def headDimOf (code : Nat) : Nat := [64, 80, 96, 128, 160, 192, 256].getD code 0

/-- R501: the mirror class of a tenant. -/
def tenantMirror (s : Dev) (tenant : Nat) : MirrorClass :=
  match mget s.cfg.tenants tenant with
  | some t => t.mirror
  | none => .m0

/-- R92, R129: OPEN as the commit applies it: the index at the head of the free list, the lowest free seat, empty tables.
DEDUCED: log entry 54. -/
def applyOpen (ownerB : Bool) (tenant model : Nat) (f : Format) (scope : Nat) (s : Dev) : Applied :=
  match mget s.att.models model with
  | none => { status := St.kvsModelAbsent, fields := [], state := s }
  | some m =>
    match seatFor s model none with
    | none => { status := St.kvsNoSeat, fields := [], state := s }
    | some k =>
      match takeIndex s with
      | none => { status := St.kvsNoHandle, fields := [], state := s }
      | some (i, s) =>
        let (pend, s) := t1Take 259 20480 s
        let (root, s) := t1Take 258 2048 s
        let handle := handleOf i (mgetD s.kvs.gens i 0)
        let mirror := tenantMirror s tenant
        let opened := List.replicate m.desc.layers ({ pageIndex := 0, fill := 0, cow := false, slot := none } : OpenEntry)
        let dim := headDimOf m.desc.headDimCode
        let q : Seq := {
          handle, tenant, model, scope, format := f,
          mirror, state := .seated, length := 0, sharedTokens := 0, maxLen := 0, seat := none,
          prevSeat := none, ptRoot := root, pendingBase := pend, ptExtent := none, ptSet := [], ptNext := [], pendingExtent := none,
          tailKey := 0, lastFrame := s.tt.frame, layers := m.desc.layers, kvHeads := m.desc.kvHeads,
          headDim := dim,
          openTable := opened,
          ring := [], blockCount := [], log := [], logPieces := [], l3 := [], held := [],
          evictedFor := none, cold := ColdCopy.zero }
        let s := { s with
          kvs.seqs := mset s.kvs.seqs i q
          par.ownerB := s.par.ownerB ++ (if ownerB then [i] else []) }
        let s := giveSeat i k s
        { status := St.ok, fields := seqFields s i, state := s }

/-- R92: every reference of the sequence is dropped. -/
def dropSeqPages (i : Nat) (q : Seq) (s : Dev) : Dev :=
  let s := forL q.l3 (fun e s => dropRef e.2.page s) s
  let s := match attachedAt s q with
    | some slot => detach slot s
    | none => s
  modSeq i (fun q => { q with l3 := [] }) s

/-- R92, R96: nothing waits for a seat for this handle any more; the victims' parks go on for nobody. -/
def dropWaits (handle : BitVec 32) (st : Status) (s : Dev) : Dev :=
  let gone := s.kvs.seatWaits.filter fun w => decide (handleOfCmd w.cmd = handle)
  let stays := s.kvs.seatWaits.filter fun w => !decide (handleOfCmd w.cmd = handle)
  let s := { s with kvs.seatWaits := stays }
  forL gone (fun w s =>
    let s := match w.victim with
      | some v => if stays.any (fun x => decide (x.victim = some v)) then s else modSeq v (fun q => { q with evictedFor := none }) s
      | none => s
    match w.cmd with
    | .seqAdminResume _ rq _ _ => refuse rq st s
    | _ => s) s

/-- R92: CLOSE of a sequence that is not RESUMING. -/
def closeSeq (i : Nat) (s : Dev) : Dev :=
  match mget s.kvs.seqs i with
  | none => s
  | some q =>
    let s := cancelSeqMoves i .abortReturn (cancelSeqMoves i .park s)
    let s := modSeq i (fun q => { q with state := .closing, held := [], evictedFor := none }) s
    let s := dropWaits q.handle St.kvsBadHandle (leaveBatches q.handle (dropSeqPages i q s))
    let s := forL q.held (fun h s => refuse (requesterOf h.cmd) St.kvsBadHandle s) s
    if q.evictedFor.isSome then unchoose i s else s

/-- R92, R131: CLOSE as the commit applies it; on a RESUMING sequence it is held. -/
def applyClose (handle : BitVec 32) (cmd : Instr) (s : Dev) : Applied :=
  match findSeq s handle with
  | none => { status := St.kvsBadHandle, fields := [], state := s }
  | some (i, q) =>
    if q.state = .resuming then
      let s := holdCmd i cmd s
      { status := St.ok, fields := seqFields s i, state := s }
    else
      let s := closeSeq i s
      { status := St.ok, fields := seqFields s i, state := s }

/-- R85, R92: every reference of a CLOSING sequence is dropped: its seat, pending area, tables and index are free. -/
def closeComplete (i : Nat) (s : Dev) : Dev :=
  match mget s.kvs.seqs i with
  | none => s
  | some q =>
    if q.state = .closing then
      let s := freeSeat i s
      let s := if q.pendingExtent.isNone then t1Free q.pendingBase s else s
      let s := if q.ptExtent.isNone then forL q.logPieces (fun e s => t1Free e.2 s) (t1Free q.ptRoot s) else s
      freeIndex i { s with
        kvs.seqs := mdel s.kvs.seqs i
        par.ownerB := s.par.ownerB.filter fun x => !decide (x = i) }
    else s

end Sys2Proof.Machine
end

