-- ==== Sys2Proof/Machine/Reset.lean ====
section
/-! DEFINITION. Pins, reset and the trip (R554, R586 to R597, R365). -/

namespace Sys2Proof.Machine

/-- R495, R507, R508: the bank that a firmware or derived write goes to (true is B): the older bank; in recovery a bank that is
not valid, else the one with the serially lower image_seq. DEDUCED: log entry 33. -/
def writeTarget (s : Dev) : Bool :=
  if s.cfg.phase = .recovery then
    if !s.cfg.validA then false
    else if !s.cfg.validB then true
    else
      match s.cfg.bankA, s.cfg.bankB with
      | some a, some b => serialLt b.seq a.seq
      | _, _ => false
  else !s.cfg.bootBank

/-- R532: the identity copy that an install goes to (true is copy 1): the one not in use; copy 0 where none is. DEDUCED: log entry 33. -/
def identityTarget (s : Dev) : Bool := if s.sec.identity = .none then false else !s.sec.inUse

/-- R495, R532: a write of the NVM that the reset cuts short leaves its bank or copy invalid. DEDUCED: log entry 33. -/
def cutWrite (s : Dev) : Dev :=
  match s.cfg.nvmJobs with
  | [] => s
  | .identity _ :: _ => if identityTarget s then { s with sec.copy1 := none } else { s with sec.copy0 := none }
  | _ :: _ => if writeTarget s then { s with cfg.bankB := none } else { s with cfg.bankA := none }

/-- R590: the whole device as reset leaves it: what stays is the NVM (both banks and both identity copies), the checkpoint
roots on the flash dies, the trip record, and the last epoch in the always-on island. DEDUCED: log entry 34. -/
def deviceReset (s : Dev) : Dev :=
  let s := cutWrite s
  { Dev.reset with
    out := s.out
    free := s.free
    cfg.bankA := s.cfg.bankA
    cfg.bankB := s.cfg.bankB
    sec.copy0 := s.sec.copy0
    sec.copy1 := s.sec.copy1
    fls.roots := s.fls.roots
    auv.aonEpoch := s.auv.aonEpoch
    pwr.rails := s.pwr.rails
    pwr.thermtrip := s.pwr.thermtrip
    pwr.tripSensor := s.pwr.tripSensor
    pwr.railFault := s.pwr.railFault }

/-- R588, R594: internal reset without `PORST_n`: a thermal trip stays until `PORST_n` goes low. DEDUCED: log entry 34. -/
def internalReset (s : Dev) : Dev :=
  let tripped := s.pwr.tripped
  let pin := s.pwr.thermtripPin
  let s := deviceReset s
  { s with pwr.tripped := tripped, pwr.thermtripPin := pin }

/-- R590: the device leaves internal reset, samples its straps and begins step 1. -/
def releaseReset (t : Time) (straps : Straps) (s : Dev) : Dev :=
  if s.cfg.internalReset ∧ !s.pwr.tripped then
    let s := arrive t s
    { s with
      pwr.straps := straps
      pwr.rails := 0xFFF
      cfg.internalReset := false
      cfg.phase := .boot
      cfg.step := 1
      cfg.stepAt := s.now }
  else s

/-- R554, R590: `PORST_n` low. DEDUCED: log entry 34. -/
def porstLow (heldNs : Nat) (s : Dev) : Dev :=
  if heldNs < 200 then count Reg.rasGlitchCount s else deviceReset s

/-- R554: a filtered glitch is counted. -/
def filterGlitch (heldNs : Nat) (s : Dev) : Dev := if heldNs < 200 then count Reg.rasGlitchCount s else s

/-- R588: `CLK25_IN` stops. -/
def clkStop (stoppedNs : Nat) (s : Dev) : Dev := if 1000 ≤ stoppedNs then internalReset s else s

/-- R594: a rail monitor trips. -/
def railTrip (rail outsideNs : Nat) (s : Dev) : Dev :=
  if 1000 ≤ outsideNs then
    let bit : BitVec 12 := BitVec.ofNat 12 (2 ^ rail)
    let s := internalReset s
    { s with pwr.rails := s.pwr.rails &&& ~~~bit, pwr.railFault := s.pwr.railFault ||| bit }
  else s

/-- R597, R587: the thermal trip. DEDUCED: log entry 34. -/
def thermalTrip (sensor celsius heldNs : Nat) (s : Dev) : Dev :=
  if 115 ≤ celsius ∧ 10000 ≤ heldNs ∧ !s.pwr.tripped then
    { s with
      pwr.tripped := true
      pwr.thermtripPin := true
      pwr.nandWpLow := true
      pwr.thermtrip := true
      pwr.tripSensor := sensor }
  else s

/-- R365, R597: `VDD_AON` is removed: nothing on the die survives. DEDUCED: log entry 34. -/
def aonRemoval (s : Dev) : Dev :=
  let s := deviceReset s
  { s with
    auv.aonEpoch := none
    pwr.rails := 0
    pwr.thermtrip := false
    pwr.tripSensor := 0
    pwr.railFault := 0 }

/-! ## Meanings -/

/-- RESET_RELEASE. -/
def execResetRelease (t : Time) (straps : Straps) (s : State) : Host.Outcome State Fault Refusal :=
  run (releaseReset t straps) s

/-- PORST_LOW. -/
def execPorstLow (_ : Time) (heldNs : Nat) (s : State) : Host.Outcome State Fault Refusal := run (porstLow heldNs) s

/-- RESET_GLITCH_FILTERED. -/
def execResetGlitchFiltered (_ : Time) (_ : ResetPin) (heldNs : Nat) (s : State) : Host.Outcome State Fault Refusal :=
  run (filterGlitch heldNs) s

/-- CLK25_STOP. -/
def execClk25Stop (_ : Time) (stoppedNs : Nat) (s : State) : Host.Outcome State Fault Refusal := run (clkStop stoppedNs) s

/-- RAIL_MONITOR_TRIP. -/
def execRailMonitorTrip (_ : Time) (rail outsideNs : Nat) (s : State) : Host.Outcome State Fault Refusal :=
  run (railTrip rail outsideNs) s

/-- THERMAL_TRIP. -/
def execThermalTrip (_ : Time) (sensor celsius heldNs : Nat) (s : State) : Host.Outcome State Fault Refusal :=
  run (thermalTrip sensor celsius heldNs) s

/-- VDD_AON_REMOVAL. -/
def execVddAonRemoval (_ : Time) (s : State) : Host.Outcome State Fault Refusal := run aonRemoval s

end Sys2Proof.Machine
end

