-- ==== Sys2Proof/Machine/Sequence.lean ====
section
/-! DEFINITION. APPEND and the SEQ_ADMIN commands (R110 to R132): their checks, what brings a parked sequence back for them, and
the pair commits that carry them. -/

namespace Sys2Proof.Machine

/-! ## Bringing a sequence towards SEATED (R92, R96, R98) -/

/-- What a command that needs a SEATED sequence finds: it may run, it must wait, or it is refused. -/
inductive Ready
  | now
  | later
  | no (st : Status)
  deriving DecidableEq, Repr

/-- R437: a state change of the sequence would need a pair commit that ISOLATED refuses. DEDUCED: log entry 55. -/
def Dev.isolated (s : Dev) : Bool := decide (s.par.state = .isolated)

/-- R92, R96, R98: activity names sequence `i`: a park is aborted, a parked sequence obtains a seat or waits for one. -/
def bringUp (i : Nat) (cmd : Instr) (s : Dev) : Ready × Dev :=
  match mget s.kvs.seqs i with
  | none => (.no St.kvsBadHandle, s)
  | some q =>
    match q.state with
    | .lost => (.no St.kvsLost, s)
    | .closing => (.no St.kvsBadHandle, s)
    | .resuming => (.later, s)
    | .seated => (if returning s i || !q.held.isEmpty then .later else .now, s)
    | .parking =>
      if s.isolated then (.no St.parIsolated, s)
      else
        let s := tell (.seqResume q.handle) (abortPark i s)
        (if returning s i then .later else .now, s)
    | .parked =>
      if s.isolated then (.no St.parIsolated, s)
      else if s.kvs.seatWaits.any fun w => decide (handleOfCmd w.cmd = q.handle) then (.later, s)
      else
        match seekSeat s q.model q.prevSeat with
        | .seat k => (.later, tell (.seqResume q.handle) (startResume i k s))
        | .evict v => (.later, waitForSeat cmd v s)
        | .nothing => (.no St.kvsNoSeat, s)

/-- R98: a command on a sequence that must be SEATED: it runs, is held, or is refused. -/
def whenSeated (i : Nat) (rq : Requester) (cmd : Instr) (f : Dev → Dev) (s : Dev) : Dev :=
  match bringUp i cmd s with
  | (.now, s) => f s
  | (.later, s) => holdCmd i cmd s
  | (.no st, s) => refuse rq st s

/-- The mirror class of a sequence. -/
def mirrorOf (s : Dev) (i : Nat) : MirrorClass :=
  match mget s.kvs.seqs i with
  | some q => q.mirror
  | none => .m0

/-! ## APPEND (R110 to R118, R427, R439) -/

/-- R112: an APPEND that concerns this side alone, with its reply. -/
def appendLocal (rq : Requester) (m : AppendMsg) (skip : Option Nat) (s : Dev) : Dev :=
  let r := applyAppend m skip s
  reply rq r.status r.fields r.state

/-- R427, R439: the APPEND of a SEATED sequence: an M2 sequence's is a pair commit, and in PAUSED its mirror is queued. -/
def appendSeated (rq : Requester) (m : AppendMsg) (skip : Option Nat) (i : Nat) (s : Dev) : Dev :=
  if mirrorOf s i = .m2 then
    if s.par.state = .paused then
      let r := applyAppend m skip s
      let s := r.state
      reply rq r.status r.fields
        (if r.status = St.ok then { s with par.appendCopies := s.par.appendCopies ++ [m] } else s)
    else pairChange rq (.append m) none (applyAppend m skip) s
  else appendLocal rq m skip s

/-- R111: APPEND. `skip` names a block whose offer the directory declines unseen (R164). DEDUCED: log entry 37. DEDUCED: log entry 55. -/
def appendCmd (t : Time) (rq : Requester) (m : AppendMsg) (skip : Option Nat) (s : Dev) : Dev :=
  let tenant := (tenantOf s rq).getD ((findSeq s m.handle).elim 0 fun x => x.2.tenant)
  let (st, i) := checkSeq s rq tenant m.handle true
  if st ≠ St.ok then refuse rq st s
  else if s.isolated then refuse rq St.parIsolated s
  else whenSeated i rq (.append t rq m) (appendSeated rq m skip i) s

/-! ## OPEN and CLOSE -/

/-- R92, R96, R127, R129: OPEN. -/
def openCmd (t : Time) (rq : Requester) (tenant model format scope : Nat) (s : Dev) : Dev :=
  match formatOf format with
  | none => refuse rq St.kvsRange s
  | some f =>
    let sc := namedScope s tenant scope
    if !tenantOk s rq tenant || !tenantValid s tenant then refuse rq St.kvsTenant s
    else if !modelLoaded s model then refuse rq St.kvsModelAbsent s
    else if !isMember s tenant sc then refuse rq St.kvsScope s
    else if s.isolated then refuse rq St.parIsolated s
    else if (takeIndex s).isNone then refuse rq St.kvsNoHandle s
    else
      match seekSeat s model none with
      | .nothing => refuse rq St.kvsNoSeat s
      | .evict v => waitForSeat (.seqAdminOpen t rq tenant model format scope) v s
      | .seat _ =>
        pairChange rq (.seqOpen (!s.sideA) tenant model f sc) none (applyOpen (!s.sideA) tenant model f sc) s

/-- R92, R131: CLOSE; on a RESUMING sequence it is held. -/
def closeCmd (t : Time) (rq : Requester) (tenant : Nat) (handle : BitVec 32) (s : Dev) : Dev :=
  let (st, i) := checkSeq s rq tenant handle true
  let cmd := Instr.seqAdminClose t rq tenant handle
  if st ≠ St.ok then refuse rq st s
  else if (mget s.kvs.seqs i).any (fun q => decide (q.state = .resuming)) then holdCmd i cmd s
  else pairChange rq (.seqClose handle) none (applyClose handle cmd) s

/-! ## PARK and RESUME -/

/-- R92, R93, R131: PARK as the commit applies it. DEDUCED: log entry 37. -/
def applyPark (handle : BitVec 32) (s : Dev) : Applied :=
  match findSeq s handle with
  | none => { status := St.kvsBadHandle, fields := [], state := s }
  | some (i, q) =>
    match q.state with
    | .seated => let s := startPark i none s; { status := St.ok, fields := seqFields s i, state := s }
    | .parked => { status := St.ok, fields := seqFields s i, state := s }
    | .lost => { status := St.kvsLost, fields := seqFields s i, state := s }
    | _ => { status := St.kvsState, fields := seqFields s i, state := s }

/-- R92: PARK. A PARKED sequence is left as it is. -/
def parkCmd (rq : Requester) (tenant : Nat) (handle : BitVec 32) (s : Dev) : Dev :=
  let (st, i) := checkSeq s rq tenant handle true
  if st ≠ St.ok then refuse rq st s
  else
    match mget s.kvs.seqs i with
    | none => refuse rq St.kvsBadHandle s
    | some q =>
      match q.state with
      | .seated => pairChange rq (.seqPark handle) none (applyPark handle) s
      | _ => let r := applyPark handle s; reply rq r.status r.fields r.state

/-- R92, R88: RESUME as the commit applies it: the seat is the one that R97 gives. -/
def applyResume (handle : BitVec 32) (s : Dev) : Applied :=
  match findSeq s handle with
  | none => { status := St.kvsBadHandle, fields := [], state := s }
  | some (i, q) =>
    let touch (s : Dev) : Dev := modSeq i (fun q => { q with lastFrame := s.tt.frame }) s
    match q.state with
    | .seated => let s := touch s; { status := St.ok, fields := seqFields s i, state := s }
    | .parking => let s := touch (abortPark i s); { status := St.ok, fields := seqFields s i, state := s }
    | .parked =>
      match seatFor s q.model q.prevSeat with
      | some k => let s := touch (startResume i k s); { status := St.ok, fields := seqFields s i, state := s }
      | none => { status := St.kvsNoSeat, fields := seqFields s i, state := s }
    | .lost => { status := St.kvsLost, fields := seqFields s i, state := s }
    | _ => { status := St.kvsState, fields := seqFields s i, state := s }

/-- R92, R93, R96: RESUME. A PARKED sequence without a free seat waits for an eviction. -/
def resumeCmd (t : Time) (rq : Requester) (tenant : Nat) (handle : BitVec 32) (s : Dev) : Dev :=
  let (st, i) := checkSeq s rq tenant handle true
  if st ≠ St.ok then refuse rq st s
  else
    match mget s.kvs.seqs i with
    | none => refuse rq St.kvsBadHandle s
    | some q =>
      match q.state with
      | .parking => pairChange rq (.seqResume handle) none (applyResume handle) s
      | .parked =>
        if s.isolated then refuse rq St.parIsolated s
        else
          match seekSeat s q.model q.prevSeat with
          | .seat _ => pairChange rq (.seqResume handle) none (applyResume handle) s
          | .evict v => waitForSeat (.seqAdminResume t rq tenant handle) v s
          | .nothing => refuse rq St.kvsNoSeat s
      | _ => let r := applyResume handle s; reply rq r.status r.fields r.state

/-! ## TRUNCATE and QUERY -/

/-- R123: TRUNCATE. -/
def truncateCmd (t : Time) (rq : Requester) (tenant : Nat) (handle : BitVec 32) (len : Nat) (s : Dev) : Dev :=
  let (st, i) := checkSeq s rq tenant handle true
  if st ≠ St.ok then refuse rq st s
  else if s.isolated then refuse rq St.parIsolated s
  else
    whenSeated i rq (.seqAdminTruncate t rq tenant handle len)
      (fun s =>
        if (mget s.kvs.seqs i).any (fun q => decide (q.length < len)) then reply rq St.kvsRange (seqFields s i) s
        else pairChange rq (.seqTruncate handle len) none (applyTruncate handle len) s) s

/-- R127, R419: QUERY; either side answers it. -/
def queryCmd (rq : Requester) (tenant : Nat) (handle : BitVec 32) (s : Dev) : Dev :=
  let (st, i) := checkSeq s rq tenant handle false
  if st ≠ St.ok then refuse rq st s else reply rq St.ok (seqFields s i) s

/-! ## Batch positions (R64, R132) -/

/-- R132: index of a batch position. -/
def batchKey (stream position : Nat) : Nat := 4096 * stream + position

/-- R64: the batch tables with the waiting changes made. -/
def batchAfter (s : Dev) : Map (BitVec 32) :=
  s.tt.batchChanges.foldl (fun m c => match c.handle with
    | some h => mset m (batchKey c.stream c.position) h
    | none => mdel m (batchKey c.stream c.position)) s.tt.batch

/-- R132: an ATTEND stream of the running timetable. -/
def isAttendStream (s : Dev) (stream : Nat) : Bool :=
  match s.tt.running with
  | some t => t.slots.any fun e => decide (e.stream = stream) && decide (e.cls = .attend)
  | none => false

/-- R132: the position of a stream that a sequence holds. -/
def positionHeld (s : Dev) (stream : Nat) (handle : BitVec 32) : Option Nat :=
  ((batchAfter s).find? fun e => decide (e.1 / 4096 = stream) && decide (e.2 = handle)).map fun e => e.1 % 4096

/-- R132: JOIN as the commit applies it. -/
def applyJoin (handle : BitVec 32) (stream position : Nat) (s : Dev) : Applied :=
  match findSeq s handle with
  | none => { status := St.kvsBadHandle, fields := [], state := s }
  | some (i, q) =>
    if q.state = .lost then { status := St.kvsLost, fields := seqFields s i, state := s }
    else if !isAttendStream s stream || decide (4096 ≤ position) || mhas (batchAfter s) (batchKey stream position)
        || (positionHeld s stream handle).isSome then
      { status := St.kvsRange, fields := seqFields s i, state := s }
    else
      let change : BatchChange := { stream, position, handle := some handle, since := s.now }
      { status := St.ok, fields := seqFields s i, state := { s with tt.batchChanges := s.tt.batchChanges ++ [change] } }

/-- R132: LEAVE as the commit applies it. -/
def applyLeave (handle : BitVec 32) (stream : Nat) (s : Dev) : Applied :=
  match findSeq s handle with
  | none => { status := St.kvsBadHandle, fields := [], state := s }
  | some (i, q) =>
    if q.state = .lost then { status := St.kvsLost, fields := seqFields s i, state := s }
    else
      match positionHeld s stream handle with
      | some position =>
        if !isAttendStream s stream then { status := St.kvsRange, fields := seqFields s i, state := s }
        else
          let change : BatchChange := { stream, position, handle := none, since := s.now }
          { status := St.ok, fields := seqFields s i, state := { s with tt.batchChanges := s.tt.batchChanges ++ [change] } }
      | none => { status := St.kvsRange, fields := seqFields s i, state := s }

/-- R64: the next frame boundary. -/
def Dev.nextBoundary (s : Dev) : Time := s.tt.frameStart + BitVec.ofNat 64 s.frameUnits

/-- R132: JOIN. -/
def joinCmd (rq : Requester) (tenant : Nat) (handle : BitVec 32) (stream position : Nat) (s : Dev) : Dev :=
  let (st, _) := checkSeq s rq tenant handle true
  if st ≠ St.ok then refuse rq st s
  else
    let r := applyJoin handle stream position s
    if r.status ≠ St.ok then reply rq r.status r.fields s
    else pairChange rq (.seqJoin handle stream position) (some s.nextBoundary) (applyJoin handle stream position) s

/-- R132: LEAVE. -/
def leaveCmd (rq : Requester) (tenant : Nat) (handle : BitVec 32) (stream : Nat) (s : Dev) : Dev :=
  let (st, _) := checkSeq s rq tenant handle true
  if st ≠ St.ok then refuse rq st s
  else
    let r := applyLeave handle stream s
    if r.status ≠ St.ok then reply rq r.status r.fields s
    else pairChange rq (.seqLeave handle stream) (some s.nextBoundary) (applyLeave handle stream) s

/-! ## Idle parking (R95) -/

/-- R95, R261: an idle sequence of this side parks by itself; the density profile suspends it. DEDUCED: log entry 55. -/
def idlePark (i : Nat) (s : Dev) : Dev :=
  match mget s.kvs.seqs i with
  | none => s
  | some q =>
    if q.state = .seated ∧ s.idleParkK ≠ 0 ∧ s.tt.profile ≠ .density ∧ ownsSeq s i ∧ !s.isolated ∧ idleFor s q s.idleParkK then
      tellPark i (startPark i none s)
    else s

/-! ## The commands -/

/-- A SEQ_ADMIN command: served by a device that serves, refused to a disabled LD (R127, R452). -/
def seqAdmin (t : Time) (rq : Requester) (f : Dev → Dev) : Dev → Dev := vendor t rq false f

/-- R111: APPEND. -/
def execAppend (t : Time) (rq : Requester) (m : AppendMsg) (s : State) : Host.Outcome State Fault Refusal :=
  run (service t (appendCmd t rq m none)) s

/-- R129: SEQ_ADMIN OPEN. -/
def execSeqAdminOpen (t : Time) (rq : Requester) (tenant model format scope : Nat) (s : State) :
    Host.Outcome State Fault Refusal := run (seqAdmin t rq (openCmd t rq tenant model format scope)) s

/-- R92: SEQ_ADMIN CLOSE. -/
def execSeqAdminClose (t : Time) (rq : Requester) (tenant : Nat) (handle : BitVec 32) (s : State) :
    Host.Outcome State Fault Refusal := run (seqAdmin t rq (closeCmd t rq tenant handle)) s

/-- R92: SEQ_ADMIN PARK. -/
def execSeqAdminPark (t : Time) (rq : Requester) (tenant : Nat) (handle : BitVec 32) (s : State) :
    Host.Outcome State Fault Refusal := run (seqAdmin t rq (parkCmd rq tenant handle)) s

/-- R92: SEQ_ADMIN RESUME. -/
def execSeqAdminResume (t : Time) (rq : Requester) (tenant : Nat) (handle : BitVec 32) (s : State) :
    Host.Outcome State Fault Refusal := run (seqAdmin t rq (resumeCmd t rq tenant handle)) s

/-- R123: SEQ_ADMIN TRUNCATE. -/
def execSeqAdminTruncate (t : Time) (rq : Requester) (tenant : Nat) (handle : BitVec 32) (length : Nat) (s : State) :
    Host.Outcome State Fault Refusal := run (seqAdmin t rq (truncateCmd t rq tenant handle length)) s

/-- R127: SEQ_ADMIN QUERY. -/
def execSeqAdminQuery (t : Time) (rq : Requester) (tenant : Nat) (handle : BitVec 32) (s : State) :
    Host.Outcome State Fault Refusal := run (seqAdmin t rq (queryCmd rq tenant handle)) s

/-- R132: SEQ_ADMIN JOIN. -/
def execSeqAdminJoin (t : Time) (rq : Requester) (tenant : Nat) (handle : BitVec 32) (stream position : Nat) (s : State) :
    Host.Outcome State Fault Refusal := run (seqAdmin t rq (joinCmd rq tenant handle stream position)) s

/-- R132: SEQ_ADMIN LEAVE. -/
def execSeqAdminLeave (t : Time) (rq : Requester) (tenant : Nat) (handle : BitVec 32) (stream : Nat) (s : State) :
    Host.Outcome State Fault Refusal := run (seqAdmin t rq (leaveCmd rq tenant handle stream)) s

/-- R95: a sequence has been idle long enough to park by itself. -/
def execIdlePark (t : Time) (index : Nat) (s : State) : Host.Outcome State Fault Refusal := run (service t (idlePark index)) s


end Sys2Proof.Machine
end

