-- ==== Sys2Proof/Machine/Lookup.lean ====
section
/-! DEFINITION. LOOKUP and ATTACH (R166 to R171, R603), the timers of the prefix store (R143, R157, R160, R164) and the pins
(R148 to R151). -/

namespace Sys2Proof.Machine

/-! ## LOOKUP (R166 to R168, R603) -/

/-- R603 step 1: the fields of a LOOKUP are within their ranges; its reserved flags are ignored (R3). -/
def lookupRange (m : LookupMsg) : Bool :=
  decide (16 ≤ m.count) && decide (m.count ≤ 16384) && decide (m.tokens.length = m.count)
    && (decide (m.scope < 4096) || decide (m.scope = 0xFFFF)) && decide (m.model < 256)

/-- The tenant for whom a prefix command runs: the requester's, else that of the sequence named. -/
def actingTenant (s : Dev) (rq : Requester) (handle : BitVec 32) : Nat :=
  match tenantOf s rq with
  | some t => t
  | none => (findSeq s handle).elim 0xFFFF fun x => x.2.tenant

/-- R603 step 4: the sequence that LOOKUP with attach, or ATTACH, names. -/
def attachSeqCheck (s : Dev) (rq : Requester) (tenant : Nat) (handle : BitVec 32) (sc : Nat) : Status × Nat :=
  let (st, i) := checkSeq s rq tenant handle false
  if st ≠ St.ok then (st, i)
  else
    match mget s.kvs.seqs i with
    | none => (St.kvsBadHandle, i)
    | some q =>
      if q.state = .lost then (St.kvsLost, i)
      else if !ownsSeq s i then (St.parNotOwner, i)
      else if s.isolated then (St.parIsolated, i)
      else if q.maxLen ≠ 0 then (St.pfxAttachState, i)
      else if q.scope ≠ sc then (St.pfxScope, i)
      else (St.ok, i)

/-- R168: the start node is LIVE with the generation, depth and scope named, and of the scope's salt epoch. -/
def startNode (s : Dev) (m : LookupMsg) (sc : Nat) : Option (Nat × Node) :=
  match dirProbe s m.startKey with
  | some (slot, n) =>
    if n.state = .live ∧ nodeHeld s n ∧ n.gen = m.startGen ∧ n.depth = m.startDepth ∧ n.scope = sc
        ∧ n.saltEpoch = (s.scope sc).saltEpoch then some (slot, n) else none
  | none => none

/-- R603: the checks of a LOOKUP in their order. -/
def lookupCheck (s : Dev) (rq : Requester) (m : LookupMsg) : Status :=
  let tenant := actingTenant s rq m.handle
  let sc := namedScope s tenant m.scope
  if !lookupRange m then St.pfxRange
  else if !isMember s tenant sc then St.pfxScope
  else if !modelLoaded s m.model then St.pfxModel
  else
    let (st, i) := if m.attach then attachSeqCheck s rq tenant m.handle sc else (St.ok, 0)
    if st ≠ St.ok then st
    else if m.attach && !((mget s.kvs.seqs i).any fun q => decide (q.model = m.model) && decide (formatCode q.format = m.format)) then
      St.pfxFormat
    else if m.startFrom then
      match startNode s m sc with
      | none => St.pfxStale
      | some (_, n) => if n.model = m.model ∧ formatCode n.format = m.format then St.ok else St.pfxFormat
    else St.ok

/-- R138: the chain keys of the blocks of a token list, from a parent key on. -/
def keysOf (parent : BitVec 96) (model : Nat) (salt : BitVec 128) : List (BitVec 32) → Nat → List (BitVec 96)
  | _, 0 => []
  | toks, n + 1 =>
    let k := chainKey parent (toks.take 16) model salt
    k :: keysOf k model salt (toks.drop 16) n

/-- What a search has verified: blocks, by array and by directory, and the deepest node. -/
structure Found where
  blocks : Nat
  arrayHits : Nat
  dirHits : Nat
  node : Option Nat
  deriving DecidableEq, Repr

/-- R166, R167: verification block by block, up to the first that fails. -/
def verifyChain (compact : Bool) (sc model : Nat) (f : Format) (depth0 : Nat) :
    List (BitVec 96 × Option Nat) → List (BitVec 32) → BitVec 96 → Found → Dev → Found × Dev
  | [], _, _, r, s => (r, s)
  | (k, hit) :: rest, toks, parent, r, s =>
    match verifyBlock (searchKey compact sc model f k) k parent (toks.take 16) (depth0 + r.blocks + 1) sc model f hit s with
    | (none, s) => (r, s)
    | (some (slot, byArray), s) =>
      let s := modNode slot (fun n => { n with lastHit := s.tt.frame }) s
      let r : Found := { blocks := r.blocks + 1, arrayHits := r.arrayHits + byArray.toNat,
                         dirHits := r.dirHits + (!byArray).toNat, node := some slot }
      verifyChain compact sc model f depth0 rest (toks.drop 16) k r s

/-- R154: all of a request's array searches, before any block is verified. -/
def searchAll (compact : Bool) (sc model : Nat) (f : Format) : List (BitVec 96) → Dev → List (BitVec 96 × Option Nat) × Dev
  | [], s => ([], s)
  | k :: ks, s =>
    let (hit, s) := arraySearch (searchKey compact sc model f k) s
    let (rest, s) := searchAll compact sc model f ks s
    ((k, hit) :: rest, s)

/-- R166, R167: the search of a LOOKUP; `limit` bounds the blocks it verifies (R164). -/
def lookupSearch (sc : Nat) (m : LookupMsg) (limit : Option Nat) (s : Dev) : Found × Dev :=
  let rec0 := s.scope sc
  let f := (formatOf m.format).getD .bf16
  let parent := if m.startFrom then m.startKey else 0
  let depth0 := if m.startFrom then m.startDepth else 0
  let first : Found := { blocks := 0, arrayHits := 0, dirHits := 0,
                         node := if m.startFrom then (startNode s m sc).map (·.1) else none }
  let (hits, s) := searchAll rec0.compact sc m.model f (keysOf parent m.model rec0.salt m.tokens (m.count / 16)) s
  let hits := match limit with
    | some n => hits.take n
    | none => hits
  verifyChain rec0.compact sc m.model f depth0 hits m.tokens parent first s

/-- The fields of the LOOKUP completion after the status. -/
def lookupFields (s : Dev) (depth0 : Nat) (r : Found) : List Nat :=
  match r.node.bind (mget s.pfx.dir) with
  | some n => [16 * (depth0 + r.blocks), n.key.toNat, n.gen.toNat, r.arrayHits, r.dirHits]
  | none => [0, 0, 0, r.arrayHits, r.dirHits]

/-- R168, R603: LOOKUP. One that attaches to a sequence that is not SEATED searches when the sequence is. DEDUCED: log entry 56. -/
def lookupCmd (t : Time) (rq : Requester) (m : LookupMsg) (limit : Option Nat) (s : Dev) : Dev :=
  let st := lookupCheck s rq m
  if st ≠ St.ok then refuse rq st s
  else
    let sc := namedScope s (actingTenant s rq m.handle) m.scope
    if !(s.scope sc).share then reply rq St.ok [0, 0, 0, 0, 0] s
    else
      let depth0 := if m.startFrom then m.startDepth else 0
      let (r, s1) := lookupSearch sc m limit s
      match m.attach, r.node with
      | true, some slot =>
        match bringUp (indexOf m.handle) (.lookup t rq m []) s with
        | (.no st, s) => refuse rq st s
        | (.later, s) => holdCmd (indexOf m.handle) (.lookup t rq m []) s
        | (.now, _) =>
          let s1 := (bringUp (indexOf m.handle) (.lookup t rq m []) s1).2
          pairChange rq (.attach m.handle slot) none (applyAttach m.handle slot fun s => lookupFields s depth0 r) s1
      | _, _ => reply rq St.ok (lookupFields s1 depth0 r) s1

/-- R160, R166: soft errors of the array that a lookup meets. -/
def upsetRows (upsets : List ArrayUpset) (s : Dev) : Dev := forL upsets upsetRow s

/-! ## ATTACH (R169, R170, R603) -/

/-- R169: the node that an ATTACH names. -/
def namedNode (s : Dev) (m : AttachMsg) (sc : Nat) : Option (Nat × Node) :=
  match dirProbe s m.nodeKey with
  | some (slot, n) =>
    if n.state = .live ∧ nodeHeld s n ∧ n.gen = m.nodeGen ∧ n.depth = m.depth ∧ n.scope = sc
        ∧ n.saltEpoch = (s.scope sc).saltEpoch then some (slot, n) else none
  | none => none

/-- R603: ATTACH. DEDUCED: log entry 56. -/
def attachCmd (t : Time) (rq : Requester) (m : AttachMsg) (s : Dev) : Dev :=
  let tenant := actingTenant s rq m.handle
  let sc := namedScope s tenant m.scope
  if m.depth = 0 ∨ 65536 < m.depth ∨ (4096 ≤ m.scope ∧ m.scope ≠ 0xFFFF) then refuse rq St.pfxRange s
  else if !isMember s tenant sc then refuse rq St.pfxScope s
  else
    let (st, i) := attachSeqCheck s rq tenant m.handle sc
    if st ≠ St.ok then refuse rq st s
    else
      match namedNode s m sc, mget s.kvs.seqs i with
      | some (slot, n), some q =>
        if n.model ≠ q.model ∨ n.format ≠ q.format then refuse rq St.pfxFormat s
        else
          whenSeated i rq (.attach t rq m)
            (pairChange rq (.attach m.handle slot) none (applyAttach m.handle slot fun s => seqFields s i)) s
      | _, _ => refuse rq St.pfxStale s

/-! ## Timers of the store -/

/-- R143: an unreferenced node's retention has passed. -/
def retentionExpired (slot : Nat) (s : Dev) : Dev :=
  match mget s.pfx.dir slot with
  | none => s
  | some n =>
    let k := (s.scope n.scope).retainK
    let idle := (s.tt.frame - n.lastHit).toNat
    if n.unreferenced ∧ k ≠ 0xFFFF ∧ !s.isolated ∧ idle < 2 ^ 31 ∧ 1024 * k ≤ idle then removeNode (n.depth + 1) slot s else s

/-- R164: the probe waited 1 µs behind a cuckoo move: a lookup ends at its block, an offer is declined. -/
def probeTimeout (t : Time) (p : ProbeWait) (s : Dev) : Dev :=
  match p with
  | .lookup rq m block => lookupCmd t rq m (some block) s
  | .offer rq m block => appendCmd t rq m (some block) s

/-! ## Pins (R148, R149) -/

/-- R149: a waiting pin is granted where an entry or a count has become free; the episode ends with the last wait. -/
def pinGranted (op p : Nat) (s : Dev) : Dev :=
  match s.pfx.pinWaits.find? fun w => decide (w.op = op) && decide (w.page = p) with
  | none => s
  | some w =>
    match mget s.kvs.pages p with
    | none => { s with pfx.pinWaits := s.pfx.pinWaits.erase w }
    | some pg =>
      if pinRefused s pg || grantsHeld s p || !pinRoom s p then s
      else
        let rest := s.pfx.pinWaits.erase w
        grantPin op p pg.home { s with
          pfx.pinWaits := rest
          pfx.pinEpisode := s.pfx.pinEpisode && !rest.isEmpty }

/-- The pages that a request in flight reads. -/
def requestPages (s : Dev) (id : Nat) : List Nat :=
  match mget s.att.reqs id with
  | some r => r.segs.flatMap fun g => g.pages.map (·.page)
  | none => []

/-- R149: an operation whose pin waited 1 ms releases its pins and starts again; a move is queued again. -/
def pinTimeout (op : Nat) (s : Dev) : Dev :=
  if !(s.pfx.pinWaits.any fun w => decide (w.op = op) && past w.since (ms 1) s.now) then s
  else if op % 2 = 1 then
    match s.tir.moves.find? fun m => decide (moveOp m.id = op) with
    | some m => pushMove m.datum m.kind m.needBy (cancelMove m s)
    | none => dropPins op s
  else
    let s := dropPins op s
    forL (requestPages s (op / 2)) (takePin op) s

/-! ## The commands -/

/-- R603: LOOKUP. -/
def execLookup (t : Time) (rq : Requester) (m : LookupMsg) (upsets : List ArrayUpset) (s : State) :
    Host.Outcome State Fault Refusal := run (service t fun d => lookupCmd t rq m none (upsetRows upsets d)) s

/-- R169: ATTACH. -/
def execAttach (t : Time) (rq : Requester) (m : AttachMsg) (s : State) : Host.Outcome State Fault Refusal :=
  run (service t (attachCmd t rq m)) s

/-- R143: a node's retention expires. -/
def execNodeRetentionExpired (t : Time) (slot : Nat) (s : State) : Host.Outcome State Fault Refusal :=
  run (service t (retentionExpired slot)) s

/-- R157: an insertion block move finishes. -/
def execArrayBlockMoveComplete (t : Time) (bank : Nat) (s : State) : Host.Outcome State Fault Refusal :=
  run (awake t (blockMove bank)) s

/-- R160: the Pouncer's sweep reads its next row. -/
def execShadowSweepRead (t : Time) (flips : BitVec 64) (s : State) : Host.Outcome State Fault Refusal :=
  run (awake t (sweepRow flips)) s

/-- R164: a probe's wait expires. -/
def execDirProbeWaitTimeout (t : Time) (probe : ProbeWait) (s : State) : Host.Outcome State Fault Refusal :=
  run (service t (probeTimeout t probe)) s

/-- R149: a waiting pin is granted. -/
def execPinGranted (t : Time) (op page : Nat) (s : State) : Host.Outcome State Fault Refusal := run (awake t (pinGranted op page)) s

/-- R149: a pin has waited 1 ms. -/
def execPinWaitTimeout (t : Time) (op : Nat) (s : State) : Host.Outcome State Fault Refusal := run (awake t (pinTimeout op)) s

/-- R148: an engine releases its pin. -/
def execPinRelease (t : Time) (op page : Nat) (s : State) : Host.Outcome State Fault Refusal := run (awake t (dropPin op page)) s

/-- R151: a RETIRING page is freed. -/
def execPageReclaim (t : Time) (page : Nat) (s : State) : Host.Outcome State Fault Refusal := run (awake t (reclaimPage page)) s

end Sys2Proof.Machine
end

