-- ==== Sys2Proof/Machine/Compute.lean ====
section
/-! DEFINITION. What the cores compute for a request (R183, R191 to R196, R217 to R225, R229): visible keys, slices, tiles, the
merge tree and the finished rows. -/

namespace Sys2Proof.Machine

/-! ## Which keys a row sees (R191, R217) -/

/-- R180: flags of a request. -/
def AttendMsg.causal (m : AttendMsg) : Bool := m.flags.getLsbD 0
def AttendMsg.sliding (m : AttendMsg) : Bool := m.flags.getLsbD 1
def AttendMsg.capped (m : AttendMsg) : Bool := m.flags.getLsbD 2
def AttendMsg.requireFormat (m : AttendMsg) : Bool := m.flags.getLsbD 3
def AttendMsg.statsStore (m : AttendMsg) : Bool := m.flags.getLsbD 4

/-- R191: key `k` is visible to a row at `q`. -/
def visible (m : AttendMsg) (q k keyEnd : Nat) : Bool :=
  decide (k < keyEnd) && (!AttendMsg.causal m || decide (k < q + 1))
    && (!AttendMsg.sliding m || decide (q < m.window + k) || decide (k < m.sinkTokens))

/-- R182: rows of a segment, with their place in the row table. -/
def segRows (m : AttendMsg) (seg : Nat) : List (Nat × Nat) :=
  ((List.range m.rows.length).zip m.rows).filterMap fun e =>
    if e.2.segment = seg then some (e.1, e.2.position) else none

/-- R217: a page holds a key visible to one of the positions. -/
def pageVisible (m : AttendMsg) (positions : List Nat) (page keyEnd : Nat) : Bool :=
  positions.any fun q => (List.range 16).any fun t => visible m q (16 * page + t) keyEnd

/-- R217: the visible pages, ascending. -/
def visiblePages (m : AttendMsg) (positions : List Nat) (keyEnd : Nat) : List Nat :=
  (List.range (ceilDiv keyEnd 16)).filter fun i => pageVisible m positions i keyEnd

/-- R192: a row sees no key. -/
def rowEmpty (m : AttendMsg) (q keyEnd : Nat) : Bool := !(List.range keyEnd).any fun k => visible m q k keyEnd

/-! ## Formats and scores (R193 to R198, R222) -/

/-- R198: element size of a format code. -/
def codeSize (c : Nat) : Nat := if c < 2 then 2 else 1

/-- R196: the arithmetic of a query and a stored format: 0 BF16 rate, 1 FP16 rate, 2 FP8 rate. -/
def arithOf (q f : Nat) : Nat := if q < 2 then q else if f < 2 then f else 2

/-- R196: the pair is allowed. -/
def pairAllowed (q f : Nat) : Bool := decide (2 ≤ q) || decide (2 ≤ f) || decide (q = f)

/-- R194: the default scale of a head_dim code. -/
def defaultScale (code : Nat) : BitVec 32 :=
  [0x3E000000, 0x3DE4F92E, 0x3DD105EC, 0x3DB504F3, 0x3DA1E89B, 0x3D93CD3A, 0x3D800000].getD code 0

/-- R183: query head `j` of row `r`. -/
def queryHead (m : AttendMsg) (hq dim r j : Nat) : List Fp.F :=
  (List.range dim).map fun d => Fp.ofElem m.qFormat (m.query.getD ((r * hq + j) * dim + d) 0).toNat

/-- R101, R197: one head of a token's K or V. -/
def tokenHead (f dim head : Nat) (b : List Byte) : List Fp.F :=
  let e := codeSize f
  (List.range dim).map fun d => Fp.ofElem f (ofLeBytes ((b.drop ((head * dim + d) * e)).take e))

/-- R193: the score of a query head and a key head. DEDUCED: log entry 42. -/
def score (m : AttendMsg) (scale : BitVec 32) (q k : List Fp.F) : Fp.F :=
  let s := Fp.mul (Fp.dot q k) scale
  if AttendMsg.capped m then Fp.mul m.softcap (Fp.tanh (Fp.div s m.softcap)) else s

/-! ## One tile (R221) -/

/-- R192: the state of a row and head that has seen no key. -/
def Soft.empty (dim : Nat) : Soft := { m := Fp.negInf, l := 0, acc := List.replicate dim 0 }

/-- What a tile needs of its request. -/
structure TileCtx where
  m : AttendMsg
  scale : BitVec 32
  hq : Nat
  dim : Nat
  group : Nat
  keyEnd : Nat
  format : Nat

/-- R221: the state of one row and query head after one page; a key that the row does not see takes no part (R226). DEDUCED: log entry 42. -/
def tileRow (c : TileCtx) (page : Nat) (q pos : Nat) (query : List Fp.F) (keys vals : List (List Fp.F)) (st : Soft) : Soft :=
  let arith := arithOf q c.format
  let vis := (List.range 16).map fun t => visible c.m pos (16 * page + t) c.keyEnd
  let sc := (List.range 16).map fun t =>
    if vis.getD t false then some (score c.m c.scale query (keys.getD t [])) else none
  match sc.filterMap id with
  | [] => st
  | s0 :: rest =>
    let top := rest.foldl Fp.fmax s0
    if top = Fp.negInf then st
    else
      let mNew := Fp.fmax st.m top
      let alpha := Fp.exp (Fp.sub st.m mNew)
      let p := sc.map fun s => match s with
        | some s => Fp.roundP arith (Fp.exp (Fp.sub s mNew))
        | none => (0 : Fp.F)
      let term (d t : Nat) : Fp.F :=
        if vis.getD t false then Fp.mul (p.getD t 0) ((vals.getD t []).getD d 0) else 0
      let acc := (List.range c.dim).map fun d =>
        Fp.add (Fp.mul (st.acc.getD d 0) alpha) (Fp.sum16 ((List.range 16).map (term d)))
      { m := mNew, l := Fp.add (Fp.mul st.l alpha) (Fp.sum16 p), acc }

/-- R221: one page of a slice, for every row of the segment and every query head of the pair. -/
def tile (c : TileCtx) (rows : List (Nat × Nat)) (kvHead : Nat) (page : Nat) (toks : List TokenKv) (sts : List Soft) : List Soft :=
  let keys := (List.range 16).map fun t => tokenHead c.format c.dim kvHead ((toks[t]?).elim [] (·.k))
  let vals := (List.range 16).map fun t => tokenHead c.format c.dim kvHead ((toks[t]?).elim [] (·.v))
  let heads := rows.flatMap fun r => (List.range c.group).map fun j => (r, j)
  (heads.zip sts).map fun x =>
    let ((r, pos), j) := x.1
    tileRow c page c.m.qFormat pos (queryHead c.m c.hq c.dim r ((kvHead - c.m.kvhFirst) * c.group + j)) keys vals x.2

/-! ## The merge (R209, R224) -/

/-- R209: two states of one row and head. DEDUCED: log entry 42. -/
def mergeState (a b : Soft) : Soft :=
  let m := Fp.fmax a.m b.m
  if m = Fp.negInf then { m, l := 0, acc := a.acc }
  else
    let a1 := Fp.exp (Fp.sub a.m m)
    let b1 := Fp.exp (Fp.sub b.m m)
    let acc := List.zipWith (fun x y => Fp.add (Fp.mul x a1) (Fp.mul y b1)) a.acc b.acc
    { m, l := Fp.add (Fp.mul a.l a1) (Fp.mul b.l b1), acc }

/-- R224: nodes of a level of a tree over `n` slices. -/
def levelWidth (n : Nat) : Nat → Nat
  | 0 => n
  | k + 1 => (levelWidth n k + 1) / 2

/-! ## The finished rows (R195, R225, R229) -/

/-- R229: the final state or an output is not finite in the way that makes the row a NaN. DEDUCED: log entry 42. -/
def nonfinite (st : Soft) (outs : List Fp.F) : Bool := Fp.isNaN st.m || decide (st.m = Fp.posInf) || outs.any Fp.isNaN

/-- R229: the default NaN in binary32. -/
def nan32 : BitVec 32 := 0x7FC00000

/-- R225, R229: outputs, log-sum-exp, and whether the row counts as nonfinite. DEDUCED: log entry 42. -/
def finishRow (mode : Nat) (st : Soft) : List (BitVec 32) × BitVec 32 × Bool :=
  if st.m = Fp.negInf then (st.acc.map fun _ => 0, Fp.negInf, false)
  else
    let outs := if mode = 2 then [] else st.acc.map fun x => Fp.div x st.l
    if nonfinite st outs then (st.acc.map fun _ => nan32, nan32, true)
    else (outs, Fp.add st.m (Fp.ln st.l), false)

/-- R225: the root's rows for one segment and KV head; the count of nonfinite rows. -/
def finishPair (mode seg kvHead : Nat) (sts : List Soft) : Finished × Nat :=
  let rows := sts.map (finishRow mode)
  ({ seg, kvHead, states := sts, outs := rows.map (·.1), lse := rows.map (·.2.1) }, (rows.filter (·.2.2)).length)

/-- R195: a binary32 output packed into out_format. -/
def packOut (fmt : Nat) (x : BitVec 32) : BitVec 32 :=
  match fmt with
  | 0 => BitVec.ofNat 32 (Fp.narrow Fp.bf16 x)
  | 1 => BitVec.ofNat 32 (Fp.narrow Fp.fp16 x)
  | _ => x

end Sys2Proof.Machine
end

