-- ==== Sys2Proof/Machine/Late.lean ====
section
/-! DEFINITION. What answers a request (R57 to R63, R199 to R210, R604 to R606): late notices and the slots they name, whole and
split results, the statistics write. -/

namespace Sys2Proof.Machine

/-! ## The request table -/

/-- The endpoint that a requester's results travel to. -/
def endpointOf : Requester → Nat
  | .auvas h _ => h.src
  | _ => 0

/-- The message ID of a request. -/
def msgIdOf : Requester → Nat
  | .auvas h _ => h.msgId
  | _ => 0

/-- R206: a RESULT, late notice or weight data of `len` bytes leaves in TC7 to the requester. -/
def sendTimed (rq : Requester) (opcode tenant len : Nat) (s : Dev) : Dev :=
  match rq with
  | .auvas h _ => sendMsg h.src opcode 7 tenant 0 h.msgId len 0 false [] s
  | _ => s

/-- A request is answered for the last time: its pins are released. -/
def dropRequest (id : Nat) (s : Dev) : Dev :=
  let s := dropPins (reqOp id) s
  { s with att.reqs := mdel s.att.reqs id }

/-! ## Geometry of a request -/

/-- R243: the descriptor of a loaded model. -/
def descOf (s : Dev) (m : Nat) : Option ModelDesc := (mget s.att.models m).map (·.desc)

/-- R183: query heads per row. -/
def queryHeads (d : ModelDesc) (m : AttendMsg) : Nat := m.kvhCount * d.g

/-- R199: the KV heads that a request covers. -/
def coveredHeads (m : AttendMsg) : List Nat := (List.range m.kvhCount).map fun i => m.kvhFirst + i

/-- R179: rounded up to a multiple of 64. -/
def pad64 (n : Nat) : Nat := 64 * ceilDiv n 64

/-! ## Delays and named slots (R59, R604, R605) -/

/-- R604: the delay whose bound is latest; on a tie the lower status word. -/
def latestDelay (l : List Delay) : Option Delay :=
  firstBy (fun a b => serialLt b.bound a.bound || (decide (a.bound = b.bound) && decide (a.cause.toNat < b.cause.toNat))) l

/-- R604: the delay that keeps the answer from its slot. -/
def lateBy (r : Request) : Option Delay := latestDelay (r.delays.filter fun d => !serialLt d.bound r.due.start)

/-- Rows that the answer due carries (R209). -/
def rowsDue (r : Request) : Nat :=
  if r.inFollowup then
    sumBy (fun g => if g.2.status = St.ok ∧ g.2.pages.any (fun p => decide (p.path = .followup)) then (segRows r.msg g.1).length
      else 0) ((List.range r.segs.length).zip r.segs)
  else r.msg.rowCount

/-- R59, R605, R606: the slots that an answer delayed to `bound` takes: one, or a run when it has more rows than a slot. -/
def slotsAfter (s : Dev) (r : Request) (bound : Time) : Option (List SlotRef) :=
  if r.maxRows < rowsDue r then
    match s.findRun (rowsDue r) (s.resultSlots r.resStream bound (s.framesTo bound) s.reach) with
    | some (a :: rest) => if s.inHorizon a.frame then some (a :: rest) else none
    | _ => none
  else
    (s.freeSlot r.resStream (rowsDue r) bound).map fun x =>
      [{ frame := x.1.frame, slot := x.2.slot, start := slotStart x.1.start x.2 }]

/-- R59: the rows of a request leave the slots they were assigned to. -/
def dropUses (id : Nat) (s : Dev) : Dev := { s with tt.uses := s.tt.uses.filter fun u => !decide (u.request = id) }

/-- R59: rows assigned to a slot. -/
def addUse (id stream rows : Nat) (run : Bool) (x : SlotRef) (s : Dev) : Dev :=
  { s with tt.uses := s.tt.uses ++ [{ frame := x.frame, slot := x.slot, stream, rows, run, request := id }] }

/-- R59, R604: the slot named for a request's latest bound; none where no slot can be named. -/
def nameSlot (id : Nat) (s : Dev) : Dev :=
  match mget s.att.reqs id with
  | none => s
  | some r =>
    match lateBy r with
    | none => s
    | some d =>
      let s := dropUses id s
      match slotsAfter s r d.bound with
      | some (a :: rest) =>
        let run := decide (r.maxRows < rowsDue r)
        let s := forL (a :: rest) (addUse id r.resStream (rowsDue r) run) s
        modReq id (fun r => { r with named := some a, run := if run then a :: rest else [] }) s
      | _ => modReq id (fun r => { r with named := none, run := [] }) s

/-- R59, R604: a delay of a request is detected, with its completion bound. -/
def addDelay (id : Nat) (d : Delay) (s : Dev) : Dev := nameSlot id (modReq id (fun r => { r with delays := r.delays ++ [d] }) s)

/-- R59: a bound for which the manual gives no formula. -/
def drawBound (s : Dev) : Time × Dev := let (k, s) := draw s; (s.now + ns (Config.delayNs k), s)

/-- R238, R604: a delay of a request whose bound the device computes. -/
def delayed (cause : Status) (id : Nat) (s : Dev) : Dev := let (b, s) := drawBound s; addDelay id { cause, bound := b } s

/-! ## Late notices (R58 to R62) -/

/-- R60, R606: no slot can be named, or the fourth is missed. -/
def sendLimit (id : Nat) (r : Request) (s : Dev) : Dev :=
  let h : ResultHdr := {
    status := St.iatLateLimit, timing := r.timing, msgId := msgIdOf r.rq, segErrors := false,
    keysWidened := false, statsWritten := false, outMode := r.msg.outMode, outFormat := r.msg.outFormat, frame := r.due.frame,
    slot := r.due.slot, rowCount := 0, kvhFirst := r.msg.kvhFirst, kvhCount := r.msg.kvhCount, layer := r.msg.layer,
    follow := none, charged := r.charged }
  dropRequest id (dropUses id (sendTimed r.rq 0x05 r.tenant 64 (emit (.result r.rq r.port h [] []) s)))

/-- R61: the late notice of a request that names `x`. -/
def sendNotice (id : Nat) (r : Request) (cause : Status) (x : SlotRef) (s : Dev) : Dev :=
  let n : LateNotice := {
    cause, msgId := msgIdOf r.rq, lateCount := r.lateCount + 1, origFrame := r.declared.frame,
    origSlot := r.declared.slot, newFrame := x.frame, newSlot := x.slot,
    slotsShifted := s.slotsShifted r.resStream r.declared.start x.start, newStart := x.start }
  let s := if subsystem cause = 4 then count Reg.tirLateCount s else s
  let s := sendTimed r.rq 0x05 r.tenant 32 (emit (.late r.rq r.port n) s)
  modReq id (fun r => { r with lateCount := r.lateCount + 1, due := x, named := none }) s

/-- R58, R60, R606: the answer cannot be given in the slot in which it is due. -/
def answerLate (id : Nat) (s : Dev) : Dev :=
  let s := if (mget s.att.reqs id).any (fun r => r.named.isNone) then nameSlot id s else s
  match mget s.att.reqs id with
  | none => s
  | some r =>
    match r.named, lateBy r with
    | some x, some d => if 4 ≤ r.lateCount then sendLimit id r s else sendNotice id r d.cause x s
    | _, _ => sendLimit id r s

/-! ## Results (R199 to R209) -/

/-- R224, R225: every pair of the accepted segments is finished; of the split-off ones in the follow-up. -/
def allFinished (r : Request) : Bool :=
  ((List.range r.segs.length).zip r.segs).all fun g =>
    decide (g.2.status ≠ St.ok) || (r.inFollowup && !(g.2.pages.any fun p => decide (p.path = .followup)))
      || (coveredHeads r.msg).all fun h => r.finished.any fun f => decide (f.seg = g.1) && decide (f.kvHead = h)

/-- The finished rows of a pair. -/
def finishedOf (l : List Finished) (seg kvHead : Nat) : Option Finished :=
  l.find? fun f => decide (f.seg = seg) && decide (f.kvHead = kvHead)

/-- A row's place among the rows of its segment. -/
def rowInSeg (m : AttendMsg) (row seg : Nat) : Nat := (segRows m seg).findIdx fun x => decide (x.1 = row)

/-- One value of a row and query head of the request, from its finished pair; `dflt` where its segment failed. -/
def rowHead {α : Type} (r : Request) (d : ModelDesc) (row j : Nat) (dflt : α) (f : Finished → Nat → α) : α :=
  let seg := (r.msg.rows[row]?).elim 0 (·.segment)
  if (r.segs[seg]?).any (fun g => decide (g.status = St.ok)) then
    match finishedOf r.finished seg (r.msg.kvhFirst + j / d.g) with
    | some p => f p (rowInSeg r.msg row seg * d.g + j % d.g)
    | none => dflt
  else dflt

/-- R204: the row block of the rows listed, in an out_mode. -/
def rowBlock (r : Request) (d : ModelDesc) (rows : List Nat) (mode fmt : Nat) : List (BitVec 32) :=
  let dim := headDimOf d.headDimCode
  let hq := queryHeads d r.msg
  let each {α : Type} (f : Nat → Nat → List α) : List α := rows.flatMap fun row => (List.range hq).flatMap (f row)
  let zeros := List.replicate dim (0 : BitVec 32)
  let outs := each fun row j => rowHead r d row j zeros fun p i => (p.outs.getD i zeros).map (packOut fmt)
  let lse := each fun row j => [rowHead r d row j 0 fun p i => p.lse.getD i 0]
  let part (g : Soft → List (BitVec 32)) (n : Nat) : List (BitVec 32) := each fun row j =>
    rowHead r d row j (List.replicate n 0) fun p i => (p.states[i]?).elim (List.replicate n 0) g
  if mode = 2 then part (fun st => [st.m]) 1 ++ part (fun st => [st.l]) 1 ++ part (fun st => st.acc) dim
  else if mode = 1 then outs ++ lse
  else outs

/-- R204: bytes of a row block of `n` rows. -/
def blockLen (d : ModelDesc) (m : AttendMsg) (n mode fmt : Nat) : Nat :=
  let hq := queryHeads d m
  let dim := headDimOf d.headDimCode
  if mode = 2 then 2 * pad64 (4 * n * hq) + pad64 (4 * n * hq * dim)
  else pad64 (n * hq * dim * (if fmt < 2 then 2 else 4)) + (if mode = 1 then pad64 (4 * n * hq) else 0)

/-- R203: the status entry of a segment in the part that is due. -/
def segEntry (r : Request) (split : Bool) (i : Nat) (g : SegView) : SegStatus :=
  let ok := decide (g.status = St.ok)
  let later := g.pages.filter fun p => decide (p.path = .followup)
  let done := if r.inFollowup then later.length else if split then g.pages.length - later.length else g.pages.length
  { handle := g.handle, segment := i, status := g.status,
    storedFormat := if g.known then formatCode g.format else 0,
    complete := ok && (r.inFollowup || !split || later.isEmpty), emptyRows := ok && g.emptyRows,
    keysWidened := ok && g.widened, pagesDone := if ok then done else 0 }

/-- R13: ports of the east half. -/
def portEast (p : Nat) : Bool := decide (p < 4) || decide (p = portTorE) || decide (p = portTorN) || decide (p = portPair)

/-- R208: the pages that a part covers. -/
def partPages (g : SegView) (later : Bool) : List ViewPage := g.pages.filter fun p => decide (p.path = .followup) == later

/-- R218: the ordinals of slice `j` of a pair of `n` pages. -/
def sliceOrds (size n j : Nat) : List Nat := (List.range (min ((j + 1) * size) n)).filter fun o => decide (j * size ≤ o)

/-- R216 to R219: the slices of a part of a request: in order of segment, KV head and slice index, one logical core after the
other from the dispatcher's start index. A pair without pages is finished at once. -/
def dispatch (id : Nat) (later : Bool) (s : Dev) : Dev :=
  match mget s.att.reqs id with
  | none => s
  | some r =>
    match descOf s r.msg.model with
    | none => s
    | some d =>
      let size := 2 ^ d.sliceCode
      let dim := headDimOf d.headDimCode
      let indexed := ((List.range r.segs.length).zip r.segs).filter fun g => decide (g.2.status = St.ok) &&
        (!later || !(partPages g.2 true).isEmpty)
      let pairs := indexed.flatMap fun g => (coveredHeads r.msg).map fun h => (g, h)
      let start (g : Nat) : List Soft := List.replicate ((segRows r.msg g).length * d.g) (Soft.empty dim)
      let cut := pairs.flatMap fun x =>
        let n := ceilDiv (partPages x.1.2 later).length size
        (List.range n).map fun j => (x.1.1, x.2, j, n, sliceOrds size (partPages x.1.2 later).length j)
      let east := portEast r.port
      let g0 := if east then s.att.startEast else s.att.startWest
      let slices : List Slice := ((List.range cut.length).zip cut).map fun x =>
        { g := x.1
          seg := x.2.1
          kvHead := x.2.2.1
          index := x.2.2.2.1
          nSlices := x.2.2.2.2.1
          ords := x.2.2.2.2.2
          core := (g0 + x.1) % 64
          queued := false
          next := 0
          states := start x.2.1
          done := false }
      let bare := (pairs.filter fun x => (partPages x.1.2 later).isEmpty).map fun x =>
        (finishPair r.msg.outMode x.1.1 x.2 (start x.1.1)).1
      let next := (g0 + cut.length) % 64
      let s := if east then { s with att.startEast := next } else { s with att.startWest := next }
      let s := modReq id (fun r => { r with slices, tree := [], finished := bare }) s
      forL slices (fun x s => queueNext x.core s) s

/-- R200: the log-sum-exp of a row and head over all visible keys; −∞ where the segment failed. -/
def statsValue (r : Request) (d : ModelDesc) (row j : Nat) : BitVec 32 :=
  let seg := (r.msg.rows[row]?).elim 0 (·.segment)
  let kvh := r.msg.kvhFirst + j / d.g
  let i := rowInSeg r.msg row seg * d.g + j % d.g
  let state (l : List Finished) : Option Soft := (finishedOf l seg kvh).bind fun p => p.states[i]?
  if !(r.segs[seg]?).any (fun g => decide (g.status = St.ok)) then Fp.negInf
  else
    match state r.firstPart, state r.finished with
    | some a, some b => (finishRow 0 (mergeState a b)).2.1
    | some a, none => (finishRow 0 a).2.1
    | none, some b => (finishRow 0 b).2.1
    | none, none => Fp.negInf

/-- R200: a target range lies in an OPEN object with stats set, of the tenant, that this side owns. -/
def statsTargetOk (s : Dev) (tenant : Nat) (va : Va) (len : Nat) : Bool :=
  let obj := va.toNat / 2 ^ 44 % 2 ^ 18
  decide (va.toNat / 2 ^ 62 = 2) && ((mget s.tir.objs obj).any fun o =>
    decide (o.state = .opened) && o.stats && decide (o.tenant = tenant) && decide (va.toNat % 2 ^ 44 + len ≤ o.size))
    && ownsObj s obj

/-- R200, R201: the statistics are written, where the target still takes them. DEDUCED: log entry 58. -/
def writeStats (r : Request) (d : ModelDesc) (s : Dev) : Bool × Dev :=
  let hq := queryHeads d r.msg
  if AttendMsg.statsStore r.msg && statsTargetOk s r.tenant r.msg.statsVa (4 * r.msg.rowCount * hq) then
    let vals := (List.range r.msg.rowCount).flatMap fun row => (List.range hq).map (statsValue r d row)
    (true, { s with mem := memWriteN s.mem r.msg.statsVa.toNat (vals.flatMap fun v => leBytes v.toNat 4) })
  else (false, s)

/-- R44: in ACQUIRE and FREE every RESULT carries IAT_UNSYNC. DEDUCED: log entry 58. -/
def timingOf (s : Dev) (r : Request) : Status :=
  if s.sync.state = .acquire ∨ s.sync.state = .free then St.iatUnsync else r.timing

/-- R203 to R209: the RESULT of a request that is finished leaves in its slot. The first part of a split result turns the request
into its follow-up. DEDUCED: log entry 58. -/
def sendResult (id : Nat) (r : Request) (s : Dev) : Dev :=
  match descOf s r.msg.model with
  | none => dropRequest id (dropUses id s)
  | some d =>
    let split := r.follow.isSome && !r.inFollowup
    let indexed := (List.range r.segs.length).zip r.segs
    let segs := if r.inFollowup then indexed.filter fun g => decide (g.2.status = St.ok) &&
        g.2.pages.any fun p => decide (p.path = .followup) else indexed
    let entries := segs.map fun g => segEntry r split g.1 g.2
    let rows := (List.range r.msg.rowCount).filter fun row => segs.any fun g =>
      decide ((r.msg.rows[row]?).any fun e => decide (e.segment = g.1))
    let failed := entries.any fun e => decide (e.status ≠ St.ok)
    let mode := if split || r.inFollowup then 2 else r.msg.outMode
    let fmt := if split || r.inFollowup then 2 else r.msg.outFormat
    let (stats, s) := if split then (false, s) else writeStats r d s
    let h : ResultHdr := {
      status := if split then St.attPartial else if r.inFollowup then St.attFollowup
        else if failed then St.attSegmentErrors else St.ok
      timing := timingOf s r
      msgId := msgIdOf r.rq
      segErrors := failed
      keysWidened := entries.any (·.keysWidened)
      statsWritten := stats
      outMode := mode
      outFormat := fmt
      frame := r.due.frame
      slot := r.due.slot
      rowCount := rows.length
      kvhFirst := r.msg.kvhFirst
      kvhCount := r.msg.kvhCount
      layer := r.msg.layer
      follow := if split then r.follow else none
      charged := r.charged }
    let len := 64 + pad64 (16 * entries.length) + blockLen d r.msg rows.length mode fmt
    let s := sendTimed r.rq 0x05 r.tenant len (emit (.result r.rq r.port h entries (rowBlock r d rows mode fmt)) s)
    match split, r.follow with
    | true, some f =>
      let turn (r : Request) : Request :=
        { r with inFollowup := true, declared := f, due := f, named := none, delays := [], run := [], firstPart := r.finished }
      dispatch id true (modReq id turn s)
    | _, _ => dropRequest id (dropUses id s)

/-- R186: the RESULT of a refused request. -/
def sendRefused (id : Nat) (r : Request) (s : Dev) : Dev :=
  let h : ResultHdr := {
    status := r.refusal, timing := timingOf s r, msgId := msgIdOf r.rq, segErrors := false,
    keysWidened := false, statsWritten := false, outMode := r.msg.outMode, outFormat := r.msg.outFormat, frame := r.due.frame,
    slot := r.due.slot, rowCount := 0, kvhFirst := r.msg.kvhFirst, kvhCount := r.msg.kvhCount, layer := r.msg.layer,
    follow := none, charged := 0 }
  dropRequest id (dropUses id (sendTimed r.rq 0x05 r.tenant 64 (emit (.result r.rq r.port h [] []) s)))

/-- R283: the pages that the due part of a segment still needs from where they are. -/
def neededPages (r : Request) (g : SegView) : List ViewPage :=
  if g.status = St.ok then partPages g r.inFollowup else []

/-- R604: a T2 read that the due part of a request waits for has not come back: of one of its pages, or of the tables or pending area
of a sequence that resumes for it. -/
def runningRead (s : Dev) (r : Request) : Option NandRead :=
  s.fls.reads.find? fun x => r.segs.any fun g => match x.datum with
    | .page p => (neededPages r g).any fun v => decide (v.page = p)
    | .tables i => decide (g.status = St.ok) && decide (indexOf g.handle = i)
    | .pendingArea i => decide (g.status = St.ok) && decide (indexOf g.handle = i)
    | .block _ _ => false

/-- R283: a page that the due part of a request needs is still in T2, with no refetch in progress and no bypass read done. -/
def awaitsT2 (s : Dev) (r : Request) : Bool :=
  r.segs.any fun g => (neededPages r g).any fun v => !decide (v.path = .bypass)
    && (homeOf s (.page v.page)).any (fun h => !h.inT1)
    && !(s.tir.refetches.any fun x => decide (x.datum = .page v.page))
    && !(s.tir.moves.any fun m => decide (m.datum = .page v.page) && decide (m.kind = .refetch))

/-- R324: the cause that the steps of the ladder so far give to a read that has not come back. DESIGN CHOICE: log entry 85. -/
def runningCause (x : NandRead) (s : Dev) : Status × Dev :=
  let (k, s) := draw s
  let step := max x.step (Config.ladderStep k % 3)
  (if 2 ≤ step then St.flsStripeRebuild else if step = 1 ∧ 0 < s.retryMax then St.flsReadRetry else St.flsReadSlow, s)

/-- R54, R279, R604: why the work of a request is not complete in the slot in which it is due, when no bound said so: a T2 read that
lasts longer than projected, the latest delay, or an overrun. DEDUCED: log entry 85. -/
def overdueCause (r : Request) (s : Dev) : Status × Dev :=
  match runningRead s r, latestDelay r.delays with
  | some x, _ => runningCause x s
  | none, some d => (if d.cause ≠ St.tirT1Full ∧ awaitsT2 s r then St.flsReadSlow else d.cause, s)
  | none, none => (if awaitsT2 s r then St.flsReadSlow else St.iatOverrun, s)

/-- R58, R54: what a request's slot brings: its RESULT, or a late notice; work that is not complete without another cause is an
overrun. -/
def answer (id : Nat) (s : Dev) : Dev :=
  match mget s.att.reqs id with
  | none => s
  | some r =>
    if r.refusal ≠ St.ok then sendRefused id r s
    else if (lateBy r).isSome then answerLate id s
    else if allFinished r then sendResult id r s
    else
      let (cause, s) := overdueCause r s
      answerLate id (delayed cause id s)

end Sys2Proof.Machine
end

