-- ==== Sys2Proof/Machine/Promote.lean ====
section
/-! DEFINITION. Projections of T2 reads and the promotion queue (R276 to R279). -/

namespace Sys2Proof.Machine

/-! ## Projections (R279, R283) -/

/-- The later of two times. -/
def later (a b : Time) : Time := if serialLt a b then b else a

/-- R303: a refetch of the page is in progress since. -/
def refetchSince (s : Dev) (d : Datum) : Option Time := (s.tir.refetches.find? fun r => decide (r.datum = d)).map (·.since)

/-- R279: the projection of a read of page `p` queued at `t0`, the one it has when it is in flight. -/
def pageProjection (s : Dev) (p : Nat) (e : Extent) (t0 : Time) : Time :=
  match mget s.tir.proj p with
  | some t => t
  | none => (match readInFlight s (.page p) with
    | some t => t
    | none => later t0 (mgetD s.tir.dieProj (dieOfUnit e.unit) t0) + us s.t2BoundUs)

/-- R279: the read of a page counts as queued on its die. -/
def project (p : Nat) (e : Extent) (t : Time) (s : Dev) : Dev :=
  if mhas s.tir.proj p then s
  else { s with tir.proj := mset s.tir.proj p t, tir.dieProj := mset s.tir.dieProj (dieOfUnit e.unit) t }

/-- A page's extent in T2, where its home lies there. -/
def t2Extent (s : Dev) (p : Nat) : Option Extent :=
  match mget s.kvs.pages p with
  | some pg => (match pg.home with | .t2 e => some e | _ => none)
  | none => none

/-! ## The promotion queue (R277) -/

/-- R277: pages in the promotion queue. -/
def promotionCount (s : Dev) : Nat :=
  (s.tir.moves.filter fun m => decide (m.kind = .promotion) && decide (m.state = .queued)).length

/-- R277: a promotion of the page is queued or in progress. -/
def promoting (s : Dev) (p : Nat) : Bool :=
  s.tir.moves.any fun m => decide (m.datum = .page p) && decide (m.kind.way = 1) && !decide (m.state = .switching)

/-- R277: a promotion of a page in T2 is queued, or keeps the earlier need_by; false when the queue is full. -/
def promotePage (p : Nat) (needBy : Time) (t0 : Time) (s : Dev) : Bool × Dev :=
  match t2Extent s p with
  | none => (true, s)
  | some e =>
    if promoting s p then (true, queueMove (.page p) .promotion needBy s)
    else if 65536 ≤ promotionCount s then (false, s)
    else (true, queueMove (.page p) .promotion needBy (project p e (pageProjection s p e t0) s))

/-- R283: promotions of the pages listed. -/
def promoteAll (pages : List Nat) (needBy t0 : Time) (s : Dev) : Dev :=
  forL pages (fun p s => let (ok, s) := promotePage p needBy t0 s; if ok then s else { s with tir.queueFull := true }) s

/-! ## PROMOTE (R276, R277) -/

/-- R276: the page indices of a range of one layer. DEDUCED: log entry 57. -/
def rangePages (q : Seq) (m : PromoteMsg) (l : Nat) : List Nat :=
  ((q.l3.filter fun e => decide (e.1 / 65536 = l) && decide (m.pageFirst ≤ e.1 % 65536)
    && (decide (m.pageCount = 0) || decide (e.1 % 65536 < m.pageFirst + m.pageCount))).map (·.2.page))

/-- R276: the pages of the range, in ascending layer and page order. -/
def promoteRange (q : Seq) (m : PromoteMsg) : List Nat :=
  let n := if m.layerCount = 0 then q.layers - m.layerFirst else m.layerCount
  (List.range n).flatMap fun i => rangePages q m (m.layerFirst + i)

/-- R276: the range names layers of the sequence. DEDUCED: log entry 57. -/
def promoteRangeOk (q : Seq) (m : PromoteMsg) : Bool :=
  decide (m.layerFirst < q.layers) && decide (m.layerFirst + m.layerCount ≤ q.layers)

/-- R277: what the queueing of a range has counted: newly queued, in T1, in flight, the latest projection. -/
structure PromoteTally where
  queued : Nat
  inT1 : Nat
  inFlight : Nat
  readyBy : Time
  full : Bool

/-- R277: one page of the range. DEDUCED: log entry 57. -/
def promoteOne (needBy : Time) (p : Nat) (x : PromoteTally × Dev) : PromoteTally × Dev :=
  let (c, s) := x
  match t2Extent s p with
  | none => ({ c with inT1 := c.inT1 + 1 }, s)
  | some e =>
    if pageIsLost s p then x
    else
      let t := pageProjection s p e s.now
      if promoting s p then
        ({ c with inFlight := c.inFlight + 1, readyBy := later c.readyBy t }, (promotePage p needBy s.now s).2)
      else
        match promotePage p needBy s.now s with
        | (true, s) => ({ c with queued := c.queued + 1, readyBy := later c.readyBy t }, s)
        | (false, s) => ({ c with full := true }, s)

/-- R276: queued promotions of the range that have not started are removed. -/
def cancelPromotions (pages : List Nat) (s : Dev) : Dev :=
  forL (s.tir.moves.filter fun m => decide (m.kind = .promotion) && decide (m.state = .queued) &&
    pages.any fun p => decide (m.datum = .page p)) (fun m s =>
      let s := cancelMove m s
      match m.datum with
      | .page p => { s with tir.proj := mdel s.tir.proj p }
      | _ => s) s

/-- R276: one page of a range whose queued promotions have been removed. -/
def leftOne (s : Dev) (c : PromoteTally) (p : Nat) : PromoteTally :=
  match t2Extent s p with
  | none => { c with inT1 := c.inT1 + 1 }
  | some e =>
    if !pageIsLost s p && promoting s p then
      { c with
        inFlight := c.inFlight + 1
        readyBy := later c.readyBy (pageProjection s p e s.now) }
    else c

/-- R276: the completion after the cancel of a range. -/
def cancelReply (pages : List Nat) (s : Dev) : List Nat :=
  let c := pages.foldl (leftOne s) { queued := 0, inT1 := 0, inFlight := 0, readyBy := s.now, full := false }
  [0, c.inT1, c.inFlight, c.readyBy.toNat]

/-- R276, R277: PROMOTE of a sequence that is SEATED. -/
def promoteSeated (rq : Requester) (m : PromoteMsg) (i : Nat) (s : Dev) : Dev :=
  match mget s.kvs.seqs i with
  | none => refuse rq St.kvsBadHandle s
  | some q =>
    if !promoteRangeOk q m then reply rq St.tirRange [] s
    else
      let s := modSeq i (fun q => { q with lastFrame := s.tt.frame }) s
      let pages := promoteRange q m
      if m.cancel then
        let s := cancelPromotions pages s
        reply rq St.ok (cancelReply pages s) s
      else
        let zero : PromoteTally := { queued := 0, inT1 := 0, inFlight := 0, readyBy := s.now, full := false }
        let (c, s) := pages.foldl (fun x p => promoteOne m.needBy p x) (zero, s)
        let s := if c.full then { s with tir.queueFull := true } else s
        reply rq (if c.full then St.tirPromoteQueueFull else St.ok) [c.queued, c.inT1, c.inFlight, c.readyBy.toNat] s

/-- R276: PROMOTE. A RESUMING sequence refuses it (R92); a PARKED one is resumed first. DEDUCED: log entry 57. -/
def promoteCmd (t : Time) (rq : Requester) (m : PromoteMsg) (s : Dev) : Dev :=
  let (st, i) := checkSeq s rq (actingTenant s rq m.handle) m.handle true
  if st ≠ St.ok then refuse rq st s
  else if (mget s.kvs.seqs i).any (fun q => decide (q.state = .resuming)) then refuse rq St.kvsState s
  else whenSeated i rq (.promote t rq m) (promoteSeated rq m i) s

/-- R276: PROMOTE. -/
def execPromote (t : Time) (rq : Requester) (m : PromoteMsg) (s : State) : Host.Outcome State Fault Refusal :=
  run (service t (promoteCmd t rq m)) s

end Sys2Proof.Machine
end

