-- ==== Sys2Proof/Machine/Attention.lean ====
section
/-! DEFINITION. ATTEND (R179 to R191, R202, R280 to R286): the checks, the charge, the view and its pins, the decision how the
request is served. -/

namespace Sys2Proof.Machine

/-! ## The checks (R185) -/

/-- R194: a finite positive binary32 pattern. -/
def positiveFinite (x : BitVec 32) : Bool := decide (1 ≤ x.toNat) && decide (x.toNat < 0x7F800000)

/-- R185 check 4: the header's fields. -/
def headerRange (d : ModelDesc) (m : AttendMsg) : Bool :=
  decide (m.qFormat < 4) && decide (m.outFormat < 3) && decide (m.outMode < 3) && decide (m.layer < d.layers)
    && decide (m.kvhFirst < d.kvHeads) && decide (1 ≤ m.kvhCount) && decide (m.kvhFirst + m.kvhCount ≤ d.kvHeads)
    && (if AttendMsg.sliding m then decide (1 ≤ m.window) && decide (m.window ≤ 1048576) else decide (m.window = 0))
    && (AttendMsg.sliding m || decide (m.sinkTokens = 0)) && decide (m.sinkTokens < 65536)
    && (decide (m.scale = 0) || positiveFinite m.scale)
    && (if AttendMsg.capped m then positiveFinite m.softcap else decide (m.softcap = 0))
    && decide (1 ≤ m.segCount) && decide (m.segCount ≤ 1024) && decide (1 ≤ m.rowCount) && decide (m.rowCount ≤ 4096)
    && (AttendMsg.statsStore m || decide (m.statsVa = 0)) && (decide (m.outMode ≠ 2) || decide (m.outFormat = 2))

/-- R179: length of the body. -/
def attendLen (d : ModelDesc) (m : AttendMsg) : Nat :=
  64 + pad64 (8 * m.segCount) + pad64 (8 * m.rowCount) + m.rowCount * queryHeads d m * headDimOf d.headDimCode * codeSize m.qFormat

/-- R182: the row table is in segment order and leaves no segment without a row. -/
def rowOrder : Nat → List RowEntry → Option Nat
  | last, [] => some last
  | last, r :: rest => if r.segment = last ∨ r.segment = last + 1 then rowOrder r.segment rest else none

/-- R185 check 5: length and tables. -/
def layoutOk (d : ModelDesc) (m : AttendMsg) : Bool :=
  decide (m.bodyLen = attendLen d m) && decide (m.segs.length = m.segCount) && decide (m.rows.length = m.rowCount)
    && m.rows.all (fun r => decide (r.position < 1048576) && decide (r.segment < m.segCount))
    && (match m.rows with
      | [] => false
      | r :: rest => decide (r.segment = 0) && decide (rowOrder 0 rest = some (m.segCount - 1)))

/-- R185 check 1: the stream is an ATTEND stream of the arrival port. -/
def streamOnPort (s : Dev) (stream port : Nat) (c : SlotClass) : Bool :=
  match s.tt.running with
  | some t => t.slots.any fun e => decide (e.stream = stream) && decide (e.cls = c) && decide (e.port = port)
  | none => false

/-- R185 checks 2 to 6, with R70 before them. DEDUCED: log entry 48. -/
def attendCheck (s : Dev) (tenant : Nat) (m : AttendMsg) : Status :=
  if s.tt.absentService then St.iatVariantAbsent
  else if 16777216 < m.bodyLen then St.attLayout
  else
    match descOf s m.model with
    | none => St.attModelAbsent
    | some d =>
      if !modelLoaded s m.model then St.attModelAbsent
      else if !headerRange d m then St.attRange
      else if !layoutOk d m then St.attLayout
      else if AttendMsg.statsStore m && !statsTargetOk s tenant m.statsVa (4 * m.rowCount * queryHeads d m) then St.attStatsTarget
      else St.ok

/-! ## The segments (R187, R189) -/

/-- R187: the status of a segment, with the index of its sequence. -/
def segCheck (s : Dev) (tenant : Nat) (m : AttendMsg) (seg : Nat) (e : SegEntry) : Status × Nat :=
  match mget s.kvs.seqs (indexOf e.handle) with
  | none => (St.kvsBadHandle, 0)
  | some q =>
    let i := indexOf e.handle
    let len := layerLen q m.layer
    if q.handle ≠ e.handle then (St.kvsBadHandle, 0)
    else if q.tenant ≠ tenant then (St.kvsTenant, i)
    else if !ownsSeq s i then (St.parNotOwner, i)
    else if q.state = .lost then (St.kvsLost, i)
    else if q.state = .closing then (St.kvsState, i)
    else if q.model ≠ m.model then (St.attModelMismatch, i)
    else if !pairAllowed m.qFormat (formatCode q.format) then (St.attFormatPair, i)
    else if AttendMsg.requireFormat m && decide (codeSize (formatCode q.format) < codeSize m.qFormat) then (St.attFormatNarrower, i)
    else if len < e.keyLimit then (St.attKeyLimit, i)
    else if e.keyLimit = 0 ∧ AttendMsg.causal m ∧ (segRows m seg).any (fun r => decide (len ≤ r.2)) then (St.attPosition, i)
    else (St.ok, i)

/-- R189, R217: the pages of a segment as they stand. -/
def viewPages (s : Dev) (i layer : Nat) (idxs : List Nat) : List ViewPage :=
  match mget s.kvs.seqs i with
  | none => []
  | some q => idxs.filterMap fun idx =>
      match mget q.l3 (l3Key layer idx) with
      | none => none
      | some e => (mget s.kvs.pages e.page).map fun pg => { index := idx, page := e.page, toks := pg.toks, path := .resident }

/-- R187, R92, R189: one segment is checked; a sequence that is not SEATED is brought back; the view is fixed. DEDUCED: log entry 55. -/
def viewSegment (t : Time) (tenant : Nat) (m : AttendMsg) (seg : Nat) (e : SegEntry) (s : Dev) : SegView × Dev :=
  let (st, i) := segCheck s tenant m seg e
  let known := (mget s.kvs.seqs i).filter fun q => decide (q.handle = e.handle)
  let f := known.elim .bf16 (·.format)
  let fail (st : Status) : SegView :=
    { handle := e.handle, status := st, format := f, known := known.isSome, keyEnd := 0, widened := false, emptyRows := false,
      pages := [] }
  if st ≠ St.ok then (fail st, s)
  else
    match bringUp i (.seqAdminResume t .device tenant e.handle) s with
    | (.no st, s) => (fail st, s)
    | (_, s) =>
      match mget s.kvs.seqs i with
      | none => (fail St.kvsBadHandle, s)
      | some q =>
        let keyEnd := if e.keyLimit = 0 then layerLen q m.layer else e.keyLimit
        let rows := segRows m seg
        let pages := viewPages s i m.layer (visiblePages m (rows.map (·.2)) keyEnd)
        if pages.any fun p => s.tir.lostPages.contains ((mget s.kvs.pages p.page).elim 0 lossKey) then (fail St.tirPageLost, s)
        else
          let s := modSeq i (fun q => { q with lastFrame := s.tt.frame }) s
          ({ handle := e.handle, status := St.ok, format := q.format, known := true, keyEnd,
             widened := decide (codeSize (formatCode q.format) < codeSize m.qFormat),
             emptyRows := rows.any fun r => rowEmpty m r.2 keyEnd, pages }, s)

/-- R187: every segment in order. -/
def viewSegments (t : Time) (tenant : Nat) (m : AttendMsg) : Nat → List SegEntry → Dev → List SegView × Dev
  | _, [], s => ([], s)
  | n, e :: rest, s =>
    let (v, s) := viewSegment t tenant m n e s
    let (vs, s) := viewSegments t tenant m (n + 1) rest s
    (v :: vs, s)

/-- ATT_SEG_ERR_COUNT, ATT_WIDEN_COUNT and their status bits. -/
def countSegments (segs : List SegView) (s : Dev) : Dev :=
  forL segs (fun g s =>
    if g.status ≠ St.ok then count Reg.attSegErrCount { s with att.segError := true }
    else if g.widened then count Reg.attWidenCount { s with att.widened := true }
    else s) s

/-- R202: the charge of a request in 64 KiB units. DEDUCED: log entry 58. -/
def chargeOf (s : Dev) (d : ModelDesc) (m : AttendMsg) (segs : List SegView) : Nat :=
  let bytes := sumBy (fun g => sumBy (fun p => (mget s.kvs.pages p.page).elim 0 (·.page4k) * 4096) g.pages) segs
  ceilDiv (bytes * m.kvhCount) (d.kvHeads * 65536)

/-! ## How the request is served (R281 to R286) -/

/-- R281, R282: the stream's deadline record, BYPASS in the latency profile. -/
def deadlineOf (s : Dev) (stream : Nat) : DeadlineRec :=
  let r := mgetD s.tir.deadlines stream { policy := 0, runahead := false, execLeadNs := 0, tailNs := 0, runaheadLayers := 0 }
  if s.tt.profile = .latency then { r with policy := 0 } else r

/-- R283: one visible page with the time it is ready; none for a home in T1. -/
structure PageReady where
  page : Nat
  ready : Option Time
  held : Bool
  /-- R279: the projection of a read queued at the acceptance. -/
  bypass : Time
  deriving DecidableEq, Repr

/-- R283: ready times of the pages of a request, each read in its turn on its die. -/
def readyTimes : List (Nat × Time) → Dev → List PageReady
  | [], _ => []
  | (p, t0) :: rest, s =>
    match refetchSince s (.page p), t2Extent s p with
    | some since, _ => { page := p, ready := some (since + ms 2), held := true, bypass := since + ms 2 } :: readyTimes rest s
    | none, none => { page := p, ready := none, held := false, bypass := s.now } :: readyTimes rest s
    | none, some e =>
      let t := pageProjection s p e t0
      { page := p, ready := some t, held := false, bypass := pageProjection s p e s.now } :: readyTimes rest (project p e t s)

/-- R283: the latest of the ready times, and the acceptance. -/
def worstReady (now : Time) (l : List PageReady) : Time := l.foldl (fun w r => match r.ready with | some t => later w t | none => w) now

/-- R207, R283: how a request is served. -/
inductive Decision
  | serve
  | bypass (pages : List Nat)
  | late (cause : Status) (bound : Time) (pages : List Nat) (needBy : Time)
  | split (bound : Time) (pages : List Nat) (needBy : Time)
  deriving DecidableEq, Repr

/-- R283: the decision. -/
def decideServe (now : Time) (dl : DeadlineRec) (rs : Time) (l : List PageReady) : Decision :=
  let tNeed := rs - ns dl.execLeadNs
  let missing := l.filter fun r => match r.ready with | some t => serialLt tNeed t | none => false
  let worst := worstReady now l
  let bound := worst + ns dl.execLeadNs
  let pages := missing.map (·.page)
  if missing = [] then .serve
  else if missing.any (·.held) then .late St.tirRefetch bound ((missing.filter fun r => !r.held).map (·.page)) worst
  else if dl.policy = 0 then
    let tb := missing.foldl (fun w r => later w r.bypass) now
    if serialLe tb (rs - ns dl.tailNs) then .bypass pages else .late St.tirBypassLate bound pages worst
  else if dl.policy = 1 then .late St.tirPromoteLate bound pages worst
  else .split bound pages worst

/-- The view's pages of a request, each page once, with the time from which its read counts (R283). -/
def pagesWithStart (s : Dev) (segs : List SegView) : List (Nat × Time) :=
  let all := segs.flatMap fun g =>
    let seated := (mget s.kvs.seqs (indexOf g.handle)).any fun q => decide (q.state = .seated)
    g.pages.map fun p => (p.page, if seated then s.now else s.now + us s.t2BoundUs)
  all.foldl (fun l x => if l.any fun y => decide (y.1 = x.1) then l else l ++ [x]) []

/-- R286, R208: the pages listed take another path than the resident one. -/
def markPath (pages : List Nat) (path : PagePath) (segs : List SegView) : List SegView :=
  let mark (p : ViewPage) : ViewPage := if pages.contains p.page then { p with path } else p
  segs.map fun g => { g with pages := g.pages.map mark }

/-- R285: bypass reads of the pages listed. -/
def bypassReads (pages : List Nat) (s : Dev) : Dev :=
  forL pages (fun p s => match t2Extent s p with
    | some e => if mhas s.tir.proj p || (readInFlight s (.page p)).isSome then count Reg.tirBypassCount s
      else count Reg.tirBypassCount (addRead (.page p) e none s)
    | none => s) s

/-! ## Run-ahead (R280) -/

/-- R280: promotion of the T2 pages that a segment, or a member of the batch, would need on the layers to come. -/
def runAheadOne (m : AttendMsg) (dl : DeadlineRec) (d : ModelDesc) (starts : List Time) (i : Nat) (limit : Option Nat)
    (positions : Nat → List Nat) (s : Dev) : Dev :=
  match mget s.kvs.seqs i with
  | none => s
  | some q =>
    forL (List.range dl.runaheadLayers) (fun k s =>
      let l := (m.layer + k + 1) % max 1 d.layers
      let keyEnd := limit.getD (layerLen q l)
      let pages := (viewPages s i l (visiblePages m (positions (layerLen q l)) keyEnd)).map (·.page)
      promoteAll (pages.filter fun p => (t2Extent s p).isSome && !pageIsLost s p) (starts.getD k 0) s.now s) s

/-- R280: starts of the stream's ATTEND slots after `t`. -/
def laterSlots (s : Dev) (stream : Nat) : Nat → Time → List Time
  | 0, _ => []
  | n + 1, t =>
    match s.nextSlot stream .attend t with
    | some (f, e) => slotStart f.start e :: laterSlots s stream n (slotStart f.start e)
    | none => []

/-- R280: run-ahead for an accepted request: its segments, then the SEATED members of the stream's batch. -/
def runAhead (m : AttendMsg) (slotAt : Time) (segs : List SegView) (s : Dev) : Dev :=
  let dl := deadlineOf s m.stream
  match descOf s m.model with
  | none => s
  | some d =>
    if !dl.runahead then s
    else
      let starts := laterSlots s m.stream dl.runaheadLayers slotAt
      let s := forL (((List.range segs.length).zip segs).filter fun g => decide (g.2.status = St.ok)) (fun g s =>
        let limit := (m.segs[g.1]?).elim 0 (·.keyLimit)
        runAheadOne m dl d starts (indexOf g.2.handle) (if limit = 0 then none else some limit)
          (fun _ => (segRows m g.1).map (·.2)) s) s
      forL (s.tt.batch.filter fun b => decide (b.1 / 4096 = m.stream)) (fun b s =>
        match findSeq s b.2 with
        | some (i, q) =>
          if q.state = .seated ∧ q.model = m.model then runAheadOne m dl d starts i none (fun len => [len - 1]) s else s
        | none => s) s

/-! ## Acceptance -/

/-- R56: what an ATTEND slot of a frame has been charged so far. -/
def slotCharged (s : Dev) (f : Frame) (slot : Nat) : Nat × Nat :=
  let here := s.tt.charges.filter fun c => decide (c.frame = f) && decide (c.slot = slot)
  (sumBy (·.rows) here, sumBy (·.bytes) here)

/-- R59: the bound of a request over its slot's limits: the work already assigned to the stream's result slots, and its own
charge at the DRAM capacity rate. DEDUCED: log entry 58. -/
def overrunBound (s : Dev) (resStream charge : Nat) : Time :=
  let done := (s.tt.uses.filter fun u => decide (u.stream = resStream)).foldl (fun w u =>
    match (s.att.reqs.find? fun r => decide (r.1 = u.request)) with
    | some r => later w (if r.2.named.isSome then (r.2.named.map (·.start)).getD r.2.due.start else r.2.due.start)
    | none => w) s.now
  let rate := (capacity s.tt.profile .dram).1
  done + BitVec.ofNat 64 (ceilDiv (charge * 65536 * 16) rate)

/-- The slot that a request counts in (R54, R57), the slot in which it is answered (R53), and that slot's stream. -/
structure Place where
  frame : FrameRef
  entry : SlotEntry
  missed : Bool
  declared : SlotRef
  resStream : Nat

/-- R53, R54, R57, R375: the place of a request that arrived at `arr` and is visible now. One whose declared slot has begun before
it became visible counts in the next slot. -/
def placeOf (s : Dev) (stream : Nat) (arr : Time) : Option Place :=
  let build (f : FrameRef) (e : SlotEntry) (missed : Bool) : Option Place :=
    match s.declaredSlot f e with
    | some (d, r) => some { frame := f, entry := e, missed, declared := d, resStream := r.stream }
    | none =>
      match s.ttOfFrame f.frame with
      | some t => (t.resultOf e).map fun r =>
          { frame := f, entry := e, missed, resStream := r.stream,
            declared := { frame := f.frame + BitVec.ofNat 32 e.resultDframes, slot := r.slot,
                          start := f.start + BitVec.ofNat 64 (e.resultDframes * t.frameUnits) + ns r.startNs } }
      | none => none
  let next : Option Place :=
    match s.nextSlot stream .attend s.now with
    | some (f, e) => build f e true
    | none => none
  match s.slotHolding stream .attend arr with
  | some (f, e) =>
    (match build f e false with
    | some pl => if serialLt pl.declared.start s.now then next else some pl
    | none => none)
  | none => next

/-- R190: every page of the view is pinned. -/
def pinView (id : Nat) (segs : List SegView) (s : Dev) : Dev :=
  forL segs (fun g s => forL g.pages (fun p s => takePin (reqOp id) p.page s) s) s

/-- The request as it enters the table. -/
def newRequest (rq : Requester) (port tenant : Nat) (m : AttendMsg) (pl : Place) (now : Time) (refusal : Status) (charged : Nat)
    (segs : List SegView) : Request :=
  { rq, port, msg := m, arrived := now, timing := if pl.missed then St.iatSlotMissed else St.ok, refusal, declared := pl.declared,
    due := pl.declared, named := none, lateCount := 0, delays := [], run := [], charged, tenant, resStream := pl.resStream,
    maxRows := pl.entry.maxRows, segs, follow := none, slices := [], tree := [], finished := [], inFollowup := false,
    firstPart := [] }

/-- The request enters the table. -/
def addRequest (r : Request) (s : Dev) : Nat × Dev :=
  (s.att.nextReq, { s with att.reqs := mset s.att.reqs s.att.nextReq r, att.nextReq := s.att.nextReq + 1 })

/-- R208, R606: a request is split: its follow-up slot is the first free one after the bound; without one it is not split and is
answered in its declared slot. DEDUCED: log entry 58. -/
def splitRequest (id : Nat) (pages : List Nat) (bound : Time) (s : Dev) : Dev :=
  let s := modReq id (fun r => { r with segs := markPath pages .followup r.segs }) s
  match mget s.att.reqs id with
  | none => s
  | some r =>
    let rows := rowsDue { r with inFollowup := true }
    match s.freeSlot r.resStream rows bound with
    | some (f, e) =>
      let x : SlotRef := { frame := f.frame, slot := e.slot, start := slotStart f.start e }
      let s := addUse id r.resStream rows false x (modReq id (fun r => { r with follow := some x }) s)
      count Reg.attPartialCount { s with att.partialSet := true }
    | none => modReq id (fun r => { r with refusal := St.iatLateLimit, segs := [] }) s

/-- R283, R285: what the decision asks of the tiers and of the request. -/
def carryOut (id : Nat) (dec : Decision) (onTime : List Nat) (tNeed : Time) (s : Dev) : Dev :=
  match dec with
  | .serve => promoteAll onTime tNeed s.now s
  | .bypass pages =>
    let s := promoteAll (onTime.filter fun p => !pages.contains p) tNeed s.now s
    bypassReads pages (modReq id (fun r => { r with segs := markPath pages .bypass r.segs }) s)
  | .late cause bound pages needBy =>
    let s := promoteAll pages needBy s.now (promoteAll (onTime.filter fun p => !pages.contains p) tNeed s.now s)
    addDelay id { cause, bound } (modReq id (fun r => { r with segs := markPath pages .wait r.segs }) s)
  | .split bound pages needBy =>
    let s := promoteAll pages needBy s.now (promoteAll (onTime.filter fun p => !pages.contains p) tNeed s.now s)
    splitRequest id pages bound s

/-- R56, R190, R283: an accepted request: charged, pinned, decided, dispatched. -/
def acceptRequest (t arr : Time) (rq : Requester) (port tenant : Nat) (m : AttendMsg) (d : ModelDesc) (pl : Place) (s : Dev) : Dev :=
  let (segs, s) := viewSegments t tenant m 0 m.segs s
  let s := countSegments segs (count Reg.attReqCount s)
  let charge := chargeOf s d m segs
  let used := slotCharged s pl.frame.frame pl.entry.slot
  let fits := decide (used.1 + m.rowCount ≤ pl.entry.maxRows) && decide (used.2 + charge ≤ pl.entry.budgetQ)
  let dl := deadlineOf s m.stream
  let ready := readyTimes (pagesWithStart s segs) s
  let dec := decideServe s.now dl pl.declared.start ready
  let onTime := (ready.filter fun r => r.ready.isSome && !r.held).map (·.page)
  let bound := overrunBound s pl.resStream charge
  let (id, s) := addRequest (newRequest rq port tenant m pl arr St.ok charge segs) s
  let s := pinView id segs s
  let s := if fits then
      let c : SlotCharge := { frame := pl.frame.frame, slot := pl.entry.slot, rows := m.rowCount, bytes := charge }
      addUse id pl.resStream m.rowCount false pl.declared { s with tt.charges := s.tt.charges ++ [c] }
    else addDelay id { cause := St.iatBudget, bound := later bound pl.declared.start } s
  let s := carryOut id dec onTime (pl.declared.start - ns dl.execLeadNs) s
  runAhead m (slotStart pl.frame.start pl.entry) segs (dispatch id false s)

/-- R375: the request was held behind an earlier message of its channel. -/
def orderHold (id : Nat) (arr : Time) (s : Dev) : Dev := if serialLt arr s.now then delayed St.auvOrderHold id s else s

/-- R185, R186, R375: ATTEND, which arrived at `arr`. -/
def attendCmd (t arr : Time) (rq : Requester) (port : Nat) (m : AttendMsg) (s : Dev) : Dev :=
  let tenant := (tenantOf s rq).getD 0xFFFF
  if !streamOnPort s m.stream port .attend then
    reply rq St.attStream [] (count Reg.attRefuseCount { s with att.refused := true })
  else
    let st := attendCheck s tenant m
    let s := if st = St.ok ∨ st = St.iatVariantAbsent then s else count Reg.attRefuseCount { s with att.refused := true }
    match placeOf s m.stream arr, descOf s m.model with
    | none, _ =>
      let h : ResultHdr := {
        status := St.iatLateLimit, timing := St.iatSlotMissed, msgId := msgIdOf rq, segErrors := false, keysWidened := false,
        statsWritten := false, outMode := m.outMode, outFormat := m.outFormat, frame := s.tt.frame, slot := 0, rowCount := 0,
        kvhFirst := m.kvhFirst, kvhCount := m.kvhCount, layer := m.layer, follow := none, charged := 0 }
      sendTimed rq 0x05 tenant 64 (emit (.result rq port h [] []) s)
    | some pl, some d =>
      if st ≠ St.ok then (addRequest (newRequest rq port tenant m pl arr st 0 []) s).2
      else orderHold s.att.nextReq arr (acceptRequest t arr rq port tenant m d pl s)
    | some pl, none => (addRequest (newRequest rq port tenant m pl arr st 0 []) s).2

/-! ## The commands -/

/-- R185: ATTEND. -/
def execAttend (t : Time) (rq : Requester) (port : Nat) (m : AttendMsg) (s : State) : Host.Outcome State Fault Refusal :=
  run (service t fun s => attendCmd t s.now rq port m s) s

/-- R58: the answers due in a result slot that starts, in the order in which the requests arrived (R206). -/
def resultSlot (slot : Nat) (s : Dev) : Dev :=
  let due := s.att.reqs.filter fun r => decide (r.2.due.frame = s.tt.frame) && decide (r.2.due.slot = slot)
    && serialLe r.2.due.start s.now
  forL due (fun r s => answer r.1 s) s

/-- R58: a result slot starts. -/
def execResultSlotStart (t : Time) (slot : Nat) (s : State) : Host.Outcome State Fault Refusal :=
  run (service t (resultSlot slot)) s

end Sys2Proof.Machine
end

