-- ==== Sys2Proof/Machine/Cores.lean ====
section
/-! DEFINITION. The cores at work on a request (R216 to R238): tiles, the merge tree, residue mismatches, fences, spares and
stand-ins. -/

namespace Sys2Proof.Machine

/-! ## Which core runs a logical index (R16, R17, R220) -/

/-- R220: the present logical core that runs the slices of index `i`: itself, or its stand-in. -/
def standInCore (s : Dev) (i : Nat) : Option Nat :=
  let base := i / 32 * 32
  let other := 32 - base
  let own := (List.range 32).map fun k => base + (i - base + k) % 32
  (own ++ (List.range 32).map fun k => other + k).find? fun k => mhas s.att.lmap k

/-- R16: physical cores 0 to 33 lie in the east half. -/
def pcoreEast (p : Nat) : Bool := decide (p < 34)

/-- R17: the spare that takes a logical index: the lowest of the index's half, else the lowest of the other. -/
def spareFor (s : Dev) (lcore : Nat) : Option Nat :=
  let spares := (s.att.pcores.filter fun e => decide (e.2.state = .spare) &&
    !(s.att.takeovers.any fun t => decide (t.spare = e.1))).map (·.1)
  match spares.find? fun p => pcoreEast p == decide (lcore < 32) with
  | some p => some p
  | none => spares.head?

/-- The state with a physical core changed by `f`. -/
def modCore (p : Nat) (f : PCore → PCore) (s : Dev) : Dev := { s with att.pcores := mmod s.att.pcores p f }

/-! ## Restarting work (R235, R236) -/

/-- R221: a slice at its first page again. -/
def Slice.restart (x : Slice) : Slice :=
  { x with next := 0, states := x.states.map fun st => Soft.empty st.acc.length }

/-- R235, R236: the slices of a logical core that are not finished start again. -/
def restartSlices (lcore : Nat) (s : Dev) : Dev :=
  let again (x : Slice) : Slice := if x.core = lcore ∧ !x.done then x.restart else x
  { s with att.reqs := mmap s.att.reqs fun r => { r with slices := r.slices.map again } }

/-- R238: the requests with work left on a logical core are delayed. -/
def delayCoreWork (lcore : Nat) (cause : Status) (s : Dev) : Dev :=
  forL (s.att.reqs.filter fun r => r.2.slices.any fun x => decide (x.core = lcore) && !x.done) (fun r s => delayed cause r.1 s) s

/-- R236, R549: a logical index becomes absent; its stand-in takes its slices. -/
def indexAbsent (lcore : Nat) (s : Dev) : Dev :=
  let s := { s with
    att.lmap := mdel s.att.lmap lcore
    att.takeovers := s.att.takeovers.filter fun t => !decide (t.lcore = lcore) }
  let s := raise St.rasCoreAbsent deviceWide [lcore] s
  declareVariant (delayCoreWork lcore St.rasCoreAbsent (restartSlices lcore s))

/-- R235, R236: the next spare is chosen for a logical index, or the index becomes absent. -/
def substitute (lcore : Nat) (s : Dev) : Dev :=
  match spareFor s lcore with
  | some p =>
    let s := { s with
      att.takeovers := s.att.takeovers.filter (fun t => !decide (t.lcore = lcore)) ++ [{ lcore, spare := p, since := s.now }]
      att.lmap := mset s.att.lmap lcore p }
    needDomain (2 + p) s
  | none => indexAbsent lcore s

/-- R234, R237: a core is fenced; its power domain goes to OFF. -/
def fencePCore (p : Nat) (s : Dev) : Dev :=
  let s := count Reg.attFenceCount { s with att.fencedSet := true }
  let s := modCore p (fun c => { c with state := .fenced, lcore := 0 }) s
  let s := modDomain (2 + p) (fun d => { d with state := .off, target := 2, pendingOn := false, wakeHeld := none }) s
  let s := settle (2 + p) PowerWait.forOn St.pwrRefused 9 s
  settle (2 + p) PowerWait.forEntry St.pwrRefused 9 s

/-- R234, R235: the core that hosts a logical index is fenced: the index moves to a spare, its unfinished work starts again. -/
def fenceCore (p : Nat) (lcore : Nat) (s : Dev) : Dev :=
  let s := fencePCore p s
  if (spareFor s lcore).isSome then
    let s := raise St.rasCoreFenced deviceWide [lcore, p] s
    delayCoreWork lcore St.rasCoreFenced (restartSlices lcore (substitute lcore s))
  else indexAbsent lcore s

/-- R233, R234: a mismatch on the core that runs slices of logical index `i`: a first one is retried; a second within 1 s fences
the core. -/
def mismatchOn (i : Nat) (req : Nat) (s : Dev) : Dev :=
  match standInCore s i with
  | none => s
  | some l =>
    match mget s.att.lmap l with
    | none => s
    | some p =>
      let second := (mget s.att.pcores p).any fun c => c.lastMismatch.any fun t1 =>
        serialLe t1 s.now && decide (elapsed t1 s.now < 16000000000)
      let s := count Reg.attResidueCount s
      let s := modCore p (fun c => { c with mismatches := min 0xFFFF (c.mismatches + 1), lastMismatch := some s.now }) s
      if second then fenceCore p l s else delayed St.rasResidue req s

/-- R220, R235: no core runs the slices of a logical index now: none is present, or the spare has not taken it yet. -/
def notRunning (s : Dev) (i : Nat) : Bool :=
  match standInCore s i with
  | none => true
  | some l => s.att.takeovers.any fun t => decide (t.lcore = l)

/-- R235: 20 µs after a spare was chosen it takes the index, or it is fenced and the next one is tried. -/
def spareTakeover (lcore : Nat) (pass : Bool) (s : Dev) : Dev :=
  match s.att.takeovers.find? fun t => decide (t.lcore = lcore) with
  | none => s
  | some t =>
    if !past t.since (us 20) s.now then s
    else
      let s := { s with att.takeovers := s.att.takeovers.filter fun x => !decide (x.lcore = lcore) }
      if pass then
        let s := modCore t.spare (fun c => { c with state := .active, lcore }) s
        modDomain (2 + t.spare) (fun d => { d with state := .on, idleSince := s.now }) s
      else fenceCore t.spare lcore s

/-! ## Tiles and merges (R221, R224, R225) -/

/-- What a tile of a segment needs; none where the request or its model has gone. -/
def tileCtx (s : Dev) (r : Request) (seg : Nat) : Option (TileCtx × SegView) :=
  match descOf s r.msg.model, r.segs[seg]? with
  | some d, some g =>
    let scale := if r.msg.scale = 0 then defaultScale d.headDimCode else r.msg.scale
    some ({ m := r.msg, scale, hq := queryHeads d r.msg, dim := headDimOf d.headDimCode, group := d.g, keyEnd := g.keyEnd,
            format := formatCode g.format }, g)
  | _, _ => none

/-- R225, R229: the root of a pair's tree: its rows are finished, the nonfinite ones counted. -/
def finishRoot (id seg kvHead : Nat) (sts : List Soft) (s : Dev) : Dev :=
  match mget s.att.reqs id with
  | none => s
  | some r =>
    let (f, bad) := finishPair r.msg.outMode seg kvHead sts
    countBy Reg.attNonfiniteCount bad (modReq id (fun r => { r with finished := r.finished ++ [f] }) s)

/-- R224: a state of a pair's tree at a node: the root is finished, an odd last node passes up unchanged, any other waits for its
parent. -/
def placeState (id seg kvHead n core : Nat) (sts : List Soft) : Nat → Nat → Nat → Dev → Dev
  | 0, _, _, s => s
  | fuel + 1, level, index, s =>
    let w := levelWidth n level
    if w ≤ 1 then finishRoot id seg kvHead sts s
    else if index + 1 = w ∧ index % 2 = 0 then placeState id seg kvHead n core sts fuel (level + 1) (index / 2) s
    else modReq id (fun r => { r with tree := r.tree ++ [{ seg, kvHead, level, index, core, states := sts }] }) s

/-- R224: levels that a tree over `n` slices can have, and one more. -/
def treeFuel (n : Nat) : Nat := n + 2

/-- R221: the next page of a slice. -/
def runTile (id : Nat) (r : Request) (x : Slice) (s : Dev) : Dev :=
  match tileCtx s r x.seg with
  | none => s
  | some (c, g) =>
    let pages := partPages g r.inFollowup
    match x.ords[x.next]? with
    | none => s
    | some o =>
      let sts := match pages[o]? with
        | some p => tile c (segRows r.msg x.seg) x.kvHead p.index p.toks x.states
        | none => x.states
      let last := decide (x.next + 1 = x.ords.length)
      let step (y : Slice) : Slice := if y.g = x.g then { y with next := y.next + 1, states := sts, done := last } else y
      let s := modReq id (fun r => { r with slices := r.slices.map step }) s
      if last then queueNext x.core (placeState id x.seg x.kvHead x.nSlices x.core sts (treeFuel x.nSlices) 0 x.index s) else s

/-- R221, R233: a tile of a slice ends, with the outcome of its residue check. -/
def tileComplete (id g : Nat) (mismatch : Bool) (s : Dev) : Dev :=
  match mget s.att.reqs id with
  | none => s
  | some r =>
    match r.slices.find? fun x => decide (x.g = g) with
    | none => s
    | some x =>
      if x.done || !x.queued || notRunning s x.core then s
      else if mismatch then mismatchOn x.core id s
      else runTile id r x s

/-- R224: the state of a node of a pair's tree. -/
def treeNode (r : Request) (seg kvHead level index : Nat) : Option TreeNode :=
  r.tree.find? fun n => decide (n.seg = seg) && decide (n.kvHead = kvHead) && decide (n.level = level) && decide (n.index = index)

/-- R224, R233: a merge step of a pair's tree ends, with the outcome of its residue check. -/
def mergeStep (id seg kvHead level index : Nat) (mismatch : Bool) (s : Dev) : Dev :=
  match mget s.att.reqs id, level with
  | some r, below + 1 =>
    match treeNode r seg kvHead below (2 * index), treeNode r seg kvHead below (2 * index + 1),
        r.slices.find? (fun x => decide (x.seg = seg) && decide (x.kvHead = kvHead)) with
    | some a, some b, some x =>
      if notRunning s a.core then s
      else if mismatch then mismatchOn a.core id s
      else
        let sts := List.zipWith mergeState a.states b.states
        let s := modReq id (fun r => { r with tree := (r.tree.erase a).erase b }) s
        placeState id seg kvHead x.nSlices a.core sts (treeFuel x.nSlices) level index s
    | _, _, _ => s
  | _, _ => s

/-! ## The commands -/

/-- R221: a core finishes a tile. -/
def execTileComplete (t : Time) (req slice : Nat) (mismatch : Bool) (s : State) : Host.Outcome State Fault Refusal :=
  run (awake t (tileComplete req slice mismatch)) s

/-- R224: a merge step ends. -/
def execMergeStep (t : Time) (req seg kvHead level index : Nat) (mismatch : Bool) (s : State) :
    Host.Outcome State Fault Refusal := run (awake t (mergeStep req seg kvHead level index mismatch)) s

/-- R235: a spare's 20 µs are over. -/
def execSpareTakeover (t : Time) (lcore : Nat) (pass : Bool) (s : State) : Host.Outcome State Fault Refusal :=
  run (awake t (spareTakeover lcore pass)) s

end Sys2Proof.Machine
end

