-- ==== Sys2Proof/Machine/Waits.lean ====
section
/-! DEFINITION. What waits for a sequence (R92, R96, R98): held commands, requests for a seat, and the ends of parks, resumes and
closes. -/

namespace Sys2Proof.Machine

/-! ## Held commands -/

/-- R92, R98: a held command is taken up again. -/
def rerun (c : Instr) (s : Dev) : Dev :=
  match c with
  | .append t rq m => appendCmd t rq m none s
  | .seqAdminTruncate t rq tenant h len => truncateCmd t rq tenant h len s
  | .seqAdminClose t rq tenant h => closeCmd t rq tenant h s
  | .lookup t rq m _ => lookupCmd t rq m none s
  | .attach t rq m => attachCmd t rq m s
  | .promote t rq m => promoteCmd t rq m s
  | _ => s

/-- R92, R98: the held commands of a sequence, oldest first. -/
def runHeld (i : Nat) (s : Dev) : Dev :=
  match mget s.kvs.seqs i with
  | none => s
  | some q => forL q.held (fun h s => rerun h.cmd s) (modSeq i (fun q => { q with held := [] }) s)

/-! ## Waiting for a seat (R96) -/

/-- R96: the requests other than `w` that wait to resume the same sequence are answered. DEDUCED: log entry 54. -/
def answerResumes (handle : BitVec 32) (i : Nat) (s : Dev) : Dev :=
  let same := s.kvs.seatWaits.filter fun w => decide (handleOfCmd w.cmd = handle)
  forL same (fun w s =>
    let s := endWait w s
    match w.cmd with
    | .seqAdminResume _ rq _ _ => reply rq St.ok (seqFields s i) s
    | _ => s) s

/-- R96, R97: a seat has come free for a waiting request. -/
def grantWait (w : SeatWait) (s : Dev) : Dev :=
  let s := endWait w s
  match w.cmd with
  | .seqAdminOpen t rq tenant model format scope => openCmd t rq tenant model format scope s
  | c =>
    match findSeq s (handleOfCmd c) with
    | none => s
    | some (i, q) =>
      if q.state ≠ .parked then s
      else
        match c with
        | .seqAdminResume t (.auvas e n) tenant h => answerResumes h i (resumeCmd t (.auvas e n) tenant h s)
        | .seqAdminResume t (.ld p l) tenant h => answerResumes h i (resumeCmd t (.ld p l) tenant h s)
        | .seqAdminResume t .mctp tenant h => answerResumes h i (resumeCmd t .mctp tenant h s)
        | _ =>
          match seatFor s q.model q.prevSeat with
          | some k => answerResumes q.handle i (tell (.seqResume q.handle) (startResume i k s))
          | none => s

/-- R96: the seat that a wait would be given now. -/
def waitServed (s : Dev) (w : SeatWait) : Bool :=
  let (model, prev) := waitModel s w.cmd
  (seatFor s model prev).isSome

/-- R96: waiting requests take the seats that are free, first the one for which the seat was freed, then the oldest.
DEDUCED: log entry 54. -/
def serveWaits : Nat → Option Nat → Dev → Dev
  | 0, _, s => s
  | n + 1, victim, s =>
    let chosen : Option SeatWait := match victim with
      | some v => s.kvs.seatWaits.find? fun w => decide (w.victim = some v) && waitServed s w
      | none => none
    match chosen.orElse fun _ => s.kvs.seatWaits.find? (waitServed s) with
    | none => s
    | some w => serveWaits n victim (grantWait w s)

/-- R96: every waiting request that a free seat serves. -/
def serveAll (victim : Option Nat) (s : Dev) : Dev := serveWaits (s.kvs.seatWaits.length + 1) victim s

/-- R94: a sequence enters LOST: its held CLOSE takes effect, its seat serves who waits. -/
def loseSeq (i : Nat) (s : Dev) : Dev :=
  match mget s.kvs.seqs i with
  | none => s
  | some q =>
    if q.state = .closing ∨ q.state = .lost then s
    else serveAll none (runHeld i (dropWaits q.handle St.kvsLost (markLost i s)))

/-! ## The end of a park (R92, R267) -/

/-- R266: a move is complete: unpinned, counted, gone. -/
def finishMove (m : Move) (s : Dev) : Dev :=
  let s := dropPins (moveOp m.id) { s with tir.moves := s.tir.moves.filter fun x => !decide (x.id = m.id) }
  let s := match m.datum with
    | .page p => { s with tir.proj := mdel s.tir.proj p }
    | _ => s
  match m.kind with
  | .promotion => count Reg.tirPromoteCount s
  | .demotion => count Reg.tirDemoteCount s
  | _ => s

/-- R267: the datum's copy in T2, when it is not there yet; none where no band takes it. -/
def saveToT2 (d : Datum) (s : Dev) : Option Dev :=
  match homeOf s d with
  | some (.t2 _) => some s
  | _ =>
    let s := cancelMoves d s
    match t2Home d s with
    | some (h, s) => some (switchHome d h s)
    | none => none

/-- R92: a park whose moves are complete: the tables are saved, the extents filled, the seat freed. -/
def parkComplete (i : Nat) (s : Dev) : Dev :=
  match mget s.kvs.seqs i with
  | none => s
  | some q =>
    let isPage (d : Datum) : Bool := match d with | .page _ => true | _ => false
    let busy := (movesOf s i .park).any fun m => isPage m.datum && !decide (m.state = .switching)
    if q.state ≠ .parking ∨ busy then s
    else
      match saveToT2 (.pendingArea i) s with
      | none => noFreeBand s
      | some s1 =>
        match saveToT2 (.tables i) s1 with
        | none => noFreeBand s1
        | some s2 =>
          let s3 := forL (movesOf s2 i .park) finishMove s2
          serveAll (some i) (modSeq i (fun q => refreshCold { q with state := .parked, evictedFor := none }) (freeSeat i s3))

/-! ## The end of a resume (R92) -/

/-- R92, R269: an open page of a sequence comes into a new staging slot. -/
def pageToStaging (i p : Nat) (s : Dev) : Dev :=
  match mget s.kvs.pages p with
  | none => s
  | some pg =>
    let (k, s) := stagingTake pg.page4k s
    modOpen i pg.layer (fun e => { e with slot := some k }) (switchHome (.page p) (.staging k) s)

/-- A datum of a sequence comes back into a new T1 home. -/
def backToT1 (d : Datum) (s : Dev) : Dev :=
  match homeOf s d with
  | some (.t2 _) => (match t1Home d (poolsOf s d) s with
    | some (h, s) => switchHome d h s
    | none => s)
  | _ => s

/-- Open pages of a sequence that lie in T2. -/
def openInT2 (s : Dev) (q : Seq) : List (Nat × Page) :=
  q.l3.filterMap fun e => match mget s.kvs.pages e.2.page with
    | some pg => if decide (pg.state = .opened) && !pg.home.inT1 then some (e.2.page, pg) else none
    | none => none

/-- R92: the tables, token log, pending area and open pages are in T1: the sequence is SEATED. Open pages wait for staging
slots. DEDUCED: log entry 59. -/
def resumeComplete (i : Nat) (s : Dev) : Dev :=
  match mget s.kvs.seqs i with
  | none => s
  | some q =>
    let open2 := openInT2 s q
    if q.state ≠ .resuming ∨ !stagingFits s (sumBy (fun e => e.2.page4k) open2) then s
    else
      let s := { s with fls.reads := s.fls.reads.filter fun r => !(r.move.isNone && decide (seqOfDatum s r.datum = some i)
        && (match r.datum with | .page p => open2.any (fun e => decide (e.1 = p)) | _ => true)) }
      let s := forL open2 (fun e s => pageToStaging i e.1 s) s
      let s := backToT1 (.tables i) (backToT1 (.pendingArea i) s)
      runHeld i (modSeq i (fun q => { q with state := .seated }) s)

/-! ## Timeouts (R96, R98) -/

/-- R98: the command is held for at most 200 µs. -/
def Held.limited (h : Held) : Bool :=
  match h.cmd with
  | .append _ _ _ => true
  | .seqAdminTruncate _ _ _ _ _ => true
  | _ => false

/-- R98: the device seeks a seat for the commands still held, or for none. -/
def passWait (handle : BitVec 32) (left : List Held) (gone : List Held) (s : Dev) : Dev :=
  match s.kvs.seatWaits.find? fun w => decide (handleOfCmd w.cmd = handle) && gone.any (fun h => decide (h.cmd = w.cmd)) with
  | none => s
  | some w =>
    match left with
    | h :: _ =>
      let pass (x : SeatWait) : SeatWait := if x.id = w.id then { x with cmd := h.cmd } else x
      { s with kvs.seatWaits := s.kvs.seatWaits.map pass }
    | [] => endWait w s

/-- R98: held commands that have waited 200 µs are refused. -/
def holdTimeout (i : Nat) (s : Dev) : Dev :=
  match mget s.kvs.seqs i with
  | none => s
  | some q =>
    let overdue (h : Held) : Bool := h.limited && past h.since (us 200) s.now
    let gone := q.held.filter overdue
    let left := q.held.filter fun h => !overdue h
    let s := passWait q.handle left gone (modSeq i (fun q => { q with held := left }) s)
    forL gone (fun h s => refuse (requesterOf h.cmd) St.kvsResuming s) s

/-- R96: no park has freed a seat within 5 ms of the first choice. DEDUCED: log entry 54. -/
def evictionTimeout (id : Nat) (s : Dev) : Dev :=
  match s.kvs.seatWaits.find? fun w => decide (w.id = id) with
  | none => s
  | some w =>
    if !past w.since (ms 5) s.now then s else refuseWait w s

/-! ## The commands -/

/-- R267: a park is complete. -/
def execParkComplete (t : Time) (index : Nat) (s : State) : Host.Outcome State Fault Refusal := run (awake t (parkComplete index)) s

/-- R92: a resume is complete. -/
def execResumeComplete (t : Time) (index : Nat) (s : State) : Host.Outcome State Fault Refusal :=
  run (awake t (resumeComplete index)) s

/-- R85: every reference of a CLOSING sequence is dropped. -/
def execCloseComplete (t : Time) (index : Nat) (s : State) : Host.Outcome State Fault Refusal :=
  run (awake t (fun s => serveAll none (closeComplete index s))) s

/-- R98: a held APPEND or TRUNCATE has waited 200 µs. -/
def execAppendHoldTimeout (t : Time) (index : Nat) (s : State) : Host.Outcome State Fault Refusal :=
  run (awake t (holdTimeout index)) s

/-- R96: a request has waited 5 ms for a seat. -/
def execEvictionParkTimeout (t : Time) (wait : Nat) (s : State) : Host.Outcome State Fault Refusal :=
  run (awake t (evictionTimeout wait)) s

end Sys2Proof.Machine
end

