-- ==== Sys2Proof/Machine/Loss.lean ====
section
/-! DEFINITION. Uncorrectable reads (R301 to R303, R546, R553): the refetch from the partner, and the loss of a datum. -/

namespace Sys2Proof.Machine

/-! ## Dependents (R301) -/

/-- R301: the work of segment `i` of a request, whose view is `g`, is not finished. -/
def unfinished (r : Request) (i : Nat) (g : SegView) : Bool :=
  decide (g.status = St.ok) &&
    !((coveredHeads r.msg).all fun h => r.finished.any fun f => decide (f.seg = i) && decide (f.kvHead = h))

/-- R301: accepted requests that depend on a page: it is in the view of a segment whose work is not finished. -/
def dependsOn (r : Request) (p : Nat) : Bool :=
  ((List.range r.segs.length).zip r.segs).any fun g => unfinished r g.1 g.2 && g.2.pages.any (fun v => decide (v.page = p))

/-- R283: a request waits for the resume of a sequence. -/
def waitsFor (s : Dev) (i : Nat) (r : Request) : Bool :=
  ((mget s.kvs.seqs i).any fun q => decide (q.state = .resuming)) &&
    ((List.range r.segs.length).zip r.segs).any fun g => unfinished r g.1 g.2 && decide (indexOf g.2.handle = i)

/-- The requests that depend on a datum. -/
def dependents (s : Dev) (d : Datum) : List Nat :=
  match d with
  | .page p => (s.att.reqs.filter fun r => dependsOn r.2 p).map (·.1)
  | .pendingArea i => (s.att.reqs.filter fun r => waitsFor s i r.2).map (·.1)
  | .tables i => (s.att.reqs.filter fun r => waitsFor s i r.2).map (·.1)
  | .block _ _ => []

/-- Every request that depends on a datum is delayed to `bound`, and by its stream's lead. -/
def delayDependents (d : Datum) (cause : Status) (bound : Time) (s : Dev) : Dev :=
  forL (dependents s d) (fun id s =>
    match mget s.att.reqs id with
    | some r => addDelay id { cause, bound := bound + ns (deadlineOf s r.msg.stream).execLeadNs } s
    | none => s) s

/-! ## The refetch (R301) -/

/-- R301: the partner holds a committed mirror copy that can be fetched over `PAIR`. -/
def hasMirror (s : Dev) (d : Datum) : Bool :=
  decide (s.par.state = .paired) && (match d with
    | .page p => (mget s.kvs.pages p).any fun pg => pg.mirrored || (decide (pg.state = .opened) && decide (pg.mirror = .m2))
    | .block obj i => (mget s.tir.objs obj).any fun o => decide (o.state = .sealed) && o.mirrored.contains i
    | _ => false)

/-- R301: the copy is fetched; what depends on the datum waits. DEDUCED: log entry 59. -/
def startRefetch (d : Datum) (s : Dev) : Dev :=
  if s.tir.refetches.any fun r => decide (r.datum = d) then s
  else
    let s := cancelMoves d s
    let s := emit (.mirrorFetch d) { s with tir.refetches := s.tir.refetches ++ [{ datum := d, since := s.now }] }
    delayDependents d St.tirRefetch (s.now + ms 2) (count Reg.tirRefetchCount s)

/-! ## Loss (R302, R303, R546, R553) -/

/-- R302: an object with a lost block is LOST; the block has no home any more. -/
def loseBlock (obj i : Nat) (s : Dev) : Dev :=
  match mget s.tir.objs obj with
  | none => s
  | some o =>
    if o.state = .deleting ∨ !mhas o.blocks i then s
    else
      let s := match mget o.blocks i with
        | some h => freeHome h s
        | none => s
      let lost : Obj := { o with state := .lost, lostBlocks := o.lostBlocks + 1, blocks := mdel o.blocks i }
      let s := { s with
        tir.objs := mset s.tir.objs obj lost
        tir.objectLost := true }
      raise St.tirObjectLost o.tenant [obj] (tell (.objLost obj (o.lostBlocks + 1)) s)

/-- R303: a lost page is listed under its key, or counted as unlisted when the table is full. -/
def listLost (p : Nat) (key : BitVec 64) (s : Dev) : Dev :=
  if s.tir.lostPages.contains key then s
  else if s.tir.lostPages.length < 65536 then { s with tir.lostPages := s.tir.lostPages ++ [key] }
  else
    raiseDev St.tirLostTableFull { s with
      tir.lostFull := true
      tir.lostUnlisted := s.tir.lostUnlisted.filter (fun x => !decide (x = p)) ++ [p] }

/-- R302: the tenant that an event about a page concerns. -/
def pageTenant (pg : Page) : Nat := if pg.owner.isSome then pg.tenant else deviceWide

/-- R302, R303: a sealed page is lost. -/
def loseSealed (p : Nat) (pg : Page) (s : Dev) : Dev :=
  let key := lossKey pg
  let s := listLost p key (cancelMoves (.page p) s)
  let s := raise St.tirPageLost (pageTenant pg) [key.toNat] { s with tir.pageLost := true }
  let s := if s.tir.lostPages.contains key then tell (.lostPage key) s else s
  failSegments (fun g => g.pages.any fun v => decide (v.page = p)) St.tirPageLost s

/-- R302, R546: an open page is lost: its sequence is cut below it. DEDUCED: log entry 59. -/
def loseOpen (p : Nat) (pg : Page) (s : Dev) : Dev :=
  match pg.owner with
  | none => s
  | some i =>
    match mget s.kvs.seqs i with
    | none => s
    | some q =>
      let s := failSegments (fun g => g.pages.any fun v => decide (v.page = p)) St.tirPageLost s
      let len := min q.length (16 * pg.index)
      tell (.seqTruncate q.handle len) (truncateSeq i len s)

/-- R546, R553: a pending area, token log or translation table is lost, with the sequence; a loss in T2 is reported. -/
def loseTables (i : Nat) (fromT2 : Bool) (s : Dev) : Dev :=
  match mget s.kvs.seqs i with
  | none => s
  | some q =>
    let s := if fromT2 then
        raise St.tirPageLost q.tenant [2 ^ 56 + i * 2 ^ 32] { s with tir.pageLost := true }
      else s
    tell (.seqLost q.handle) (loseSeq i s)

/-- R302: the datum is lost. -/
def loseDatum (d : Datum) (s : Dev) : Dev :=
  match d with
  | .block obj i => loseBlock obj i (cancelMoves d s)
  | .pendingArea i => loseTables i ((homeOf s d).any fun h => !h.inT1) s
  | .tables i => loseTables i ((homeOf s d).any fun h => !h.inT1) s
  | .page p =>
    match mget s.kvs.pages p with
    | none => s
    | some pg => if pg.state = .opened then loseOpen p pg s else loseSealed p pg s

/-- R301, R302, R546, R553: an uncorrectable read of a datum's home. -/
def uncorrectable (d : Datum) (s : Dev) : Dev :=
  if hasMirror s d then startRefetch d s else loseDatum d s

/-! ## The answer of the partner -/

/-- R302: a refetch ends. -/
def endRefetch (d : Datum) (s : Dev) : Dev := { s with tir.refetches := s.tir.refetches.filter fun r => !decide (r.datum = d) }

/-- R302: the copy has not arrived within 2 ms. -/
def refetchTimeout (d : Datum) (s : Dev) : Dev :=
  match refetchSince s d with
  | none => s
  | some since => if past since (ms 2) s.now then loseDatum d (endRefetch d s) else s

/-- R302: the partner is lost: every refetch in progress fails. -/
def failRefetches (s : Dev) : Dev := forL s.tir.refetches (fun r s => loseDatum r.datum (endRefetch r.datum s)) s

/-- R302: a refetch has not arrived in time. -/
def execRefetchTimeout (t : Time) (d : Datum) (s : State) : Host.Outcome State Fault Refusal :=
  run (awake t (refetchTimeout d)) s

end Sys2Proof.Machine
end

