-- ==== Sys2Proof/Machine/Movement.lean ====
section
/-! DEFINITION. Moves between the tiers (R257 to R267, R278): their start, the home switch with its drain, allocations that wait,
heat, demotion and compaction. -/

namespace Sys2Proof.Machine

/-! ## Demotion and compaction (R257, R258, R260) -/

/-- R257, R258: what a T1 home holds, when it can be a victim: an unpinned sealed page, or a block of a SEALED object that is not
resident and is not being read, with no move of it. -/
def victimAt (s : Dev) (pool : Nat) (addr : Nat) : Option Datum :=
  if (mget s.tir.t1Homes addr).any (fun e => decide (e.2 = pool)) then
    match s.kvs.pages.find? fun e => decide (e.2.home = .t1 addr) with
    | some (p, pg) =>
      if pg.state = .sealed ∧ pinCount s p = 0 ∧ !(s.tir.moves.any fun m => decide (m.datum = .page p)) then some (.page p) else none
    | none =>
      s.tir.objs.findSome? fun o =>
        if o.2.state = .sealed ∧ !o.2.resident ∧ o.2.readers = 0 then
          (o.2.blocks.find? fun b => decide (b.2 = .t1 addr)).bind fun b =>
            let d := Datum.block o.1 b.1
            if s.tir.moves.any fun m => decide (m.datum = d) then none else some d
        else none
  else none

/-- R258: the next home that demotion takes: the greatest age, the lower address on a tie. DEDUCED: log entry 59. -/
def demotionVictim (s : Dev) : Option Datum :=
  let able := s.tir.heat.filterMap fun e => (victimAt s coldPoolKey e.1).map fun d => (e.1, e.2, d)
  (firstBy (fun a b => decide (b.2.1 < a.2.1) || (decide (a.2.1 = b.2.1) && decide (a.1 < b.1))) able).map (·.2.2)

/-- R258: bytes of the cold pool that demotions in progress will free. -/
def demotingBytes (s : Dev) : Nat :=
  sumBy (fun m => if m.kind = .demotion then (match homeOf s m.datum with
    | some (.t1 a) => (mget s.tir.t1Homes a).elim 0 (·.1)
    | _ => 0) else 0) s.tir.moves

/-- R258: demotions are queued while the cold pool is to fall to its low mark, `fuel` at most. -/
def queueDemotions : Nat → Dev → Dev
  | 0, s => s
  | n + 1, s =>
    if (s.tir.coldUsed - demotingBytes s) * 100 ≤ s.coldLwmPct * s.tir.coldPool then s
    else
      match demotionVictim s with
      | some d => queueDemotions n (queueMove d .demotion 0 s)
      | none => s

/-- R258: demotion starts at the high mark and stops at the low mark. -/
def demotion (s : Dev) : Dev :=
  let run := if s.tir.demoting then decide (s.coldLwmPct * s.tir.coldPool < s.tir.coldUsed * 100)
    else decide (s.coldHwmPct * s.tir.coldPool ≤ s.tir.coldUsed * 100) && decide (0 < s.tir.coldPool)
  let s := { s with tir.demoting := run }
  if run then queueDemotions s.tir.heat.length s else s

/-- R260: in the density profile every cold home of a reserve share is to be moved into the cold pool. -/
def compact (s : Dev) : Dev :=
  if s.tt.profile = .density then
    forL (s.tir.heat.filter fun e => decide (s.coldK ≤ e.2)) (fun e s =>
      match mget s.tir.t1Homes e.1 with
      | some (_, pool) =>
        if pool = coldPoolKey ∨ pool = weightPoolKey then s
        else (match victimAt s pool e.1 with
          | some d => queueMove d .compaction 0 s
          | none => s)
      | none => s) s
  else s

/-- R257: 1,024 frames have passed: every age increments. -/
def heatTick (s : Dev) : Dev :=
  if (s.tt.frame - s.tir.heatFrame).toNat < 1024 then s
  else compact (demotion { s with tir.heat := mmap s.tir.heat (fun a => min 15 (a + 1)), tir.heatFrame := s.tt.frame })

/-! ## Destinations (R256, R259, R269, R329) -/

/-- R329, R331: a new place for an extent: in the relocation log of its group, unchanged in form; a degraded group opens no band,
so its extents go where new data would. -/
def relocExtent (d : Datum) (e : Extent) (s : Dev) : Option (Extent × Dev) :=
  if s.fls.degraded.contains (bandOfUnit e.unit / 4096) then t2Take d e.codec e.len4k s
  else (appendExtent (bandOfUnit e.unit / 4096) true e.len4k (kindOf s d) (some d) s).map fun x =>
    ({ unit := x.1, len4k := e.len4k, codec := e.codec }, x.2)

/-- R268, R329: the extents of a saved-table set, those in a band being emptied at new places. -/
def relocSet (d : Datum) : List Extent → Dev → Option (List Extent × Dev)
  | [], s => some ([], s)
  | e :: rest, s =>
    let first : Option (Extent × Dev) :=
      if (s.band (bandOfUnit e.unit)).state = .compacting then relocExtent d e s else some (e, s)
    match first with
    | none => none
    | some (x, s) => (relocSet d rest s).map fun r => (x :: r.1, r.2)

/-- R329: the destination of a relocation; that of a saved-table set writes its index anew with the extents that move. -/
def relocHome (d : Datum) (s : Dev) : Option (Home × Dev) :=
  match homeOf s d with
  | some (.t2 e) =>
    match d with
    | .tables i =>
      (match relocSet d ((mget s.kvs.seqs i).elim [] (·.ptSet)) s with
      | none => none
      | some (set, s) => (relocExtent d e s).map fun x => (.t2 x.1, modSeq i (fun q => { q with ptNext := set }) x.2))
    | _ => (relocExtent d e s).map fun x => (.t2 x.1, x.2)
  | _ => none

/-- R256, R269: a destination in T1: a staging slot for an open page, a home from the datum's pools otherwise. -/
def intoT1 (d : Datum) (pools : List Nat) (s : Dev) : Option (Home × Dev) :=
  match d with
  | .page p =>
    match mget s.kvs.pages p with
    | none => none
    | some pg =>
      if pg.state = .opened then
        if stagingFits s pg.page4k then let (k, s) := stagingTake pg.page4k s; some (.staging k, s) else none
      else t1Home d pools s
  | _ => t1Home d pools s

/-- The destination of a move. -/
def destination (m : Move) (s : Dev) : Option (Home × Dev) :=
  match m.kind with
  | .demotion => t2Home m.datum s
  | .park => t2Home m.datum s
  | .relocation => relocHome m.datum s
  | .compaction => t1Home m.datum [coldPoolKey] s
  | _ => intoT1 m.datum (poolsOf s m.datum) s

/-- The move's destination lies in T2. -/
def MoveKind.toT2 : MoveKind → Bool
  | .demotion => true | .park => true | .relocation => true | _ => false

/-! ## The start of a move (R266) -/

/-- R266, R267, R277: nothing that goes before this move is still queued: for a park an earlier move of the same sequence, for a
promotion one with an earlier need_by that waits for nothing. DEDUCED: log entry 59. -/
def mayStart (s : Dev) (m : Move) : Bool :=
  let waits (x : Move) : Bool := s.tir.allocWaits.any (fun w => decide (w.move = x.id)) ||
    s.pfx.pinWaits.any (fun w => decide (w.op = moveOp x.id))
  let before (x : Move) : Bool :=
    if x.needBy = m.needBy then decide (x.order < m.order) else decide (earlier x.needBy m.needBy = x.needBy)
  match m.kind with
  | .park => !(s.tir.moves.any fun x => decide (x.kind = .park) && decide (x.state = .queued) && decide (x.order < m.order)
      && decide (seqOfDatum s x.datum = seqOfDatum s m.datum))
  | .promotion => !(s.tir.moves.any fun x => decide (x.kind = .promotion) && decide (x.state = .queued) && !waits x && before x)
  | _ => true

/-- R279, R322: the reads that a copy out of T2 needs. -/
def moveReads (m : Move) (s : Dev) : Dev :=
  match homeOf s m.datum with
  | some (.t2 e) =>
    let set := match m.datum with
      | .tables i => (mget s.kvs.seqs i).elim [] (·.ptSet)
      | _ => []
    let proj := match m.datum with
      | .page p => mget s.tir.proj p
      | _ => none
    match proj with
    | some t =>
      { s with
        fls.reads := s.fls.reads ++ [{ id := s.fls.nextRead, unit := e.unit, len := e.len4k, move := some m.id, datum := m.datum,
                                       projection := t, step := 0 }]
        fls.nextRead := s.fls.nextRead + 1 }
    | none => forL (e :: set) (fun x s => addRead m.datum x (some m.id) s) s
  | _ => s

/-- R266: the move's source is pinned: a page by a pin, any other datum as it stands. -/
def sourcePinned (s : Dev) (m : Move) : Bool :=
  match m.datum with
  | .page p => s.pfx.pinOps.any fun h => decide (h.op = moveOp m.id) && decide (h.page = p)
  | _ => true

/-- R266: the source is pinned, or waits for its pin. -/
def pinSource (m : Move) (s : Dev) : Dev :=
  match m.datum with
  | .page p =>
    if sourcePinned s m || s.pfx.pinWaits.any (fun w => decide (w.op = moveOp m.id)) then s else takePin (moveOp m.id) p s
  | _ => s

/-- R259: the allocation of a move waits for demotion. -/
def waitAlloc (m : Move) (s : Dev) : Dev :=
  if s.tir.allocWaits.any fun w => decide (w.move = m.id) then s
  else demotion { s with tir.allocWaits := s.tir.allocWaits ++ [{ move := m.id, since := s.now }] }

/-- R266: a queued move whose source is pinned and whose destination is allocated begins copying. -/
def beginCopy (m : Move) (s : Dev) : Dev :=
  match destination m s with
  | none => if m.kind.toT2 then noFreeBand s else waitAlloc m s
  | some (h, s) =>
    let s := { s with tir.allocWaits := s.tir.allocWaits.filter fun w => !decide (w.move = m.id) }
    demotion (moveReads m (modMove m.id (fun m => { m with state := .copying, dest := some h }) s))

/-- R329: an extent of the datum lies in a band that is being emptied. -/
def needsReloc (s : Dev) (d : Datum) : Bool :=
  let inside (e : Extent) : Bool := decide ((s.band (bandOfUnit e.unit)).state = .compacting)
  let set := match d with
    | .tables i => (mget s.kvs.seqs i).elim [] (·.ptSet)
    | _ => []
  match homeOf s d with
  | some (.t2 e) => (e :: set).any inside
  | _ => false

/-- R266: the move starts; a relocation whose extent is stale is skipped (R329). -/
def moveStart (id : Nat) (s : Dev) : Dev :=
  match s.tir.moves.find? fun m => decide (m.id = id) with
  | none => s
  | some m =>
    if m.state ≠ .queued ∨ !mayStart s m then s
    else if m.kind = .relocation ∧ !needsReloc s m.datum then cancelMove m s
    else
      let s := pinSource m s
      if sourcePinned s m then beginCopy m s else s

/-! ## The switch (R263, R264) -/

/-- R263: drain-table entries. -/
def drainEntries : Nat := 16384

/-- R263: the home is switched; pin grants stay held until the switch is complete. -/
def doSwitch (m : Move) (h : Home) (s : Dev) : Dev :=
  let s := switchHome m.datum h s
  let s := match m.datum, h with
    | .page p, .staging k => (match mget s.kvs.pages p with
      | some pg => (match pg.owner with
        | some i => if pg.state = .opened then modOpen i pg.layer (fun e => { e with slot := some k }) s else s
        | none => s)
      | none => s)
    | _, _ => s
  modMove m.id (fun m => { m with state := .switching, dest := none, drainWait := none, grantHold := some s.now }) s

/-- R263, R264: the destination is written: the switch runs, or waits for a drain entry. -/
def trySwitch (m : Move) (h : Home) (s : Dev) : Dev :=
  if s.tir.drains.length < drainEntries then doSwitch m h s
  else modMove m.id (fun x => { x with drainWait := some (x.drainWait.getD s.now) }) s

/-- R319: every extent of a T2 destination has been reported good. -/
def destGood (s : Dev) (m : Move) (h : Home) : Bool :=
  match h with
  | .t2 e =>
    extentGood s e.unit && (match m.datum with
      | .tables i => (mget s.kvs.seqs i).all fun q => (q.ptSet ++ q.ptNext).all fun x => extentGood s x.unit
      | _ => true)
  | _ => true

/-- R266, R275: a move has copied its datum, or its source was uncorrectable. -/
def copyComplete (id : Nat) (sourceOk : Bool) (s : Dev) : Dev :=
  match s.tir.moves.find? fun m => decide (m.id = id) with
  | none => s
  | some m =>
    match m.state, m.dest with
    | .copying, some h =>
      if !sourceOk then uncorrectable m.datum (cancelMove m s)
      else if (s.fls.reads.any fun r => decide (r.move = some m.id)) || !destGood s m h || m.drainWait.isSome then s
      else trySwitch m h s
    | _, _ => s

/-- R263, R269: the grants are released and the switch is complete; with the last move back to T1 the held commands are taken
up. DEDUCED: log entry 59. -/
def grantHoldTimeout (id : Nat) (s : Dev) : Dev :=
  match s.tir.moves.find? fun m => decide (m.id = id) with
  | none => s
  | some m =>
    match m.state, m.grantHold with
    | .switching, some since =>
      if !past since (us 1) s.now then s
      else
        let s := demotion (finishMove m s)
        match m.kind, seqOfDatum s m.datum with
        | .abortReturn, some i =>
          if !returning s i && (mget s.kvs.seqs i).any (fun q => decide (q.state = .seated)) then runHeld i s else s
        | _, _ => s
    | _, _ => s

/-- R263, R264: a drained location is free again, and a switch that waits for an entry runs. -/
def drainFree (d : Datum) (s : Dev) : Dev :=
  match s.tir.drains.find? fun e => decide (e.datum = d) && decide (e.count = 0) && serialLe (e.frame + 2) s.tt.frame with
  | none => s
  | some e =>
    if s.ras.reclaimHalted then s
    else
      let s := freeHome e.old { s with tir.drains := s.tir.drains.erase e }
      match s.tir.moves.find? fun m => m.drainWait.isSome && decide (m.state = .copying) with
      | some m => (match m.dest with
        | some h => trySwitch m h s
        | none => s)
      | none => s

/-- R264: a switch has waited 1 ms for a drain entry: the move gives its destination back and is queued again. -/
def drainWaitTimeout (id : Nat) (s : Dev) : Dev :=
  match s.tir.moves.find? fun m => decide (m.id = id) with
  | none => s
  | some m =>
    match m.drainWait, m.dest with
    | some since, some h =>
      if !past since (ms 1) s.now then s
      else
        let s := dropPins (moveOp id) (freeHome h s)
        modMove id (fun m => { m with state := .queued, dest := none, drainWait := none }) s
    | _, _ => s

/-! ## Allocations that wait (R259) -/

/-- R301: a fetched copy lands in its new T1 home, or waits for one. -/
def landRefetch (m : Move) (s : Dev) : Dev :=
  match intoT1 m.datum (poolsOf s m.datum) s with
  | none => waitAlloc m s
  | some (h, s) =>
    let s := { s with
      tir.allocWaits := s.tir.allocWaits.filter fun w => !decide (w.move = m.id)
      tir.lostUnlisted := s.tir.lostUnlisted.filter fun p => !decide (m.datum = .page p) }
    demotion (trySwitch m h (modMove m.id (fun m => { m with state := .copying, dest := some h }) s))

/-- R259: an allocation that waited is granted. -/
def allocGranted (id : Nat) (s : Dev) : Dev :=
  match s.tir.moves.find? fun m => decide (m.id = id) with
  | none => s
  | some m =>
    if (s.tir.allocWaits.any fun w => decide (w.move = id)) && decide (m.state = .queued) then
      if m.kind = .refetch then landRefetch m s else beginCopy m s
    else s

/-- R117, R259: an allocation has waited 1 ms: a sealed page keeps its staging slot; any other move is cancelled. -/
def allocTimeout (id : Nat) (s : Dev) : Dev :=
  match s.tir.moves.find? (fun m => decide (m.id = id)), s.tir.allocWaits.find? (fun w => decide (w.move = id)) with
  | some m, some w =>
    if !past w.since (ms 1) s.now then s
    else
      let s := cancelMove m s
      match m.kind, m.datum with
      | .sealCopy, .page p =>
        (match mget s.kvs.pages p with
        | some pg => raise St.kvsSealHome pg.tenant [] (match pg.home with | .staging k => stagingLeave k s | _ => s)
        | none => s)
      | .compaction, _ => s
      | _, d =>
        let deps := dependents s d
        let s := raiseDev St.tirT1Full { s with tir.t1Full := true }
        forL deps (fun id s => delayed St.tirT1Full id s) s
  | _, _ => s

/-- R301: a mirror copy fetched from the partner arrives. -/
def refetchArrived (d : Datum) (s : Dev) : Dev :=
  if (refetchSince s d).isNone then s
  else
    let s := pushMove d .refetch 0 (cancelMoves d (endRefetch d s))
    match moveOf s d with
    | some m => landRefetch m s
    | none => s

/-! ## The commands -/

/-- R266: a move starts. -/
def execMoveStart (t : Time) (move : Nat) (s : State) : Host.Outcome State Fault Refusal := run (awake t (moveStart move)) s

/-- R259: an allocation has waited 1 ms. -/
def execT1AllocTimeout (t : Time) (move : Nat) (s : State) : Host.Outcome State Fault Refusal := run (awake t (allocTimeout move)) s

/-- R257: the heat table ages. -/
def execHeatAgeTick (t : Time) (s : State) : Host.Outcome State Fault Refusal := run (awake t heatTick) s

end Sys2Proof.Machine
end

