-- ==== Sys2Proof/Machine/Models.lean ====
section
/-! DEFINITION. Models (R100, R242 to R250): geometry, admission, loading and unloading at a frame boundary. -/

namespace Sys2Proof.Machine

/-! ## Boundaries (R248, R518) -/

/-- R248, R518: the first frame boundary at or after `t`. -/
def boundaryAfter (s : Dev) (t : Time) : Time :=
  let from0 (base : Time) (units : Nat) : Time :=
    if serialLe t base then base else base + BitVec.ofNat 64 (ceilDiv (elapsed base t) (max 1 units) * units)
  let b := from0 s.tt.frameStart s.frameUnits
  match s.tt.pending with
  | none => b
  | some p =>
    if serialLe t p.effective then (if serialLt p.effective b then p.effective else b)
    else
      match s.runsOf p.set s.tt.profile with
      | some u => from0 p.effective u.frameUnits
      | none => b

/-- R248: the first boundary at or after now plus one frame. -/
def changeBoundary (s : Dev) : Time := boundaryAfter s (s.now + BitVec.ofNat 64 s.frameUnits)

/-! ## Geometry (R100, R242) -/

/-- R242: the streams a descriptor names. -/
def namedStreams (d : ModelDesc) : List Nat := d.streams.take d.streamCount

/-- R100, R242: offset in the descriptor of R500 of the first field that is out of range. -/
def geometryFault (d : ModelDesc) : Option Nat :=
  if 6 < d.headDimCode then some 0x01
  else if d.layers = 0 ∨ 256 < d.layers then some 0x02
  else if d.kvHeads = 0 ∨ 64 < d.kvHeads then some 0x04
  else if d.g = 0 ∨ 32 < d.g then some 0x05
  else if d.t0Bytes = 0 ∨ 5767168 < d.t0Bytes then some 0x10
  else if d.seats = 0 ∨ 262144 < d.seats then some 0x14
  else if d.t1Bytes % 4096 ≠ 0 then some 0x18
  else if 6 < d.sliceCode then some 0x24
  else if d.streamCount = 0 ∨ 5 < d.streamCount then some 0x25
  else if (namedStreams d).eraseDups.length ≠ (namedStreams d).length ∨ (d.streams.drop d.streamCount).any (· ≠ 0) then some 0x26
  else none

/-! ## Admission (R243 to R245) -/

/-- R247: state codes. -/
def ModelState.code : ModelState → Nat
  | .loading => 1 | .active => 2 | .tight => 3 | .unloading => 4

/-- R243: the models whose claims count. -/
def loadedModels (s : Dev) : Map Model := s.att.models.filter fun e => !decide (e.2.state = .loading)

/-- R243: free T0, seats and T1 reserve. -/
def freeT0 (s : Dev) : Nat := 5767168 - sumBy (fun e => e.2.desc.t0Bytes) (loadedModels s)
def freeSeats (s : Dev) : Nat := 262144 - sumBy (fun e => e.2.granted) (loadedModels s)
def freeReserve (s : Dev) : Nat := s.tir.reservePool - sumBy (fun e => e.2.desc.t1Bytes - e.2.borrowed) (loadedModels s)

/-- R243: slot entries of a timetable that belong to the named streams and to no other loaded model. -/
def freeSlots (s : Dev) (slots : List SlotEntry) (d : ModelDesc) : Nat :=
  (slots.filter fun e => (namedStreams d).contains e.stream &&
    !((loadedModels s).any fun m => decide (m.1 ≠ d.model) && (namedStreams m.2.desc).contains e.stream)).length

/-- R243: slots of the running timetable. -/
def runningSlots (s : Dev) : List SlotEntry := s.tt.running.elim [] (·.slots)

/-- R243: the shortfalls of a claim. -/
structure Shortfall where
  t0 : Nat
  seats : Nat
  t1 : Nat
  slots : Nat
  deriving DecidableEq, Repr

/-- R243: what a model lacks. -/
def shortfall (s : Dev) (slots : List SlotEntry) (d : ModelDesc) : Shortfall :=
  { t0 := d.t0Bytes - freeT0 s, seats := d.seats - freeSeats s, t1 := d.t1Bytes - freeReserve s,
    slots := d.slotCount - freeSlots s slots d }

/-- R244: the load is refused. -/
def tooShort (s : Dev) (d : ModelDesc) (x : Shortfall) : Bool :=
  decide (0 < x.t0) || decide (0 < x.slots) || decide (d.seats / 8 < x.seats) || decide (d.t1Bytes / 8 < x.t1)
    || decide (coldFree s < x.t1)

/-- R245: the seats granted. -/
def grantFor (s : Dev) (d : ModelDesc) : Nat :=
  let byT1 := if d.t1Bytes = 0 then d.seats else d.seats * freeReserve s / d.t1Bytes
  max 1 (min d.seats (min (freeSeats s) byT1))

/-- R249: the fields of the MODEL_LOAD completion after the status. -/
def loadFields (s : Dev) (d : ModelDesc) (x : Shortfall) (fail : Nat) : List Nat :=
  match mget s.att.models d.model with
  | some m => [d.model, m.state.code, m.granted, x.t1, m.borrowed, x.t0, x.seats, x.slots, fail]
  | none => [d.model, 0, 0, x.t1, 0, x.t0, x.seats, x.slots, fail]

/-- R244, R245: a model is admitted against the slots given, or refused. DEDUCED: log entry 62. -/
def admitModel (slots : List SlotEntry) (d : ModelDesc) (s : Dev) : Applied :=
  let s := { s with att.models := mdel s.att.models d.model }
  let x := shortfall s slots d
  if tooShort s d x then { status := St.cfgModelShort, fields := loadFields s d x 0xFFFF, state := s }
  else
    let tight := decide (0 < x.seats) || decide (0 < x.t1)
    let m : Model := { desc := d, state := if tight then .tight else .active,
                       granted := if tight then grantFor s d else d.seats, borrowed := x.t1 }
    let s := { s with att.models := mset s.att.models d.model m }
    { status := St.ok, fields := loadFields s d x 0xFFFF, state := if tight then raise St.cfgModelTight deviceWide [d.model] s else s }

/-- R503: the image's models, in ascending ID, against the slots of its NORMAL timetable; a refusal is an event. -/
def loadImageModels (slots : List SlotEntry) (ds : List ModelDesc) (s : Dev) : Dev :=
  forL (sortBy (fun a b => decide (a.model ≤ b.model)) ds) (fun d s =>
    match geometryFault d with
    | some off => raise St.kvsGeometry deviceWide [d.model, off] s
    | none =>
      if mhas s.att.models d.model then raise St.cfgModelIdBusy deviceWide [d.model] s
      else
        let r := admitModel slots d s
        if r.status = St.ok then r.state else raise r.status deviceWide r.fields r.state) s

/-- R503: a timetable adopted without joining a pair: the slot claims are checked again. -/
def recheckSlots (s : Dev) : Dev :=
  forL (loadedModels s) (fun m s =>
    let n := m.2.desc.slotCount - freeSlots s (runningSlots s) m.2.desc
    if 0 < n then raise St.cfgModelShort deviceWide [m.1, n] s else s) s

/-! ## TIGHT models (R246) -/

/-- R246: one TIGHT model at a frame boundary: first the loan is returned, then seats are granted. DEDUCED: log entry 62. -/
def relaxModel (id : Nat) (s : Dev) : Dev :=
  match mget s.att.models id with
  | none => s
  | some m =>
    if m.state ≠ .tight then s
    else
      let back := min m.borrowed (freeReserve s)
      let s := { s with att.models := mset s.att.models id { m with borrowed := m.borrowed - back } }
      let granted := if back = m.borrowed then min m.desc.seats (m.granted + freeSeats s) else m.granted
      let full := decide (granted = m.desc.seats) && decide (back = m.borrowed)
      { s with att.models := mset s.att.models id { m with
          borrowed := m.borrowed - back
          granted
          state := if full then .active else .tight } }

/-- R246: TIGHT models, the lowest ID first. -/
def relaxModels (s : Dev) : Dev := forL (s.att.models.map (·.1)) relaxModel s

/-! ## Unloading (R250) -/

/-- A sequence of the model is live. -/
def hasSequences (s : Dev) (model : Nat) : Bool := s.kvs.seqs.any fun e => decide (e.2.model = model)

/-- An accepted request names the model. -/
def hasRequests (s : Dev) (model : Nat) : Bool :=
  s.att.reqs.any fun r => decide (r.2.refusal = St.ok) && decide (r.2.msg.model = model)

/-- R250: the fields of the MODEL_UNLOAD reply after the status. -/
def unloadFields (s : Dev) (model : Nat) : List Nat := [model, (mget s.att.models model).elim 0 (·.state.code)]

/-- R250: what MODEL_UNLOAD finds. DEDUCED: log entry 62. -/
def unloadCheck (s : Dev) (model : Nat) : Status :=
  match mget s.att.models model with
  | none => St.kvsModelAbsent
  | some m => if m.state = .loading ∨ (m.state ≠ .unloading ∧ hasSequences s model) then St.cfgModelInUse else St.ok

/-- R250: the model is UNLOADING, or free when no accepted request remains. -/
def unloadModel (model : Nat) (s : Dev) : Applied :=
  let st := unloadCheck s model
  if st ≠ St.ok then { status := st, fields := unloadFields s model, state := s }
  else
    let models := if hasRequests s model then mmod s.att.models model fun m => { m with state := .unloading }
      else mdel s.att.models model
    let s := { s with att.models := models }
    { status := St.ok, fields := unloadFields s model, state := s }

/-- R250: the last accepted request of an UNLOADING model is complete. -/
def unloadComplete (model : Nat) (s : Dev) : Dev :=
  match mget s.att.models model with
  | none => s
  | some m => if m.state = .unloading ∧ !hasRequests s model then { s with att.models := mdel s.att.models model } else s

/-! ## Changes at a boundary (R248) -/

/-- R248: the operation that a change stands for. -/
def ModelChange.op (c : ModelChange) : PairOp :=
  match c.load with
  | some d => .modelLoad d
  | none => .modelUnload c.unload

/-- R248: a change waits for its boundary; a load's ID is taken from now on. DEDUCED: log entry 62. -/
def scheduleModel (c : ModelChange) (s : Dev) : Dev :=
  let s := { s with att.modelChanges := s.att.modelChanges ++ [c] }
  match c.load with
  | some d =>
    let m : Model := { desc := d, state := .loading, granted := 0, borrowed := 0 }
    { s with att.models := mset s.att.models d.model m }
  | none => s

/-- R424: a commit of this side has been applied on both sides: its requester is answered; a status of the other side other than
success takes the change back (R426). -/
def finishWait (w : CommitWait) (st : Status) (s : Dev) : Dev :=
  let s := { s with par.waits := s.par.waits.filter fun x => !decide (x.tag = w.tag) }
  if st = St.ok then reply w.rq w.status w.reply s
  else reply w.rq st [] (raiseDev St.parCommitMismatch (takeBack w.undo s))

/-- R248, R424: this side has applied its own commit at the boundary: it answers when the other side has too. -/
def settleWait (tag : Nat) (before : Dev) (r : Applied) (s : Dev) : Dev :=
  match s.par.waits.find? fun w => decide (w.tag = tag) with
  | none => s
  | some w =>
    let w' : CommitWait := { w with reply := r.fields, status := r.status, applied := true, undo := undoOf before s }
    match w.answered with
    | some st => finishWait w' st s
    | none =>
      let put (x : CommitWait) : CommitWait := if x.tag = tag then w' else x
      { s with par.waits := s.par.waits.map put }

/-- R248: one change takes effect. -/
def applyModelChange (c : ModelChange) (s : Dev) : Dev :=
  let s := { s with att.modelChanges := s.att.modelChanges.erase c }
  let r := match c.load with
    | some d => admitModel (runningSlots s) d s
    | none => unloadModel c.unload s
  let s1 := r.state
  match c.peerTag, c.tag with
  | some tag, _ => emit (.commitDone tag r.status) s1
  | none, some tag =>
    if r.status = St.ok then settleWait tag s r s1
    else
      let s1 := { s1 with par.waits := s1.par.waits.filter fun w => !decide (w.tag = tag) }
      let s1 := if c.load.isSome then tell (.modelUnload c.unload) s1 else s1
      reply c.rq r.status r.fields s1
  | none, none => reply c.rq r.status r.fields s1

/-- R246, R248: what a frame boundary does to the models. -/
def modelBoundary (s : Dev) : Dev :=
  relaxModels (forL (s.att.modelChanges.filter fun c => serialLe c.boundary s.now) applyModelChange s)

/-- R248, R423, R433: a load or unload is asked for on this side. -/
def changeModel (rq : Requester) (load : Option ModelDesc) (unload : Nat) (s : Dev) : Dev :=
  let unload := match load with
    | some d => d.model
    | none => unload
  let c : ModelChange := { rq, load, unload, boundary := changeBoundary s, tag := none, peerTag := none }
  match s.par.state with
  | .isolated => reply rq St.parIsolated [] s
  | .suspect => hold rq c.op [] s
  | .paired | .paused =>
    if s.sideA then
      let tag := s.par.nextTag
      let s := { s with par.commitSeq := s.par.commitSeq + 1 }
      let w : CommitWait := { tag, op := c.op, rq, reply := [], status := St.ok, proposal := false, held := false,
                              applied := false, answered := none, undo := Undo.none }
      scheduleModel { c with tag := some tag } (await w (emit (.commit (commitHdr s tag false (some c.boundary)) c.op) s))
    else propose rq c.op (some c.boundary) [] s
  | .resync => scheduleModel c { s with par.commitSeq := s.par.commitSeq + 1, par.resyncOps := s.par.resyncOps ++ [c.op] }
  | _ => scheduleModel c { s with par.commitSeq := s.par.commitSeq + 1 }

/-- R247, R249: MODEL_LOAD. -/
def modelLoadCmd (rq : Requester) (d : ModelDesc) (s : Dev) : Dev :=
  let none' : Shortfall := { t0 := 0, seats := 0, t1 := 0, slots := 0 }
  if mhas s.att.models d.model then
    let code := (mget s.att.models d.model).elim 0 (·.state.code)
    reply rq St.cfgModelIdBusy [d.model, code, 0, 0, 0, 0, 0, 0, 0xFFFF] s
  else
    match geometryFault d with
    | some off => reply rq St.kvsGeometry (loadFields s d none' off) s
    | none => changeModel rq (some d) 0 s

/-- R250: MODEL_UNLOAD. -/
def modelUnloadCmd (rq : Requester) (model : Nat) (s : Dev) : Dev :=
  let st := unloadCheck s model
  if st ≠ St.ok then reply rq st (unloadFields s model) s
  else if (mget s.att.models model).any (fun m => decide (m.state = .unloading)) then reply rq St.ok (unloadFields s model) s
  else changeModel rq none model s

/-! ## The commands -/

/-- R244: MODEL_LOAD. -/
def execModelLoad (t : Time) (rq : Requester) (d : ModelDesc) (s : State) : Host.Outcome State Fault Refusal :=
  run (vendor t rq true (modelLoadCmd rq d)) s

/-- R250: MODEL_UNLOAD. -/
def execModelUnload (t : Time) (rq : Requester) (model : Nat) (s : State) : Host.Outcome State Fault Refusal :=
  run (vendor t rq true (modelUnloadCmd rq model)) s

/-- R250: the last accepted request of an UNLOADING model completes. -/
def execModelUnloadComplete (t : Time) (model : Nat) (s : State) : Host.Outcome State Fault Refusal :=
  run (awake t (unloadComplete model)) s

end Sys2Proof.Machine
end

