-- ==== Sys2Proof/Machine/Objects.lean ====
section
/-! DEFINITION. Weight objects (R287 to R292, R420): OBJ_ADMIN, the pair commits that carry it, and the end of a deletion. -/

namespace Sys2Proof.Machine

/-! ## The object table -/

/-- The state with an object changed by `f`. -/
def modObj (obj : Nat) (f : Obj → Obj) (s : Dev) : Dev := { s with tir.objs := mmod s.tir.objs obj f }

/-- R289: state codes. -/
def ObjState.code : ObjState → Nat
  | .opened => 1 | .sealed => 2 | .lost => 3 | .deleting => 4

/-- R288: blocks of an object. -/
def blockCount (o : Obj) : Nat := ceilDiv o.size 1048576

/-- R291: the fields of the OBJ_ADMIN reply after the status. -/
def objFields (s : Dev) (obj : Nat) : List Nat :=
  match mget s.tir.objs obj with
  | none => [0, obj, 0, 0, 0, 0]
  | some o => [o.state.code, obj, o.size, o.version, (o.blocks.filter fun b => b.2.inT1).length,
      (o.blocks.filter fun b => !b.2.inT1).length]

/-- R460: device virtual address of a byte of a region's slot. -/
def regionVa (region slot off : Nat) : Nat := 3 * 2 ^ 62 + region * 2 ^ 46 + slot * 2 ^ 43 + off

/-! ## CREATE (R289, R292) -/

/-- R292: the index that CREATE takes. -/
def objIndex (s : Dev) (named : Nat) : Option Nat :=
  if named = 0xFFFFFFFF then
    (match leastFrom (fun k => !mhas s.tir.objs k) 0 (s.tir.objs.length + 1) with
    | some k => if k < 65536 then some k else none
    | none => none)
  else if mhas s.tir.objs named then none else some named

/-- R292: the fields of CREATE. -/
def createRange (r : ObjAdmin) : Bool :=
  decide (1 ≤ r.size) && decide (r.size ≤ 2 ^ 40) && (decide (r.object = 0xFFFFFFFF) || decide (r.object < 65536))
    && decide (r.flags.toNat < 64) && decide (r.flags.toNat % 4 < 3) && decide (r.flags.toNat / 4 % 4 < 3)

/-- R289: the record that CREATE makes. -/
def newObj (r : ObjAdmin) : Obj :=
  { tenant := r.tenant, state := .opened,
    mirror := (match r.flags.toNat % 4 with | 0 => .m0 | 1 => .m1 | _ => .m2),
    elem := r.flags.toNat / 4 % 4, resident := r.flags.getLsbD 4, stats := r.flags.getLsbD 5, size := r.size, mapBase := 0,
    version := 0, readers := 0, lostBlocks := 0, blocks := [], mirrored := [] }

/-- R256, R292: T1 homes for the blocks listed, in the weight pool or the cold pool; none when one does not fit. DEDUCED: log entry 60. -/
def homeBlocks (obj : Nat) : List Nat → Dev → Option Dev
  | [], s => some s
  | i :: rest, s =>
    match t1Home (.block obj i) [weightPoolKey, coldPoolKey] s with
    | none => none
    | some (h, s) => homeBlocks obj rest (modObj obj (fun o => { o with blocks := mset o.blocks i h }) s)

/-- R289: CREATE as the commit applies it. The side that owns the object homes its blocks, zero-filled; the other side keeps the
record alone. -/
def applyCreate (ownerB : Bool) (r : ObjAdmin) (s : Dev) : Applied :=
  match objIndex s r.object with
  | none => { status := St.tirNoObject, fields := [], state := s }
  | some k =>
    let o := newObj r
    let (base, s1) := t1Take 258 (8 * blockCount o) s
    let s1 := { s1 with
      tir.objs := mset s1.tir.objs k { o with mapBase := base }
      par.objOwnerB := s1.par.objOwnerB ++ (if ownerB then [k] else []) }
    if ownerB = s.sideA then { status := St.ok, fields := objFields s1 k, state := s1 }
    else
      match homeBlocks k (List.range (blockCount o)) s1 with
      | none => { status := St.tirT1Full, fields := [], state := s }
      | some s2 =>
        let s2 := demotion { s2 with mem := memClear s2.mem (objVa k 0) (2 ^ 44) }
        { status := St.ok, fields := objFields s2 k, state := s2 }

/-- R291, R292: OBJ_ADMIN CREATE. -/
def objCreateCmd (rq : Requester) (r : ObjAdmin) (s : Dev) : Dev :=
  if !tenantOk s rq r.tenant then refuse rq St.kvsTenant s
  else if !createRange r then reply rq St.tirRange [] s
  else pairChange rq (.objCreate (!s.sideA) r) none (applyCreate (!s.sideA) r) s

/-! ## The checks of the other commands -/

/-- R128, R292, R420: the object exists, is the requester's, and, for a change, is owned by this side. DEDUCED: log entry 60. -/
def objCheck (s : Dev) (rq : Requester) (tenant obj : Nat) (owned : Bool) : Status :=
  if !tenantOk s rq tenant then St.kvsTenant
  else if 65535 < obj then St.tirRange
  else
    match mget s.tir.objs obj with
    | none => St.tirObjState
    | some o =>
      if o.tenant ≠ tenant then St.tirTenant
      else if owned && !ownsObj s obj then St.parNotOwner
      else St.ok

/-! ## SEAL (R289, R429) -/

/-- R257, R289: SEAL as the commit applies it: the blocks become immutable, the homes in T1 join the heat table. -/
def applySeal (obj : Nat) (s : Dev) : Applied :=
  match mget s.tir.objs obj with
  | none => { status := St.tirObjState, fields := objFields s obj, state := s }
  | some o =>
    if o.state ≠ .opened then { status := St.tirObjState, fields := objFields s obj, state := s }
    else
      let s := modObj obj (fun o => { o with state := .sealed, version := o.version + 1, mirrored := [] }) s
      let s := forL o.blocks (fun b s => markRead b.2 s) s
      { status := St.ok, fields := objFields s obj, state := s }

/-- R429: the block copies that a sealed object is due. -/
def dueBlocks (obj : Nat) (o : Obj) (s : Dev) : Dev :=
  if o.mirror = .m0 ∨ !s.hasPartner then s
  else { s with par.copies := s.par.copies ++ (List.range (blockCount o)).map fun i => (.block obj i, s.tt.frame) }

/-- R289, R429: OBJ_ADMIN SEAL; that of an M2 object is answered when every block is copied. -/
def objSealCmd (rq : Requester) (tenant obj : Nat) (s : Dev) : Dev :=
  let st := objCheck s rq tenant obj true
  if st ≠ St.ok then refuse rq st s
  else
    match mget s.tir.objs obj with
    | none => s
    | some o =>
      if o.state ≠ .opened ∨ s.isolated then pairChange rq (.objSeal obj) none (applySeal obj) s
      else if o.mirror = .m2 ∧ s.mirrored then
        let s := pairChange .device (.objSeal obj) none (applySeal obj) s
        dueBlocks obj o { s with par.sealWaits := s.par.sealWaits ++ [(obj, rq)] }
      else dueBlocks obj o (pairChange rq (.objSeal obj) none (applySeal obj) s)

/-! ## DELETE, QUERY, REOPEN (R289) -/

/-- R289: moves and copies of an object's blocks end. -/
def dropBlockWork (obj : Nat) (s : Dev) : Dev :=
  let isBlock (d : Datum) : Bool := match d with | .block k _ => decide (k = obj) | _ => false
  let s := forL (s.tir.moves.filter fun m => isBlock m.datum && !decide (m.state = .switching)) cancelMove s
  { s with
    par.copies := s.par.copies.filter fun c => !isBlock c.1
    tir.refetches := s.tir.refetches.filter fun r => !isBlock r.datum }

/-- R289: DELETE as the commit applies it. -/
def applyDelete (obj : Nat) (s : Dev) : Applied :=
  match mget s.tir.objs obj with
  | none => { status := St.tirObjState, fields := objFields s obj, state := s }
  | some _ =>
    let s := dropBlockWork obj (modObj obj (fun o => { o with state := .deleting }) s)
    { status := St.ok, fields := objFields s obj, state := s }

/-- R289: OBJ_ADMIN DELETE. -/
def objDeleteCmd (rq : Requester) (tenant obj : Nat) (s : Dev) : Dev :=
  let st := objCheck s rq tenant obj true
  if st ≠ St.ok then refuse rq st s else pairChange rq (.objDelete obj) none (applyDelete obj) s

/-- R289: no reader is left: the block homes and the block map are free. -/
def deleteComplete (obj : Nat) (s : Dev) : Dev :=
  match mget s.tir.objs obj with
  | none => s
  | some o =>
    if o.state = .deleting ∧ o.readers = 0 then
      let s := t1Free o.mapBase (forL o.blocks (fun b s => freeHome b.2 s) s)
      { s with
        tir.objs := mdel s.tir.objs obj
        par.objOwnerB := s.par.objOwnerB.filter fun k => !decide (k = obj)
        mem := memClear s.mem (objVa obj 0) (2 ^ 44) }
    else s

/-- R291: OBJ_ADMIN QUERY. -/
def objQueryCmd (rq : Requester) (tenant obj : Nat) (s : Dev) : Dev :=
  let st := objCheck s rq tenant obj false
  if st ≠ St.ok then refuse rq st s else reply rq St.ok (objFields s obj) s

/-- R289: a block of a reopened object that lies in T2 comes back to T1. -/
def reopenBlocks (obj : Nat) : List (Nat × Home) → Dev → Option Dev
  | [], s => some s
  | (i, h) :: rest, s =>
    if h.inT1 then reopenBlocks obj rest s
    else
      match t1Home (.block obj i) [weightPoolKey, coldPoolKey] s with
      | none => none
      | some (h, s) => reopenBlocks obj rest (switchHome (.block obj i) h s)

/-- R289: REOPEN as the commit applies it: lost blocks become zero-filled, the others lie in T1 again. DEDUCED: log entry 60. -/
def applyReopen (obj : Nat) (s : Dev) : Applied :=
  match mget s.tir.objs obj with
  | none => { status := St.tirObjState, fields := objFields s obj, state := s }
  | some o =>
    if o.state ≠ .sealed ∧ o.state ≠ .lost then { status := St.tirObjState, fields := objFields s obj, state := s }
    else if !ownsObj s obj then
      let s1 := dropBlockWork obj (forL o.blocks (fun b s => freeHome b.2 s) s)
      let s2 := modObj obj (fun o => { o with state := .opened, blocks := [], mirrored := [], lostBlocks := 0 }) s1
      { status := St.ok, fields := objFields s2 obj, state := s2 }
    else
      let s1 := modObj obj (fun o => { o with state := .opened, mirrored := [], lostBlocks := 0 }) (dropBlockWork obj s)
      let lost := (List.range (blockCount o)).filter fun i => !mhas o.blocks i
      match reopenBlocks obj o.blocks s1 with
      | none => { status := St.tirT1Full, fields := objFields s obj, state := s }
      | some s2 =>
        match homeBlocks obj lost s2 with
        | none => { status := St.tirT1Full, fields := objFields s obj, state := s }
        | some s3 =>
          let s3 := { s3 with mem := lost.foldl (fun m i => memClear m (objVa obj (i * 1048576)) 1048576) s3.mem }
          let s3 := demotion s3
          { status := St.ok, fields := objFields s3 obj, state := s3 }

/-- R289: OBJ_ADMIN REOPEN. -/
def objReopenCmd (rq : Requester) (tenant obj : Nat) (s : Dev) : Dev :=
  let st := objCheck s rq tenant obj true
  if st ≠ St.ok then refuse rq st s else pairChange rq (.objReopen obj) none (applyReopen obj) s

/-! ## COPY_IN (R291) -/

/-- R474: some line of a range of a region's slot is poisoned. -/
def poisonedRange (g : Region) (slot off len : Nat) : Bool :=
  g.poison.any fun k => decide (k / 2 ^ 37 = slot) && decide (off / 64 ≤ k % 2 ^ 37) && decide (64 * (k % 2 ^ 37) < off + len)

/-- R291, R292, R437: OBJ_ADMIN COPY_IN: bytes of a host-private region of the tenant into an OPEN object. DEDUCED: log entry 60. -/
def objCopyInCmd (rq : Requester) (r : ObjAdmin) (s : Dev) : Dev :=
  let st := objCheck s rq r.tenant r.object true
  if st ≠ St.ok then refuse rq st s
  else if s.isolated then reply rq St.parIsolated [] s
  else
    match mget s.tir.objs r.object, mget s.cxl.regions r.region with
    | some o, some g =>
      if g.kind ≠ 2 ∨ r.size = 0 ∨ o.size < r.offset + r.size ∨ g.size < 4096 * r.regionOffset + r.size then
        reply rq St.tirRange (objFields s r.object) s
      else if g.tenant ≠ r.tenant then refuse rq St.tirTenant s
      else if o.state ≠ .opened then reply rq St.tirObjState (objFields s r.object) s
      else if poisonedRange g 0 (4096 * r.regionOffset) r.size then reply rq St.cxlPoisoned (objFields s r.object) s
      else
        let data := memReadN s.mem (regionVa r.region 0 (4096 * r.regionOffset)) r.size
        let s := { s with mem := memWriteN s.mem (objVa r.object r.offset) data }
        reply rq St.ok (objFields s r.object) s
    | _, _ => reply rq St.tirRange (objFields s r.object) s

/-! ## The commands -/

/-- R292: OBJ_ADMIN CREATE. -/
def execObjAdminCreate (t : Time) (rq : Requester) (r : ObjAdmin) (s : State) : Host.Outcome State Fault Refusal :=
  run (vendor t rq false (objCreateCmd rq r)) s

/-- R289: OBJ_ADMIN SEAL. -/
def execObjAdminSeal (t : Time) (rq : Requester) (tenant object : Nat) (s : State) : Host.Outcome State Fault Refusal :=
  run (vendor t rq false (objSealCmd rq tenant object)) s

/-- R289: OBJ_ADMIN DELETE. -/
def execObjAdminDelete (t : Time) (rq : Requester) (tenant object : Nat) (s : State) : Host.Outcome State Fault Refusal :=
  run (vendor t rq false (objDeleteCmd rq tenant object)) s

/-- R291: OBJ_ADMIN QUERY. -/
def execObjAdminQuery (t : Time) (rq : Requester) (tenant object : Nat) (s : State) : Host.Outcome State Fault Refusal :=
  run (vendor t rq false (objQueryCmd rq tenant object)) s

/-- R289: OBJ_ADMIN REOPEN. -/
def execObjAdminReopen (t : Time) (rq : Requester) (tenant object : Nat) (s : State) : Host.Outcome State Fault Refusal :=
  run (vendor t rq false (objReopenCmd rq tenant object)) s

/-- R291: OBJ_ADMIN COPY_IN. -/
def execObjAdminCopyIn (t : Time) (rq : Requester) (r : ObjAdmin) (s : State) : Host.Outcome State Fault Refusal :=
  run (vendor t rq false (objCopyInCmd rq r)) s

/-- R289: the readers of a DELETING object reach zero. -/
def execObjectDeleteComplete (t : Time) (object : Nat) (s : State) : Host.Outcome State Fault Refusal :=
  run (awake t (deleteComplete object)) s

end Sys2Proof.Machine
end

