-- ==== Sys2Proof/Machine/Ports.lean ====
section
/-! DEFINITION. The ports and their training (R344 to R349, R557, R573), and received flits (R350, R351). -/

namespace Sys2Proof.Machine

/-! ## Training -/

/-- R502, R506, R566: the port may train: start-up has given the device its position, and the port's domain is ON. -/
def portEnabled (s : Dev) (p : Nat) : Bool := keepsTime s && decide ((s.domain (87 + p)).state = .on)

/-- R447: a torus port stays DOWN along a dimension of 1. DEDUCED: log entry 65. -/
def staysDown (s : Dev) (p : Nat) : Bool :=
  (decide (s.par.dimX = 1) && (decide (p = portTorE) || decide (p = portTorW)))
    || (decide (s.par.dimY = 1) && (decide (p = portTorN) || decide (p = portTorS)))

/-- R344, R447: a DOWN port that is enabled and not held back starts to train. DEDUCED: log entry 51. -/
def tryTrain (p : Nat) (s : Dev) : Dev :=
  let q := s.port p
  if q.state = .down ∧ portEnabled s p ∧ !q.backoff ∧ !staysDown s p then trainPort p s else s

/-- R344: the port's next attempt, 1 s after the last; a far end that has slept is left alone (R573). -/
def retrainTimer (p : Nat) (s : Dev) : Dev :=
  if past (s.port p).trainedAt (ms 1000) s.now ∧ !(s.port p).slept then tryTrain p s else s

/-- R352: the device ID at a position. -/
def deviceAt (x y side : Nat) : Nat := 32 * x + 2 * y + side

/-- R447: the device and the port that a torus port faces. -/
def torusFar (s : Dev) (p : Nat) : Nat × Nat :=
  let x := deviceX s.par.deviceId
  let y := deviceY s.par.deviceId
  let side := s.par.deviceId % 2
  if p = portTorE then (deviceAt ((x + 1) % s.par.dimX) y side, portTorW)
  else if p = portTorW then (deviceAt ((x + s.par.dimX - 1) % s.par.dimX) y side, portTorE)
  else if p = portTorN then (deviceAt x ((y + 1) % s.par.dimY) side, portTorS)
  else (deviceAt x ((y + s.par.dimY - 1) % s.par.dimY) side, portTorN)

/-- R346, R447: the checks of the identity step. DEDUCED: log entry 65. -/
def identityOk (s : Dev) (p : Nat) (id : LinkIdentity) : Bool :=
  if p < 8 then id.partner
  else if p < 12 then
    !id.partner && decide ((id.device, id.port) = torusFar s p) && decide (id.device / 2 ≠ s.par.deviceId / 2)
  else !id.partner && decide (id.port = 12) && decide (id.device / 2 = s.par.deviceId / 2) && decide (id.device ≠ s.par.deviceId)

/-- R349: half the difference between the two directions' pipeline delays. -/
def asymmetry (p : Nat) (id : LinkIdentity) : BitVec 16 :=
  BitVec.ofInt 16 ((((Config.txDelay p + id.rxDelay : Nat) : Int) - ((id.txDelay + Config.rxDelay p : Nat) : Int)) / 2)

/-- R347: the lanes a port can use: those that trained, faulted ones and, on a partner port, those of a second device left out. -/
def usableLanes (s : Dev) (p : Nat) (trained foreign : List Nat) : List Nat :=
  (List.range (portLanes p)).filter fun l =>
    trained.contains l && !(s.port p).faulted.contains l && !(decide (p < 8) && foreign.contains l)

/-- R351: the flow control of a port starts anew. -/
def Port.freshCredits (q : Port) : Port :=
  { q with sent := List.replicate 8 0, credits := List.replicate 8 0, freed := List.replicate 8 0, rxGroup := 0, rxDropped := [],
           rxStarts := [] }

/-- R344: training fails. -/
def trainFails (p : Nat) (s : Dev) : Dev :=
  raiseDev St.auvTrainTimeout (modPort p (fun q => { q with state := .down, lanes := [], retained := false }) s)

/-- R344 to R347: training ends: identity, then the number of lanes, decide. -/
def trainingDone (p : Nat) (id : LinkIdentity) (trained foreign : List Nat) (s : Dev) : Dev :=
  if (s.port p).state ≠ .training then s
  else
    let n := portLanes p
    let lanes := usableLanes s p trained foreign
    let s := if p < 8 ∧ foreign ≠ [] then
        raiseDev St.auvPartnerRefused (modPort p (fun q => { q with refused := true }) s)
      else s
    if !identityOk s p id then
      raiseDev St.auvPortMiswired (modPort p (fun q => { q with state := .failed, miswired := true, lanes := [] }) s)
    else if 2 * lanes.length < n then trainFails p s
    else
      let whole := decide (lanes.length = n)
      let up (q : Port) : Port :=
        { q.freshCredits with
          state := if whole then .up else .degraded
          lanes := if whole then lanes else lanes.take (n / 2)
          farDevice := if id.partner then 0 else id.device
          farPort := id.port
          farPartner := id.partner
          asym := asymmetry p id
          retained := false
          slept := false }
      raiseDev (if whole then St.auvPortUp else St.auvPortDegraded) (modPort p up s)

/-- R344: 200 ms of training have passed. -/
def trainingTimeout (p : Nat) (s : Dev) : Dev :=
  if (s.port p).state = .training ∧ past (s.port p).trainedAt (ms 200) s.now then trainFails p s else s

/-- R557: a port woken from retention is not UP after 10 µs: it trains in full. -/
def wakeTrainTimeout (p : Nat) (s : Dev) : Dev :=
  if (s.port p).state = .training ∧ (s.port p).retained ∧ past (s.port p).trainedAt (us 10) s.now then
    trainPort p (modPort p (fun q => { q with retained := false }) s)
  else s

/-! ## Loss of a trained link -/

/-- R344, R348: a port that runs retrains; the third time within 10 s it stays DOWN for 10 s. DEDUCED: log entry 65. -/
def retrain (p : Nat) (s : Dev) : Dev :=
  if s.linkUp p then
    let recent := (s.port p).retrainTimes.filter fun t => !past t (ms 10000) s.now
    let s := raiseDev St.auvRetrain (modPort p (fun q => { q with
      retrains := min 127 (q.retrains + 1)
      retrainTimes := recent ++ [s.now] }) s)
    if 2 ≤ recent.length then
      modPort p (fun q => { q with state := .down, backoff := true, trainedAt := s.now, lanes := [] }) s
    else trainPort p s
  else s

/-- R344, R348: uncorrectable codewords are counted; a lane with more than 16 in 1 ms is faulted. DEDUCED: log entry 65. -/
def laneFault (p lane codewords : Nat) (s : Dev) : Dev :=
  let s := modPort p (fun q => { q with fecUncorr := min 0xFFFFFFFF (q.fecUncorr + codewords) }) s
  if 16 < codewords then
    retrain p (modPort p (fun q => { q with faulted := if q.faulted.contains lane then q.faulted else q.faulted ++ [lane] }) s)
  else s

/-- R344: signal is lost on lane 0, or on every lane. DEDUCED: log entry 65. -/
def signalLost (p : Nat) (all : Bool) (s : Dev) : Dev :=
  if (s.port p).state = .failed ∧ all then modPort p (fun q => { q with state := .down, lanes := [] }) s else retrain p s

/-- R348: 10 s of DOWN have passed. -/
def backoffOver (p : Nat) (s : Dev) : Dev :=
  if (s.port p).backoff ∧ past (s.port p).trainedAt (ms 10000) s.now then
    tryTrain p (modPort p (fun q => { q with backoff := false }) s)
  else s

/-- R573: the far end goes to sleep. -/
def farSleeps (p : Nat) (s : Dev) : Dev :=
  if s.linkUp p then modPort p (fun q => { q with state := .down, retained := true, slept := true }) s else s

/-- R573, R576: the far end wakes this one: a domain that is not ON wakes, a DOWN port trains. -/
def farWakes (p : Nat) (s : Dev) : Dev :=
  if (s.domain (87 + p)).state = .on then tryTrain p s else wakeDomain (87 + p) 2 s

/-! ## Flits (R350, R351) -/

/-- R350, R351: a flit arrives. One with a bad CRC is dropped, and with it every packet that has a byte in it; a control flit
starts its group and brings credits. -/
def flitArrives (p : Nat) (crcOk : Bool) (f : Flit) (s : Dev) : Dev :=
  if !s.linkUp p then s
  else
    match f, crcOk with
    | .control c, true => modPort p (fun q => { q with rxGroup := c.group, rxStarts := c.starts, rxDropped := [], credits := c.credits }) s
    | .control _, false =>
      count Reg.auvFlitDropCount (modPort p (fun q => { q with
        rxGroup := q.rxGroup + 1
        rxStarts := []
        rxDropped := (List.range 32) }) s)
    | .data _, true => s
    | .data i, false => count Reg.auvFlitDropCount (modPort p (fun q => { q with rxDropped := q.rxDropped ++ [i] }) s)

/-! ## The commands -/

/-- R344: signal on lane 0. -/
def execPortSignalDetect (t : Time) (port : Nat) (s : State) : Host.Outcome State Fault Refusal := run (awake t (tryTrain port)) s

/-- R344: the next attempt of a DOWN port. -/
def execPortRetrainTimer (t : Time) (port : Nat) (s : State) : Host.Outcome State Fault Refusal := run (awake t (retrainTimer port)) s

/-- R346: training ends. -/
def execPortTrainingComplete (t : Time) (port : Nat) (id : LinkIdentity) (lanes foreign : List Nat) (s : State) :
    Host.Outcome State Fault Refusal := run (awake t (trainingDone port id lanes foreign)) s

/-- R344: training has taken 200 ms. -/
def execPortTrainingTimeout (t : Time) (port : Nat) (s : State) : Host.Outcome State Fault Refusal :=
  run (awake t (trainingTimeout port)) s

/-- R348: uncorrectable codewords on a lane. -/
def execLaneFault (t : Time) (port lane codewords : Nat) (s : State) : Host.Outcome State Fault Refusal :=
  run (awake t (laneFault port lane codewords)) s

/-- R344: loss of signal. -/
def execLossOfSignal (t : Time) (port : Nat) (allLanes : Bool) (s : State) : Host.Outcome State Fault Refusal :=
  run (awake t (signalLost port allLanes)) s

/-- R348: the back-off of a port ends. -/
def execRetrainBackoffExpiry (t : Time) (port : Nat) (s : State) : Host.Outcome State Fault Refusal :=
  run (awake t (backoffOver port)) s

/-- R573: the sleep ordered set. -/
def execSleepOrderedSet (t : Time) (port : Nat) (s : State) : Host.Outcome State Fault Refusal := run (awake t (farSleeps port)) s

/-- R573: the wake ordered set. -/
def execWakeOrderedSet (t : Time) (port : Nat) (s : State) : Host.Outcome State Fault Refusal := run (awake t (farWakes port)) s

/-- R350: a flit. -/
def execFlitReceived (t : Time) (port : Nat) (crcOk : Bool) (f : Flit) (s : State) : Host.Outcome State Fault Refusal :=
  run (awake t (flitArrives port crcOk f)) s

/-- R557: a port woken from retention is late. -/
def execPortWakeTimeout (t : Time) (port : Nat) (s : State) : Host.Outcome State Fault Refusal :=
  run (awake t (wakeTrainTimeout port)) s

end Sys2Proof.Machine
end

