-- ==== Sys2Proof/Machine/Snoop.lean ====
section
/-! DEFINITION. What a host sees and holds (R452 to R462, R470 to R474): regions as memory, windows, the snoop filters, host
failure, and the transaction that a failed host held. -/

namespace Sys2Proof.Machine

/-! ## CRC-32C (R9) -/

/-- CRC-32C: one bit of the reflected division. -/
def crcBit (c : BitVec 32) : BitVec 32 := if c.getLsbD 0 then (c >>> 1) ^^^ 0x82F63B78 else c >>> 1

/-- CRC-32C: one byte. -/
def crcByte (c : BitVec 32) (b : Byte) : BitVec 32 :=
  (List.range 8).foldl (fun c _ => crcBit c) (c ^^^ b.setWidth 32)

/-- CRC-32C of bytes. DESIGN CHOICE: log entry 43. -/
def crc32c (l : List Byte) : BitVec 32 := ~~~(l.foldl crcByte 0xFFFFFFFF)

/-! ## Regions (R460, R462) -/

/-- The state with a region changed by `f`. -/
def modRegion (r : Nat) (f : Region → Region) (s : Dev) : Dev := { s with cxl.regions := mmod s.cxl.regions r f }

/-- R460: region, version slot and byte offset of an address in region space. -/
def vaRegion (va : Nat) : Nat := va / 2 ^ 46 % 65536
def vaSlot (va : Nat) : Nat := va / 2 ^ 43 % 8
def vaOffset (va : Nat) : Nat := va % 2 ^ 43

/-- R462: bytes of the private region, or of the version in a slot; none for an empty slot. -/
def slotLength (g : Region) (slot : Nat) : Option Nat :=
  if g.kind = 2 then (if slot = 0 then some g.size else none) else (mget g.versions slot).map fun v => 65536 * v.len64k

/-- R460: an address of region space that is mapped. -/
def regionMapped (s : Dev) (va len : Nat) : Bool :=
  match mget s.cxl.regions (vaRegion va) with
  | some g => (slotLength g (vaSlot va)).any fun n => decide (vaOffset va + len ≤ n)
  | none => false

/-- R473: index of a line in the poison bitmap. -/
def poisonKey (va : Nat) : Nat := va % 2 ^ 46 / 64

/-- R474: a write of `n` bytes at `va` clears the poison of every line that it covers whole. -/
def clearPoisoned (va n : Nat) (s : Dev) : Dev :=
  let covered (k : Nat) : Bool := decide (va % 2 ^ 46 ≤ 64 * k) && decide (64 * k + 64 ≤ va % 2 ^ 46 + n)
  modRegion (vaRegion va) (fun g => { g with poison := g.poison.filter fun k => !covered k }) s

/-- R103, R474: bytes written to region space. -/
def regionStore (va : Nat) (data : List Byte) (s : Dev) : Dev :=
  clearPoisoned va data.length { s with mem := memWriteN s.mem va data }

/-! ## Windows (R456, R457) -/

/-- R456: 2 MiB. -/
def mib2 : Nat := 2097152

/-- R456: the window of an LD that holds a DPA. -/
def windowAt (d : Ld) (dpa : Nat) : Option Window :=
  (d.windows.find? fun e => decide (e.2.dpaBase ≤ dpa) && decide (dpa < e.2.dpaBase + e.2.len2m * mib2)).map (·.2)

/-- R457: the version slot that a window binds: none where its region has no current version. -/
def windowSlot (g : Region) (w : Window) : Option Nat :=
  if g.kind = 2 then some 0 else if w.bind = 1 then g.currentSlot else some w.slot

/-- R457: the address in region space of a DPA in a window; none where reads return zeros. -/
def windowVa (s : Dev) (w : Window) (dpa : Nat) : Option Nat :=
  match mget s.cxl.regions w.region with
  | none => none
  | some g =>
    match windowSlot g w with
    | none => none
    | some slot =>
      let off := w.offset + (dpa - w.dpaBase)
      match slotLength g slot with
      | some n => if off < n then some (regionVa w.region slot off) else none
      | none => none

/-! ## Snoop filters (R470) -/

/-- The filter of a port. -/
def Dev.filter (s : Dev) (port : Nat) : Map Snoop := if port = 0 then s.cxl.snoop0 else s.cxl.snoop1

/-- The state with a port's filter. -/
def setFilter (port : Nat) (m : Map Snoop) (s : Dev) : Dev :=
  if port = 0 then { s with cxl.snoop0 := m } else { s with cxl.snoop1 := m }

/-- R470: key of an entry: line and LD. -/
def snoopKey (line ld : Nat) : Nat := 16 * line + ld

/-- A filter entry of one of the ports. -/
def entryRef (port key : Nat) : Nat := 2 ^ 70 * port + key

/-- R470: the entries that `p` selects by line address, LD and state, as port and key. -/
def heldLines (s : Dev) (p : Nat → Nat → Nat → LineState → Bool) : List (Nat × Nat) :=
  let one (port : Nat) : List (Nat × Nat) :=
    (s.filter port).filterMap fun e => if p port (e.1 / 16) e.2.ld e.2.state then some (port, e.1) else none
  one 0 ++ one 1

/-- R471: a BISnp for an entry, unless one is outstanding. -/
def sendSnoop (x : Nat × Nat) (s : Dev) : Dev :=
  match mget (s.filter x.1) x.2 with
  | none => s
  | some e =>
    if e.snooped.isSome then s
    else
      emit (.bisnp x.1 e.ld (x.2 / 16)) (count Reg.cxlBiCount (setFilter x.1 (mset (s.filter x.1) x.2 { e with snooped := some s.now }) s))

/-- R471: `what` waits until the entries listed have been given up. -/
def backInvalidate (lines : List (Nat × Nat)) (what : SnoopWait) (s : Dev) : Dev :=
  let s := forL lines sendSnoop s
  { s with cxl.snoopWaits := s.cxl.snoopWaits ++ [{ what, lines := lines.map fun x => entryRef x.1 x.2 }] }

/-- R471: the line addresses of a run of bytes. -/
def inRun (va n line : Nat) : Bool := decide (va / 64 ≤ line) && decide (64 * line < va + n)

/-- An entry has been given up: nothing waits for it any more. -/
def entryGone (ref : Nat) (s : Dev) : Dev :=
  let drop (p : SnoopPending) : SnoopPending := { p with lines := p.lines.filter fun x => !decide (x = ref) }
  { s with cxl.snoopWaits := s.cxl.snoopWaits.map drop }

/-- R471: only Auvas READs wait for the entry: it is downgraded to S. DESIGN CHOICE: log entry 66. -/
def onlyReads (s : Dev) (ref : Nat) : Bool :=
  (s.cxl.snoopWaits.any fun p => p.lines.contains ref) && s.cxl.snoopWaits.all fun p =>
    !p.lines.contains ref || (match p.what with
      | .read _ _ _ => true
      | _ => false)

/-- R470: the host answers a back-invalidation, with the line's bytes where it had changed them. -/
def snoopAnswer (port ld line : Nat) (data : Option (List Byte)) (s : Dev) : Dev :=
  let key := snoopKey line ld
  match mget (s.filter port) key with
  | none => s
  | some e =>
    if e.snooped.isNone then s
    else
      let s := match data with
        | some b => if regionMapped s (64 * line) 64 && decide (e.state = .m) then regionStore (64 * line) b s else s
        | none => s
      let ref := entryRef port key
      let s := if onlyReads s ref then setFilter port (mset (s.filter port) key { e with state := .s, snooped := none }) s
        else setFilter port (mdel (s.filter port) key) s
      entryGone ref s

/-- R470: a line is granted to an LD. DESIGN CHOICE: log entry 66. -/
def grantLine (port ld line : Nat) (hold : LineState) (s : Dev) : Dev :=
  let e : Snoop := { ld, state := hold, order := s.cxl.snoopOrder, snooped := none }
  setFilter port (mset (s.filter port) (snoopKey line ld) e) { s with cxl.snoopOrder := s.cxl.snoopOrder + 1 }

/-- R470: entries of a filter. -/
def filterSize : Nat := 2097152

/-! ## Frozen ranges (R467, R478) -/

/-- R467: the range of a private region is frozen. -/
def isFrozen (s : Dev) (region off len : Nat) : Bool :=
  s.cxl.frozen.any fun f => decide (f.1 = region) && decide (f.2.1 < off + len) && decide (off < f.2.1 + f.2.2)

/-- R467: a write of a host, or of the Auvas message `hdr`, is held until the range is released. -/
def holdWrite (region off : Nat) (data : List Byte) (hdr : Option MsgHdr) (s : Dev) : Dev :=
  { s with cxl.held := s.cxl.held ++ [{ region, offset := off, data, full := decide (data.length = 64), hdr }] }

/-- R467: a frozen range is released: the writes held for it are applied in their order. -/
def unfreeze (region off len : Nat) (s : Dev) : Dev :=
  let s := { s with cxl.frozen := s.cxl.frozen.erase (region, off, len) }
  let free := s.cxl.held.filter fun w => !isFrozen s w.region w.offset w.data.length
  let s := { s with cxl.held := s.cxl.held.filter fun w => isFrozen s w.region w.offset w.data.length }
  forL free (fun w s => regionStore (regionVa w.region 0 w.offset) w.data s) s

/-! ## The mailbox's background command (R482) -/

/-- Number under which an export holds its pins (the model's own numbering). -/
def exportOp (port ld : Nat) : Nat := 2 ^ 66 + ldIndex port ld

/-- R482: the background command ends: its status is in the Background Command Status register. -/
def endBackground (port ld : Nat) (st : Status) (fields : List Nat) (s : Dev) : Dev :=
  reply (.ld port ld) st fields (modLd port ld (fun d => { d with background := none, bgStatus := st }) s)

/-- R454, R473: an uncommitted background command is aborted; a publish releases its staging. -/
def abortBackground (port ld : Nat) (s : Dev) : Dev :=
  let gone (s : Dev) : Dev := modLd port ld (fun d => { d with background := none }) s
  match (s.ld port ld).background with
  | some (.publish r false) =>
    let s := { s with cxl.snoopWaits := s.cxl.snoopWaits.filter fun p => !decide (p.what = .freeze port ld) }
    gone (unfreeze r.srcRegion r.offset r.length s)
  | some (.exportCopy _ _) => gone (dropPins (exportOp port ld) s)
  | _ => s

/-! ## The transaction of a failed holder (R512) -/

/-- R512, R514: an OPEN transaction is rolled back; its staging is discarded. -/
def dropTxn (s : Dev) : Dev := { s with cfg.txn := { s.cfg.txn with state := .idle, holder := none, items := [], bytes := 0 } }

/-- R512: the transaction expires, or its holder fails. -/
def expireTxn (s : Dev) : Dev :=
  let s := count Reg.cfgRollbackCount { dropTxn s with cfg.txnExpired := true }
  tell .txnRollback (raiseDev St.cfgTxnExpired s)

/-- R512: the host of an LD that holds the OPEN transaction has failed. -/
def holderFails (port ld : Nat) (s : Dev) : Dev :=
  if s.cfg.txn.state = .opened ∧ s.cfg.txn.mine ∧ s.cfg.txn.holder = some (.ld port ld) then expireTxn s else s

/-! ## Host failure (R472, R473) -/

/-- R473: the lines that an LD holds E or M. -/
def dirtyLines (s : Dev) (port ld : Nat) : List (Nat × Nat) :=
  heldLines s fun p _ l st => decide (p = port) && decide (l = ld) && !decide (st = .s)

/-- R473: a line is poisoned. -/
def poisonLine (line : Nat) (s : Dev) : Dev :=
  let k := poisonKey (64 * line)
  modRegion (vaRegion (64 * line)) (fun g => { g with poison := if g.poison.contains k then g.poison else g.poison ++ [k] }) s

/-- R472, R473: the host behind an LD has failed. DEDUCED: log entry 68. -/
def hostFails (port ld : Nat) (s : Dev) : Dev :=
  if (s.ld port ld).state ≠ .active then s
  else
    let dirty := dirtyLines s port ld
    let mine := heldLines s fun p _ l _ => decide (p = port) && decide (l = ld)
    let s := forL dirty (fun x s => poisonLine (x.2 / 16) s) s
    let s := countBy Reg.cxlPoisonCount dirty.length s
    let s := forL mine (fun x s => entryGone (entryRef x.1 x.2) (setFilter x.1 (mdel (s.filter x.1) x.2) s)) s
    let s := abortBackground port ld (modLd port ld (fun d => { d with state := .failed }) s)
    holderFails port ld (raise St.cxlHostFailed deviceWide [port, ld, dirty.length] s)

/-- R454: the mailbox and event logs of an LD are cleared. -/
def clearLd (port ld : Nat) (s : Dev) : Dev :=
  modLd port ld (fun d => { d with logs := [], overflow := [], nextHandle := 1 }) s

/-- R453, R454: an LD, conventional or CXL reset. DEDUCED: log entry 68. -/
def resetLd (port ld : Nat) (s : Dev) : Dev :=
  match (s.ld port ld).state with
  | .disabled => s
  | .failed => clearLd port ld (modLd port ld (fun d => { d with state := .active }) s)
  | .active =>
    if (dirtyLines s port ld).isEmpty then
      clearLd port ld (modLd port ld (fun d => { d with bgStatus := 0 }) (abortBackground port ld s))
    else hostFails port ld s

/-- R452, R453: the binding's enable has been cleared: the LD's lines are back-invalidated and its window table is emptied. -/
def disableLd (port ld : Nat) (s : Dev) : Dev :=
  let mine := heldLines s fun p _ l _ => decide (p = port) && decide (l = ld)
  modLd port ld (fun d => { d with state := .disabled, windows := [] }) (forL mine sendSnoop s)

/-- R452, R453: the LDs follow their bindings. -/
def bindLds (s : Dev) : Dev :=
  forN 32 (fun i s =>
    let enabled := decide (s.ldEnable i = 1)
    let st := (s.ld (i / 16) (i % 16)).state
    if enabled && decide (st = .disabled) then modLd (i / 16) (i % 16) (fun d => { d with state := .active }) s
    else if !enabled && !decide (st = .disabled) then disableLd (i / 16) (i % 16) s
    else s) s

/-! ## CXL.mem (R457, R467, R474) -/

/-- R457: a write that is discarded. DEDUCED: log entry 68. -/
def discardWrite (port ld : Nat) (s : Dev) : Dev :=
  let s := count Reg.cxlDiscardCount s
  let quiet := match (s.ld port ld).roEvent with
    | some f => decide ((s.tt.frame - f).toNat < 1024)
    | none => false
  if quiet then s
  else raise St.cxlRoWrite deviceWide [port, ld] (modLd port ld (fun d => { d with roEvent := some s.tt.frame }) s)

/-- R457, R474: the bytes of a line, or poison. -/
def answerLine (port ld dpa va : Nat) (s : Dev) : Dev :=
  let poisoned := (mget s.cxl.regions (vaRegion va)).any fun g => g.poison.contains (poisonKey va)
  if poisoned then emit (.memPoison port ld dpa) s else emit (.memData port ld dpa (memReadN s.mem va 64)) s

/-- R457, R470: the line is granted and answered. A window on a region that is not private grants S only. DESIGN CHOICE: log entry 66. -/
def grantAndAnswer (port ld dpa va : Nat) (hold : LineState) (s : Dev) : Dev :=
  let ownOnly := (mget s.cxl.regions (vaRegion va)).any fun g => decide (g.kind = 2)
  answerLine port ld dpa va (grantLine port ld (va / 64) (if ownOnly then hold else .s) s)

/-- R470: the entry of a filter that was granted longest ago. -/
def oldestEntry (s : Dev) (port : Nat) : Option (Nat × Nat) :=
  (firstBy (fun a b => decide (a.2.order < b.2.order)) ((s.filter port).filter fun e => e.2.snooped.isNone)).map fun e => (port, e.1)

/-- R457, R470: a CXL.mem read of the line at a DPA, which the host asks to hold or not. -/
def memReadLine (port ld dpa : Nat) (hold : Option LineState) (s : Dev) : Dev :=
  let d := dpa / 64 * 64
  match windowAt (s.ld port ld) d with
  | none => emit (.memPoison port ld d) s
  | some w =>
    match windowVa s w d with
    | none => emit (.memData port ld d (List.replicate 64 0)) s
    | some va =>
      match hold with
      | none => answerLine port ld d va s
      | some h =>
        if mhas (s.filter port) (snoopKey (va / 64) ld) || decide ((s.filter port).length < filterSize) then
          grantAndAnswer port ld d va h s
        else
          match oldestEntry s port with
          | some x => backInvalidate [x] (.grant port ld d (va / 64) h) s
          | none => s

/-- R457, R467, R474: a CXL.mem write. -/
def memWriteLine (port ld dpa : Nat) (data : List Byte) (s : Dev) : Dev :=
  match windowAt (s.ld port ld) dpa with
  | none => discardWrite port ld s
  | some w =>
    match mget s.cxl.regions w.region, windowVa s w dpa with
    | some g, some va =>
      if g.kind ≠ 2 ∨ g.owner ≠ ldIndex port ld ∨ g.size < vaOffset va + data.length then discardWrite port ld s
      else if isFrozen s w.region (vaOffset va) data.length then holdWrite w.region (vaOffset va) data none s
      else regionStore va data s
    | _, _ => discardWrite port ld s

end Sys2Proof.Machine
end

