-- ==== Sys2Proof/Machine/Regions.lean ====
section
/-! DEFINITION. The REGION_ commands (R456 to R469, R475 to R481, R484): regions, windows, publishing, placement, export. -/

namespace Sys2Proof.Machine

/-! ## Requests and replies (R464, R484) -/

/-- R464: the fields of a region reply. -/
def regionFields (s : Dev) (r value : Nat) : List Nat := [r, (mget s.cxl.regions r).elim 0 (·.current.toNat), value]

/-- R464: a reply that refuses. DEDUCED: log entry 67. -/
def refuseRegion (port ld : Nat) (st : Status) (r : Nat) (s : Dev) : Dev := reply (.ld port ld) st (regionFields s r 0) s

/-- The tenant of an LD. -/
def Dev.tenantOfLd (s : Dev) (port ld : Nat) : Nat := s.ldTenant (ldIndex port ld)

/-- R484: the region belongs to the LD's tenant. -/
def ownTenant (s : Dev) (port ld : Nat) (g : Region) : Bool := decide (g.tenant = s.tenantOfLd port ld)

/-- R461: bytes of the region pool that a region's storage takes. -/
def regionBytes (g : Region) : Nat :=
  if g.kind = 2 then g.size else sumBy (fun v => 65536 * v.2.len64k) g.versions

/-! ## Placement (R475 to R479) -/

/-- R475: granules placed cold, over all regions. -/
def coldCount (s : Dev) : Nat := sumBy (fun e => e.2.coldGranules.length) s.cxl.regions

/-- R475, R477: a cold stack's partition has room for one more granule to be placed cold: a hot granule takes two frames in each
stack, a cold one eight in each cold stack. DEDUCED: log entry 67. -/
def coldRoom (s : Dev) : Bool :=
  let hot := s.tir.regionUsed / 65536 - coldCount s
  decide (2 * hot + 8 * coldCount s + 6 ≤ s.tir.regionPool / 4096 / 8)

/-- R475: key of a granule: slot × 2^27 + granule. -/
def granuleKey (slot k : Nat) : Nat := slot * 134217728 + k

/-- R475, R477: granules of a region are placed cold, as many as the cold stacks hold. -/
def placeCold (r : Nat) (keys : List Nat) (s : Dev) : Dev :=
  forL keys (fun k s =>
    if ((mget s.cxl.regions r).any fun g => g.coldGranules.contains k) || !coldRoom s then s
    else modRegion r (fun g => { g with coldGranules := g.coldGranules ++ [k] }) s) s

/-- R477: granules of a region are placed hot. -/
def placeHot (r : Nat) (keys : List Nat) (s : Dev) : Dev :=
  modRegion r (fun g => { g with coldGranules := g.coldGranules.filter fun k => !keys.contains k }) s

/-- R475: the default placement of a slot's granules. -/
def placeDefault (r slot len : Nat) (s : Dev) : Dev :=
  if (mget s.cxl.regions r).any (·.cold) then placeCold r ((List.range (len / 65536)).map (granuleKey slot)) s else s

/-! ## REGION_CREATE, REGION_DELETE, REGION_RESET -/

/-- R462, R463: the fields of REGION_CREATE are in range. -/
def createRegionOk (r : RegionReq) : Bool :=
  decide (1 ≤ r.arg) && decide (r.arg ≤ 3) && decide (r.flags.toNat < 4) && decide (0 < r.length) && decide (r.length % mib2 = 0)
    && decide (r.length ≤ 2 ^ 43)

/-- R464: the ID that REGION_CREATE takes. -/
def newRegionId (s : Dev) (named : Nat) : Option Nat :=
  if named = 0xFFFF then
    (leastFrom (fun k => !mhas s.cxl.regions k) 0 (s.cxl.regions.length + 1)).bind fun k => if k < 65535 then some k else none
  else if named < 65535 ∧ !mhas s.cxl.regions named then some named else none

/-- R462, R463: REGION_CREATE. -/
def regionCreate (port ld : Nat) (r : RegionReq) (s : Dev) : Dev :=
  let tenant := s.tenantOfLd port ld
  if !createRegionOk r then refuseRegion port ld St.cxlRange r.region s
  else if !tenantValid s tenant then refuseRegion port ld St.cxlTenant r.region s
  else
    match newRegionId s r.region with
    | none => refuseRegion port ld St.cxlNoRegion r.region s
    | some k =>
      if r.arg = 2 ∧ s.tir.regionPool < s.tir.regionUsed + r.length then refuseRegion port ld St.cxlNoSpace r.region s
      else
        let (base, s) := if r.arg = 2 then t1Take 258 (8 * (r.length / 65536)) s else (0, s)
        let g : Region := {
          tenant, kind := r.arg, tenantOnly := r.flags.getLsbD 0, cold := r.flags.getLsbD 1
          owner := if r.arg = 2 then ldIndex port ld else 0xFF
          currentSlot := none, size := r.length, current := 0, mapBase := base, versions := [], poison := [], coldGranules := [] }
        let s := { s with
          cxl.regions := mset s.cxl.regions k g
          tir.regionUsed := s.tir.regionUsed + (if r.arg = 2 then r.length else 0)
          mem := memClear s.mem (regionVa k 0 0) (2 ^ 46) }
        let s := if r.arg = 2 then placeDefault k 0 r.length s else s
        reply (.ld port ld) St.ok (regionFields s k 0) s

/-- R464: a window of some LD covers the region. -/
def windowCovers (s : Dev) (r : Nat) (p : Window → Bool) : Bool :=
  s.cxl.lds.any fun d => d.2.windows.any fun w => decide (w.2.region = r) && p w.2

/-- R464, R469: an Auvas channel range covers the region, in a slot that `p` selects. -/
def rangeCovers (s : Dev) (r : Nat) (p : Nat → Bool) : Bool :=
  s.auv.ranges.any fun e => decide (e.2.base.toNat / 2 ^ 62 = 3) && decide (vaRegion e.2.base.toNat = r) && p (vaSlot e.2.base.toNat)

/-- R464: REGION_DELETE. -/
def regionDelete (port ld r : Nat) (s : Dev) : Dev :=
  match mget s.cxl.regions r with
  | none => refuseRegion port ld St.cxlRegionState r s
  | some g =>
    if !ownTenant s port ld g ∨ (g.kind = 2 ∧ g.owner ≠ ldIndex port ld) then refuseRegion port ld St.cxlTenant r s
    else if windowCovers s r (fun _ => true) || rangeCovers s r (fun _ => true) then refuseRegion port ld St.cxlRegionInUse r s
    else backInvalidate (heldLines s fun _ line _ _ => inRun (regionVa r 0 0) (2 ^ 46) line) (.delete (.ld port ld) r) s

/-- R464: the region is free again. -/
def deleteRegion (rq : Requester) (r : Nat) (s : Dev) : Dev :=
  match mget s.cxl.regions r with
  | none => reply rq St.cxlRegionState (regionFields s r 0) s
  | some g =>
    let s := if g.kind = 2 then t1Free g.mapBase s else forL g.versions (fun v s => t1Free v.2.mapBase s) s
    let s := { s with
      cxl.regions := mdel s.cxl.regions r
      tir.regionUsed := s.tir.regionUsed - regionBytes g
      mem := memClear s.mem (regionVa r 0 0) (2 ^ 46) }
    reply rq St.ok (regionFields s r 0) s

/-- R474: REGION_RESET. -/
def regionReset (port ld r : Nat) (s : Dev) : Dev :=
  match mget s.cxl.regions r with
  | none => refuseRegion port ld St.cxlRegionState r s
  | some g =>
    if !ownTenant s port ld g then refuseRegion port ld St.cxlTenant r s
    else if g.kind ≠ 2 then refuseRegion port ld St.cxlRegionState r s
    else if g.owner ≠ ldIndex port ld then refuseRegion port ld St.cxlTenant r s
    else backInvalidate (heldLines s fun _ line _ _ => inRun (regionVa r 0 0) g.size line) (.reset (.ld port ld) r) s

/-- R474: the region is zero-filled and its poison bitmap cleared. -/
def resetRegion (rq : Requester) (r : Nat) (s : Dev) : Dev :=
  let s := modRegion r (fun g => { g with poison := [] }) { s with mem := memClear s.mem (regionVa r 0 0) (2 ^ 43) }
  reply rq St.ok (regionFields s r 0) s

/-! ## REGION_MAP (R456 to R459) -/

/-- R456: two windows overlap in DPA. -/
def windowsMeet (a b : Window) : Bool :=
  decide (a.dpaBase < b.dpaBase + b.len2m * mib2) && decide (b.dpaBase < a.dpaBase + a.len2m * mib2)

/-- The window entry that a request describes. -/
def requestedWindow (r : RegionReq) : Window :=
  { dpaBase := r.dpaBase, len2m := r.length / mib2, region := r.region, bind := r.arg, slot := if r.arg = 2 then r.slot else 0,
    offset := r.offset }

/-- R456, R457: the entry keeps the rules of the window table. DEDUCED: log entry 67. -/
def windowOk (s : Dev) (port ld : Nat) (r : RegionReq) (g : Region) : Bool :=
  let w := requestedWindow r
  decide (r.dpaBase % mib2 = 0) && decide (0 < r.length) && decide (r.length % mib2 = 0) && decide (r.offset % mib2 = 0)
    && decide (r.offset + r.length ≤ g.size)
    && (if g.kind = 2 then decide (g.owner = ldIndex port ld) && decide (r.arg = 1) else true)
    && (decide (r.arg = 1) || (decide (r.slot < 8) && mhas g.versions r.slot))
    && (s.ld port ld).windows.all fun e => decide (e.1 = r.window) || !windowsMeet e.2 w

/-- R458: the lines of a window that an LD holds. -/
def windowLines (s : Dev) (port ld : Nat) (w : Window) : List (Nat × Nat) :=
  heldLines s fun p line l _ =>
    let va := 64 * line
    decide (p = port) && decide (l = ld) && decide (vaRegion va = w.region) && (decide (w.bind = 1) || decide (vaSlot va = w.slot))
      && decide (w.offset ≤ vaOffset va + 63) && decide (vaOffset va < w.offset + w.len2m * mib2)

/-- R458, R459, R484: REGION_MAP. -/
def regionMap (port ld : Nat) (r : RegionReq) (s : Dev) : Dev :=
  let old := mget (s.ld port ld).windows r.window
  let go (s : Dev) : Dev := backInvalidate (old.elim [] (windowLines s port ld)) (.mapEntry (.ld port ld) r) s
  if 64 ≤ r.window ∨ 2 < r.arg then refuseRegion port ld St.cxlRange r.region s
  else if r.arg = 0 then go s
  else
    match mget s.cxl.regions r.region with
    | none => refuseRegion port ld St.cxlWindow r.region s
    | some g =>
      if !ownTenant s port ld g && !(decide (g.kind = 1) && !g.tenantOnly) then refuseRegion port ld St.cxlTenant r.region s
      else if !windowOk s port ld r g then refuseRegion port ld St.cxlWindow r.region s
      else go s

/-- R458: the window entry is written or cleared. -/
def writeWindow (port ld : Nat) (r : RegionReq) (s : Dev) : Dev :=
  let s := modLd port ld (fun d => { d with
    windows := if r.arg = 0 then mdel d.windows r.window else mset d.windows r.window (requestedWindow r) }) s
  reply (.ld port ld) St.ok (regionFields s r.region 0) s

/-! ## Publishing (R465 to R469) -/

/-- R465, R466: the version numbers of a publish. -/
def versionsOk (g : Region) (expected new : BitVec 32) : Bool :=
  decide (new ≠ 0) && serialLt expected new && !(g.versions.any fun v => decide (v.2.version = new))

/-- R465: what refuses a publish before it touches anything. -/
def publishCheck (s : Dev) (port ld : Nat) (r : RegionReq) : Status :=
  match mget s.cxl.regions r.region, mget s.cxl.regions r.srcRegion with
  | some g, some src =>
    if g.kind ≠ 1 ∨ src.kind ≠ 2 then St.cxlRegionState
    else if !ownTenant s port ld g ∨ src.owner ≠ ldIndex port ld then St.cxlTenant
    else if r.offset % 65536 ≠ 0 ∨ r.length % 65536 ≠ 0 ∨ src.size < r.offset + r.length ∨ r.length = 0 ∨ g.size < r.length
        ∨ !versionsOk g r.expected r.newVersion then St.cxlRange
    else St.ok
  | _, _ => St.cxlRegionState

/-- R465 to R467, R482: REGION_PUBLISH. -/
def regionPublish (port ld : Nat) (r : RegionReq) (s : Dev) : Dev :=
  if (s.ld port ld).background.isSome then emit (.mailbox (.ld port ld) .busy []) s
  else
    let st := publishCheck s port ld r
    if st ≠ St.ok then endBackground port ld st (regionFields s r.region 0) s
    else
      let s := emit (.mailbox (.ld port ld) .background []) (modLd port ld (fun d => { d with background := some (.publish r false) }) s)
      let s := { s with cxl.frozen := s.cxl.frozen ++ [(r.srcRegion, r.offset, r.length)] }
      backInvalidate (heldLines s fun _ line _ _ => inRun (regionVa r.srcRegion 0 r.offset) r.length line) (.freeze port ld) s

/-- R468: the lines of a region's current-bound windows that any LD holds, in the slot that was current. -/
def currentLines (s : Dev) (r : Nat) (slot : Option Nat) : List (Nat × Nat) :=
  match slot with
  | none => []
  | some k =>
    heldLines s fun p line l _ =>
      let va := 64 * line
      decide (vaRegion va = r) && decide (vaSlot va = k) && (s.ld p l).windows.any fun w =>
        decide (w.2.region = r) && decide (w.2.bind = 1) && decide (w.2.offset ≤ vaOffset va)
          && decide (vaOffset va < w.2.offset + w.2.len2m * mib2)

/-- R466: the compare-and-swap: the new version enters the lowest empty slot with the bytes given; or the status that says why
not. -/
def commitVersion (r : Nat) (expected new : BitVec 32) (len : Nat) (data : List Byte) (s : Dev) : Option Status × Dev :=
  match mget s.cxl.regions r with
  | none => (some St.cxlRegionState, s)
  | some g =>
    if g.current ≠ expected then (some St.cxlVersionConflict, count Reg.cxlConflictCount s)
    else
      match leastFrom (fun k => !mhas g.versions k) 0 8 with
      | none => (some St.cxlVersionLimit, s)
      | some slot =>
        let (base, s) := t1Take 258 (8 * (len / 65536)) s
        let v : Version := { version := new, len64k := len / 65536, mapBase := base }
        let s := modRegion r (fun g => { g with versions := mset g.versions slot v, current := new, currentSlot := some slot }) s
        let s := { s with
          tir.regionUsed := s.tir.regionUsed + len
          mem := memWriteN (memClear s.mem (regionVa r slot 0) (2 ^ 43)) (regionVa r slot 0) data }
        (none, placeDefault r slot len s)

/-- R466: the poison of staged granules goes with them; the fresh granules have none. DEDUCED: log entry 67. -/
def movePoison (src off len r slot : Nat) (s : Dev) : Dev :=
  match mget s.cxl.regions src with
  | none => s
  | some g =>
    let inside (k : Nat) : Bool := decide (off / 64 ≤ k) && decide (k < (off + len) / 64)
    let moved := (g.poison.filter inside).map fun k => slot * 2 ^ 37 + (k - off / 64)
    let s := modRegion src (fun g => { g with poison := g.poison.filter fun k => !inside k }) s
    modRegion r (fun g => { g with poison := g.poison ++ moved }) s

/-- R466: the CRC pass of a publish ends. -/
def publishCrc (port ld : Nat) (s : Dev) : Dev :=
  match (s.ld port ld).background with
  | some (.publish r false) =>
    if s.cxl.snoopWaits.any fun p => decide (p.what = .freeze port ld) then s
    else
      let va := regionVa r.srcRegion 0 r.offset
      let data := memReadN s.mem va r.length
      let fail (st : Status) (s : Dev) : Dev :=
        let s := unfreeze r.srcRegion r.offset r.length s
        endBackground port ld st (regionFields s r.region 0) s
      if crc32c data ≠ r.crc then fail St.cxlChecksum s
      else if s.tir.regionPool < s.tir.regionUsed + r.length then fail St.cxlNoSpace s
      else
        let old := (mget s.cxl.regions r.region).bind (·.currentSlot)
        match commitVersion r.region r.expected r.newVersion r.length data s with
        | (some st, s) => fail st s
        | (none, s) =>
          let slot := ((mget s.cxl.regions r.region).bind (·.currentSlot)).getD 0
          let s := movePoison r.srcRegion r.offset r.length r.region slot { s with mem := memClear s.mem va r.length }
          let s := unfreeze r.srcRegion r.offset r.length s
          let s := modLd port ld (fun d => { d with background := some (.publish r true) }) s
          backInvalidate (currentLines s r.region old) (.publishDone port ld) s
  | _ => s

/-- R466, R468: a committed publish or export completes. DEDUCED: log entry 67. -/
def publishDone (port ld : Nat) (s : Dev) : Dev :=
  match (s.ld port ld).background with
  | some (.publish r true) =>
    let tenant := (mget s.cxl.regions r.region).elim deviceWide (·.tenant)
    let s := raise St.cxlRegionVersion tenant [r.region] s
    endBackground port ld St.ok (regionFields s r.region 0) s
  | _ => s

/-- R469: REGION_RETIRE. -/
def regionRetire (port ld r : Nat) (version : BitVec 32) (s : Dev) : Dev :=
  match mget s.cxl.regions r with
  | none => refuseRegion port ld St.cxlRegionState r s
  | some g =>
    if !ownTenant s port ld g then refuseRegion port ld St.cxlTenant r s
    else if g.kind = 2 then refuseRegion port ld St.cxlRegionState r s
    else
      match g.versions.find? fun v => decide (v.2.version = version) with
      | none => refuseRegion port ld St.cxlRange r s
      | some (slot, v) =>
        if g.currentSlot = some slot ∨ windowCovers s r (fun w => decide (w.bind = 2) && decide (w.slot = slot))
            ∨ rangeCovers s r (fun k => decide (k = slot)) then refuseRegion port ld St.cxlRegionInUse r s
        else
          let keep (k n : Nat) : Bool := !decide (k / n = slot)
          let s := modRegion r (fun g => { g with
            versions := mdel g.versions slot
            poison := g.poison.filter fun k => keep k (2 ^ 37)
            coldGranules := g.coldGranules.filter fun k => keep k 134217728 }) (t1Free v.mapBase s)
          let s := { s with
            tir.regionUsed := s.tir.regionUsed - 65536 * v.len64k
            mem := memClear s.mem (regionVa r slot 0) (2 ^ 43) }
          reply (.ld port ld) St.ok (regionFields s r 0) s

/-! ## REGION_HINT (R477, R478) -/

/-- R477: the granules of the range that a hint names. -/
def hintKeys (g : Region) (r : RegionReq) : List Nat :=
  let slots := if r.slot = 0xFF then List.range 8 else [r.slot]
  slots.flatMap fun slot =>
    match slotLength g slot with
    | none => []
    | some n => ((List.range (min (r.offset + r.length) n / 65536)).filter fun k => decide (r.offset / 65536 ≤ k)).map (granuleKey slot)

/-- R477, R478: REGION_HINT. -/
def regionHint (port ld : Nat) (r : RegionReq) (s : Dev) : Dev :=
  match mget s.cxl.regions r.region with
  | none => refuseRegion port ld St.cxlRegionState r.region s
  | some g =>
    if !ownTenant s port ld g then refuseRegion port ld St.cxlTenant r.region s
    else if 1 < r.arg ∨ (8 ≤ r.slot ∧ r.slot ≠ 0xFF) ∨ r.offset % mib2 ≠ 0 ∨ r.length % mib2 ≠ 0 ∨ r.length = 0
        ∨ g.size < r.offset + r.length then refuseRegion port ld St.cxlRange r.region s
    else if g.kind = 2 then
      let lines := heldLines s fun _ line _ st => inRun (regionVa r.region 0 r.offset) r.length line && !decide (st = .s)
      backInvalidate lines (.hint (.ld port ld) r) { s with cxl.frozen := s.cxl.frozen ++ [(r.region, r.offset, r.length)] }
    else backInvalidate [] (.hint (.ld port ld) r) s

/-- R477: the granules of the range are placed as hinted, as far as there is room. -/
def placeHint (rq : Requester) (r : RegionReq) (s : Dev) : Dev :=
  match mget s.cxl.regions r.region with
  | none => reply rq St.cxlRegionState (regionFields s r.region 0) s
  | some g =>
    let keys := hintKeys g r
    let s := if r.arg = 1 then placeCold r.region keys s else placeHot r.region keys s
    let cold := (mget s.cxl.regions r.region).elim [] (·.coldGranules)
    let placed := (keys.filter fun k => cold.contains k == decide (r.arg = 1)).length
    let s := if placed < keys.length then raise St.cxlHintPartial g.tenant [r.region] s else s
    let s := if g.kind = 2 then unfreeze r.region r.offset r.length s else s
    reply rq St.ok (regionFields s r.region placed) s

/-! ## REGION_EXPORT (R480, R481) -/

/-- R480: the pages that an export names, in their order; none where one is not SEALED or lies beyond the sequence. -/
def exportPages (s : Dev) (q : Seq) (r : ExportReq) : Option (List Nat) :=
  let keys := (List.range r.layerCount).flatMap fun l => (List.range r.pageCount).map fun i => l3Key (r.layerFirst + l) (r.pageFirst + i)
  let sealedAt (k : Nat) : Option Nat := (mget q.l3 k).bind fun e =>
    if (mget s.kvs.pages e.page).any fun p => decide (p.state = .sealed) then some e.page else none
  let pages := keys.filterMap sealedAt
  if pages.length = keys.length ∧ r.pageFirst + r.pageCount ≤ 65536 then some pages else none

/-- R481: length of an exported version. -/
def exportLen (q : Seq) (r : ExportReq) : Nat := 65536 * ceilDiv (r.layerCount * r.pageCount * q.page4k * 4096) 65536

/-- R480: what refuses an export. -/
def exportCheck (s : Dev) (port ld : Nat) (r : ExportReq) : Status :=
  let (st, i) := checkSeq s (.ld port ld) (s.tenantOfLd port ld) r.handle true
  if st ≠ St.ok then st
  else
    match mget s.cxl.regions r.region, mget s.kvs.seqs i with
    | some g, some q =>
      if q.state = .lost then St.kvsLost
      else if g.kind ≠ 3 then St.cxlRegionState
      else if !ownTenant s port ld g then St.cxlTenant
      else if r.layerCount = 0 ∨ r.pageCount = 0 ∨ q.layers < r.layerFirst + r.layerCount ∨ (exportPages s q r).isNone
          ∨ g.size < exportLen q r ∨ !versionsOk g r.expected r.newVersion then St.cxlRange
      else St.ok
    | _, _ => St.cxlRegionState

/-- R480, R482: REGION_EXPORT: the pages are pinned and the copy begins. -/
def regionExport (port ld : Nat) (r : ExportReq) (s : Dev) : Dev :=
  if (s.ld port ld).background.isSome then emit (.mailbox (.ld port ld) .busy []) s
  else
    let st := exportCheck s port ld r
    if st ≠ St.ok then endBackground port ld st (regionFields s r.region 0) s
    else
      match findSeq s r.handle with
      | none => s
      | some (_, q) =>
        let s := modLd port ld (fun d => { d with background := some (.exportCopy r q.tenant) }) s
        emit (.mailbox (.ld port ld) .background [])
          (forL ((exportPages s q r).getD []) (fun p s => takePin (exportOp port ld) p s) s)

/-- R101: the bytes of a page by its number. -/
def pageData (s : Dev) (p : Nat) : List Byte := (datumForm s (.page p)).2.2

/-- R480, R481: the copy of an export ends: the version is committed by compare-and-swap. DEDUCED: log entry 67. -/
def exportDone (port ld : Nat) (s : Dev) : Dev :=
  match (s.ld port ld).background with
  | some (.exportCopy r _) =>
    let op := exportOp port ld
    if s.pfx.pinWaits.any fun w => decide (w.op = op) then s
    else
      let pages := (s.pfx.pinOps.filter fun h => decide (h.op = op)).map (·.page)
      let data := pages.flatMap (pageData s)
      let len := 65536 * ceilDiv data.length 65536
      let lost := pages.any (pageIsLost s)
      let s := dropPins op s
      let fail (st : Status) (s : Dev) : Dev := endBackground port ld st (regionFields s r.region 0) s
      if lost then fail St.tirPageLost s
      else if s.tir.regionPool < s.tir.regionUsed + len then fail St.cxlNoSpace s
      else
        let old := (mget s.cxl.regions r.region).bind (·.currentSlot)
        match commitVersion r.region r.expected r.newVersion len data s with
        | (some st, s) => fail st s
        | (none, s) =>
          let done : RegionReq := { region := r.region, arg := 0, flags := 0, slot := 0, window := 0, srcRegion := 0,
                                    expected := r.expected, newVersion := r.newVersion, offset := 0, length := len, dpaBase := 0,
                                    crc := 0 }
          let s := modLd port ld (fun d => { d with background := some (.publish done true) }) s
          backInvalidate (currentLines s r.region old) (.publishDone port ld) s
  | _ => s

/-! ## REGION_QUERY (R462, R484) -/

/-- R462: the record of a region: its header, then the eight version entries. -/
def regionRecord (s : Dev) (r : Nat) : List Nat :=
  match mget s.cxl.regions r with
  | none => r :: List.replicate 34 0
  | some g =>
    let head := [r, g.tenant, g.kind, (if g.tenantOnly then 1 else 0) + (if g.cold then 2 else 0), g.owner, g.currentSlot.getD 0xFF,
                 g.size, g.current.toNat, g.versions.length, 0, g.mapBase]
    head ++ (List.range 8).flatMap fun k =>
      match mget g.versions k with
      | some v => [v.version.toNat, v.len64k, v.mapBase]
      | none => [0, 0, 0]

/-- R484: REGION_QUERY. -/
def regionQuery (port ld r : Nat) (s : Dev) : Dev :=
  match mget s.cxl.regions r with
  | none => reply (.ld port ld) St.cxlRegionState [] s
  | some g =>
    if ownTenant s port ld g || (decide (g.kind = 1) && !g.tenantOnly) then reply (.ld port ld) St.ok (regionRecord s r) s
    else reply (.ld port ld) St.cxlTenant [] s

end Sys2Proof.Machine
end

