-- ==== Sys2Proof/Machine/WStream.lean ====
section
/-! DEFINITION. Weight streams and the Blocker (R293 to R300): the request, the payload of its items, the slots. -/

namespace Sys2Proof.Machine

/-! ## The payload of an item (R294, R295) -/

/-- What an item's payload is cut from: rows, columns, row stride and element size of the source, and its bytes. -/
structure SrcShape where
  rows : Nat
  cols : Nat
  stride : Nat
  elem : Nat
  bytes : Nat
  deriving DecidableEq, Repr

/-- R293: the sequence that an item's plane belongs to. -/
def itemSeq (s : Dev) (it : WItem) : Option (Nat × Seq) :=
  match mget s.kvs.seqs (indexOf (BitVec.ofNat 32 it.source)) with
  | some q => if q.handle = BitVec.ofNat 32 it.source then some (indexOf q.handle, q) else none
  | none => none

/-- R293: layer and first page of a sequence plane. -/
def itemLayer (it : WItem) : Nat := it.srcOffset % 65536
def itemPage (it : WItem) : Nat := it.srcOffset / 2 ^ 32 % 65536

/-- R294: the shape of an item's source. -/
def srcShape (s : Dev) (it : WItem) : SrcShape :=
  if it.srcKind = 0 then
    { rows := it.tile.srcRows, cols := it.tile.srcCols, stride := it.tile.srcStride, elem := it.tile.elem, bytes := it.srcLength }
  else
    match itemSeq s it with
    | some (_, q) =>
      let e := elemSize q.format
      { rows := 16 * it.srcLength, cols := q.headDim, stride := q.headDim * e, elem := e,
        bytes := 16 * it.srcLength * q.headDim * e }
    | none => { rows := 0, cols := 0, stride := 0, elem := 1, bytes := 0 }

/-- R295: bytes of one tile. -/
def tileBytes (it : WItem) (sh : SrcShape) : Nat := it.tile.tileRows * it.tile.tileCols * sh.elem

/-- R295, R297: payload bytes of an item, padding counted. -/
def itemBytes (s : Dev) (it : WItem) : Nat :=
  let sh := srcShape s it
  if it.tile.form = 0 then sh.bytes
  else ceilDiv sh.rows (max 1 it.tile.tileRows) * ceilDiv sh.cols (max 1 it.tile.tileCols) * tileBytes it sh

/-- R295: the source offset of payload byte `k` of an item; none for a byte of padding. -/
def payloadSource (it : WItem) (sh : SrcShape) (k : Nat) : Option Nat :=
  if it.tile.form = 0 then some k
  else
    let tr := max 1 it.tile.tileRows
    let tc := max 1 it.tile.tileCols
    let t := k / max 1 (tileBytes it sh)
    let w := k % max 1 (tileBytes it sh)
    let idx := w / max 1 sh.elem
    let (row, col) := if it.tile.form = 2 then (idx % tr, idx / tr) else (idx / tc, idx % tc)
    let nR := max 1 (ceilDiv sh.rows tr)
    let nC := max 1 (ceilDiv sh.cols tc)
    let (tR, tC) := if it.tile.tileOrder = 0 then (t / nC, t % nC) else (t % nR, t / nR)
    let r := tR * tr + row
    let c := tC * tc + col
    if r < sh.rows ∧ c < sh.cols then some (r * sh.stride + c * sh.elem + w % max 1 sh.elem) else none

/-- R297: the destination offset of payload byte `k`. -/
def payloadDest (it : WItem) (sh : SrcShape) (k : Nat) : Nat :=
  if it.tile.form = 0 then it.destOffset + k
  else it.destOffset + k / max 1 (tileBytes it sh) * it.tile.dstTileStride + k % max 1 (tileBytes it sh)

/-- The datum that holds byte `off` of an item's source. -/
def sourceDatum (s : Dev) (it : WItem) (off : Nat) : Option Datum :=
  if it.srcKind = 0 then some (.block it.source ((it.srcOffset + off) / 1048576))
  else
    match itemSeq s it with
    | some (i, q) =>
      (l3Page s i (itemLayer it) (itemPage it + off / (16 * max 1 (q.headDim * elemSize q.format)))).map fun x => .page x.1
    | none => none

/-- R294: byte `off` of an item's source. -/
def sourceByte (s : Dev) (it : WItem) (off : Nat) : Byte :=
  if it.srcKind = 0 then memRead s.mem (objVa it.source (it.srcOffset + off))
  else
    match itemSeq s it with
    | some (i, q) =>
      let w := max 1 (q.headDim * elemSize q.format)
      (match l3Page s i (itemLayer it) (itemPage it + off / (16 * w)) with
      | some (_, pg) => (match pg.toks[off / w % 16]? with
        | some kv => (if it.plane = 0 then kv.k else kv.v).getD (it.kvHead * w + off % w) 0
        | none => 0)
      | none => 0)
    | none => 0

/-- R295: payload byte `k` of an item. -/
def payloadByte (s : Dev) (it : WItem) (sh : SrcShape) (k : Nat) : Byte :=
  match payloadSource it sh k with
  | some off => sourceByte s it off
  | none => BitVec.ofNat 8 (it.tile.pad / 256 ^ (k % max 1 sh.elem))

/-- The data that `n` payload bytes of an item from `k` on come from. DEDUCED: log entry 61. -/
def chunkData (s : Dev) (it : WItem) (k n : Nat) : List (Option Datum) :=
  let sh := srcShape s it
  ((List.range n).filterMap fun j => (payloadSource it sh (k + j)).map (sourceDatum s it)).eraseDups

/-- R300: the status of a chunk: the bytes are lost, or not. -/
def chunkStatus (s : Dev) (it : WItem) (data : List (Option Datum)) : Status :=
  let lost (d : Option Datum) : Bool := match d with
    | some (.page p) => pageIsLost s p
    | some (.block obj i) => (mget s.tir.objs obj).all fun o => decide (o.state = .lost) || !mhas o.blocks i
    | some _ => false
    | none => true
  if data.any lost then (if it.srcKind = 0 then St.tirObjectLost else St.tirPageLost) else St.ok

/-! ## The checks of a request (R296) -/

/-- R293, R294: the fields of an item that need nothing but the item. -/
def itemFields (it : WItem) : Bool :=
  let t := it.tile
  decide (it.srcKind ≤ 1) && decide (it.plane ≤ 1) && decide (1 ≤ it.srcLength) && decide (t.form ≤ 2)
    && (decide (t.form = 0) ||
      (decide (t.elem = 1) || decide (t.elem = 2) || decide (t.elem = 4)) && decide (1 ≤ t.tileRows) && decide (t.tileRows ≤ 256)
        && decide (1 ≤ t.tileCols) && decide (t.tileCols ≤ 256) && decide (t.tileOrder ≤ 1)
        && decide (t.tileRows * t.tileCols * t.elem ≤ t.dstTileStride))
    && (if it.srcKind = 0 then
        decide (it.plane = 0) && decide (it.kvHead = 0) && decide (it.source < 65536) &&
          (decide (t.form = 0) || decide (1 ≤ t.srcRows) && decide (1 ≤ t.srcCols) && decide (t.srcCols * t.elem ≤ t.srcStride)
            && decide ((t.srcRows - 1) * t.srcStride + t.srcCols * t.elem ≤ it.srcLength))
      else
        decide (it.srcLength ≤ 65536) && decide (t.srcRows = 0) && decide (t.srcCols = 0) && decide (t.srcStride = 0)
          && decide (it.srcOffset / 65536 % 65536 = 0) && decide (it.srcOffset < 2 ^ 48))

/-- R296 check 2: the fields of an item against its source, where that exists. DEDUCED: log entry 61. -/
def itemRange (s : Dev) (it : WItem) : Bool :=
  itemFields it && (if it.srcKind = 0 then (mget s.tir.objs it.source).all fun o => decide (it.srcOffset + it.srcLength ≤ o.size)
    else match itemSeq s it with
      | some (_, q) => decide (itemLayer it < q.layers) && decide (it.kvHead < q.kvHeads)
          && decide (itemPage it + it.srcLength ≤ ceilDiv (layerLen q (itemLayer it)) 16)
          && (decide (it.tile.form = 0) || decide (it.tile.elem = elemSize q.format))
      | none => true)

/-- R296 check 3: the item's source belongs to the tenant. -/
def itemTenant (s : Dev) (tenant : Nat) (it : WItem) : Bool :=
  if it.srcKind = 0 then (mget s.tir.objs it.source).all fun o => decide (o.tenant = tenant)
  else match itemSeq s it with
    | some (_, q) => decide (q.tenant = tenant)
    | none => true

/-- R296 check 4, R420: the object is SEALED, and this side can serve it. -/
def itemObject (s : Dev) (it : WItem) : Status :=
  if it.srcKind ≠ 0 then St.ok
  else match mget s.tir.objs it.source with
    | some o => if o.state ≠ .sealed then St.tirObjState
        else if ownsObj s it.source || (List.range (blockCount o)).all (fun i => mhas o.blocks i) then St.ok
        else St.parNotOwner
    | none => St.tirObjState

/-- R296 check 5, R187: the handle of a sequence plane. -/
def itemHandle (s : Dev) (tenant : Nat) (it : WItem) : Status :=
  if it.srcKind = 0 then St.ok
  else match itemSeq s it with
    | none => St.kvsBadHandle
    | some (i, q) =>
      if q.tenant ≠ tenant then St.kvsTenant
      else if !ownsSeq s i then St.parNotOwner
      else if q.state = .lost then St.kvsLost
      else if q.state = .closing then St.kvsState
      else St.ok

/-- The first status other than success. -/
def firstFault (l : List Status) : Status := (l.find? fun x => decide (x ≠ St.ok)).getD St.ok

/-- R293: the header's fields and the length. -/
def wstreamHeader (m : WStreamMsg) : Bool :=
  decide (1 ≤ m.itemCount) && decide (m.itemCount ≤ 1024) && decide (m.flags.toNat < 4) && decide (m.destChannel < 1048576)
    && decide (m.bodyLen = 32 + 64 * m.itemCount) && decide (m.items.length = m.itemCount)

/-- R293: flags of a request. -/
def WStreamMsg.replace (m : WStreamMsg) : Bool := m.flags.getLsbD 0
def WStreamMsg.repeats (m : WStreamMsg) : Bool := m.flags.getLsbD 1

/-- R296: the checks of a request. DEDUCED: log entry 48. DEDUCED: log entry 61. -/
def wstreamCheck (s : Dev) (tenant port : Nat) (m : WStreamMsg) : Status :=
  if !streamOnPort s m.stream port .wstream then St.tirRange
  else if !wstreamHeader m || !m.items.all (itemRange s) then St.tirRange
  else if !m.items.all (itemTenant s tenant) then St.tirTenant
  else
    match firstFault (m.items.map (itemObject s) ++ m.items.map (itemHandle s tenant)) with
    | 0 => if !WStreamMsg.replace m && mhas s.tir.lists m.stream then St.tirWstreamBusy else St.ok
    | st => st

/-! ## Lists (R297) -/

/-- The operation number under which a list holds its pins (the model's own numbering). -/
def listOp (stream : Nat) : Nat := 2 ^ 64 + 2 * stream

/-- The objects that a list reads. -/
def listObjects (m : WStreamMsg) : List Nat := ((m.items.filter fun it => decide (it.srcKind = 0)).map (·.source)).eraseDups

/-- A list ends: its pins are released, its objects read no more. -/
def endList (stream : Nat) (s : Dev) : Dev :=
  match mget s.tir.lists stream with
  | none => s
  | some l =>
    let s := forL (listObjects l.msg) (fun obj s => modObj obj (fun o => { o with readers := o.readers - 1 }) s) s
    dropPins (listOp stream) { s with tir.lists := mdel s.tir.lists stream }

/-- R297: what a slot carries of a list: chunks of items, as item, first payload byte and length; and where the list stands
then. `fuel` bounds the items. -/
def takeChunks (s : Dev) (m : WStreamMsg) : Nat → Nat → Nat → Nat → List (Nat × Nat × Nat) × Nat × Nat
  | 0, _, item, sent => ([], item, sent)
  | fuel + 1, room, item, sent =>
    if room = 0 then ([], item, sent)
    else
      match m.items[item]? with
      | none => if WStreamMsg.repeats m && decide (0 < item) then takeChunks s m fuel room 0 0 else ([], item, sent)
      | some it =>
        let left := itemBytes s it - sent
        let n := min left room
        let (item', sent') := if n = left then (item + 1, 0) else (item, sent + n)
        let (rest, e) := takeChunks s m fuel (room - n) item' sent'
        ((item, sent, n) :: rest, e)

/-- R297: chunks that one slot of the stream carries. -/
def slotChunks (s : Dev) (l : WList) (e : SlotEntry) : List (Nat × Nat × Nat) × Nat × Nat :=
  takeChunks s l.msg (2 * l.msg.items.length + e.budgetQ * 65536 + 2) (e.budgetQ * 65536) l.item l.sent

/-- R297: the data that the chunks come from. -/
def chunksData (s : Dev) (m : WStreamMsg) (cs : List (Nat × Nat × Nat)) : List Datum :=
  (cs.flatMap fun c => match m.items[c.1]? with
    | some it => (chunkData s it c.2.1 c.2.2).filterMap id
    | none => []).eraseDups

/-- R277, R298: a datum in T2 is to be promoted by `needBy`. -/
def promoteDatum (d : Datum) (needBy : Time) (s : Dev) : Dev :=
  match d with
  | .page p => if pageIsLost s p then s else (promotePage p needBy s.now s).2
  | d => match homeOf s d with
    | some (.t2 _) => queueMove d .promotion needBy s
    | _ => s

/-- R298: what the stream's slots of the next wrun_frames frames carry is promoted by their starts. -/
def promoteAhead (stream : Nat) : Nat → WList → Time → Time → Dev → Dev
  | 0, _, _, _, s => s
  | n + 1, l, from0, until0, s =>
    match s.findSlot stream .wstream (fun f e => serialLt from0 (slotStart f.start e)) (s.framesTo from0) s.reach with
    | none => s
    | some (f, e) =>
      let start := slotStart f.start e
      if serialLt until0 start then s
      else if 0 < l.skip then promoteAhead stream n { l with skip := l.skip - 1 } start until0 s
      else
        let (cs, item, sent) := slotChunks s l e
        let s := forL (chunksData s l.msg cs) (fun d s => promoteDatum d start s) s
        promoteAhead stream n { l with item, sent } start until0 s

/-- R298: run-ahead of a list's stream. -/
def runAheadList (stream : Nat) (s : Dev) : Dev :=
  match mget s.tir.lists stream with
  | none => s
  | some l =>
    let from0 := later s.now (l.msg.startTime - 1)
    promoteAhead stream (256 * s.wrunFrames) l from0 (s.now + BitVec.ofNat 64 (s.wrunFrames * s.frameUnits)) s

/-- R297: the first slot of a list. -/
def firstListSlot (s : Dev) (m : WStreamMsg) : Option (FrameRef × SlotEntry) :=
  let t := later s.now m.startTime
  s.findSlot m.stream .wstream (fun f e => serialLe t (slotStart f.start e)) (s.framesTo t) s.reach

/-- R296: WSTREAM. -/
def wstreamCmd (rq : Requester) (port : Nat) (m : WStreamMsg) (s : Dev) : Dev :=
  let tenant := (tenantOf s rq).getD 0xFFFF
  if s.tt.absentService then reply rq St.iatVariantAbsent [] s
  else
    let st := wstreamCheck s tenant port m
    if st ≠ St.ok then refuse rq st s
    else
      match firstListSlot s m with
      | none => reply rq St.iatLateLimit [] s
      | some (f, e) =>
        let total := sumBy (itemBytes s) m.items
        let l : WList := { rq, port, msg := m, tenant, item := 0, sent := 0, skip := 0, lateCount := 0 }
        let s := endList m.stream s
        let s := forL (listObjects m) (fun obj s => modObj obj (fun o => { o with readers := o.readers + 1 }) s) s
        let s := runAheadList m.stream { s with tir.lists := mset s.tir.lists m.stream l }
        reply rq St.ok [f.frame.toNat, e.slot, ceilDiv total 4096] s

/-! ## A slot (R297 to R300) -/

/-- R297: the pages of the items that start in this slot are pinned. -/
def pinItems (stream : Nat) (m : WStreamMsg) (cs : List (Nat × Nat × Nat)) (s : Dev) : Dev :=
  forL (cs.filter fun c => decide (c.2.1 = 0)) (fun c s =>
    match m.items[c.1]? with
    | none => s
    | some it =>
      if it.srcKind = 0 then s
      else
        forL ((chunkData s it 0 (itemBytes s it)).filterMap id) (fun d s => match d with
          | .page p => takePin (listOp stream) p s
          | _ => s) s) s

/-- R297: the pages of an item whose last byte has been sent are released. -/
def unpinItems (stream : Nat) (m : WStreamMsg) (cs : List (Nat × Nat × Nat)) (s : Dev) : Dev :=
  forL cs (fun c s =>
    match m.items[c.1]? with
    | none => s
    | some it =>
      if it.srcKind = 0 ∨ c.2.1 + c.2.2 < itemBytes s it then s
      else
        forL ((chunkData s it 0 (itemBytes s it)).filterMap id) (fun d s => match d with
          | .page p => dropPin (listOp stream) p s
          | _ => s) s) s

/-- R295, R297: the messages of a chunk: one for the chunk in tensor form, one for each tile in tile form; `k` is the first
payload byte, `n` the bytes left. -/
def sendChunk (l : WList) (slot : Nat) (it : WItem) (item : Nat) (bypassed lastItem : Bool) (st : Status) :
    Nat → Nat → Nat → Dev → Dev
  | 0, _, _, s => s
  | fuel + 1, k, n, s =>
    if n = 0 then s
    else
      let sh := srcShape s it
      let unit := if it.tile.form = 0 ∨ st ≠ St.ok then n else max 1 (tileBytes it sh) - k % max 1 (tileBytes it sh)
      let len := min n unit
      let total := itemBytes s it
      let h : WData := {
        status := st, stream := l.msg.stream, msgId := msgIdOf l.rq, item, frame := s.tt.frame, slot,
        lastOfItem := decide (total ≤ k + len), lastOfList := lastItem && decide (total ≤ k + len) && !WStreamMsg.repeats l.msg,
        bypassed, destOffset := payloadDest it sh k }
      let data := if st = St.ok then (List.range len).map fun j => payloadByte s it sh (k + j) else []
      let s := sendTimed l.rq 0x0A l.tenant (32 + data.length) (emit (.wdata l.rq l.port h data) s)
      sendChunk l slot it item bypassed lastItem st fuel (k + len) (n - len) s

/-- R299: the time at which the T2 reads of the data not in T1 are complete; none when everything is in T1. -/
def readsDone (s : Dev) (data : List Datum) (t0 : Time) : Option Time :=
  data.foldl (fun w d => match homeOf s d with
    | some (.t2 e) =>
      let t := match d with
        | .page p => pageProjection s p e t0
        | d => (match readInFlight s d with
          | some t => t
          | none => later t0 (mgetD s.tir.dieProj (dieOfUnit e.unit) t0) + us s.t2BoundUs)
      some (match w with | some x => later x t | none => t)
    | _ => w) none

/-- R62, R299: the weights are late: the notice of the slot to which the rest of the list shifts. DEDUCED: log entry 61. -/
def weightLate (stream : Nat) (l : WList) (e : SlotEntry) (start done : Time) (s : Dev) : Dev :=
  let bound := done + us 1
  let shift (n : Nat) (x : Option (FrameRef × SlotEntry)) : Nat × Option (FrameRef × SlotEntry) := (n, x)
  let named := s.findSlot stream .wstream (fun f e => serialLt bound (slotStart f.start e) && serialLt start (slotStart f.start e))
    (s.framesTo start) s.reach
  let between (f : FrameRef) (x : SlotEntry) : Nat :=
    sumBy (fun k => match s.frameRef k with
      | some g => ((streamSlots g stream .wstream).filter fun y => serialLt start (slotStart g.start y) &&
          serialLe (slotStart g.start y) (slotStart f.start x)).length
      | none => 0) (List.range ((f.frame - s.tt.frame).toNat + 1))
  match (shift 0 named).2 with
  | none => s
  | some (f, x) =>
    let n := between f x
    let notice : LateNotice := {
      cause := St.tirWeightLate, msgId := msgIdOf l.rq, lateCount := min 4 (l.lateCount + 1), origFrame := s.tt.frame,
      origSlot := e.slot, newFrame := f.frame, newSlot := x.slot, slotsShifted := min 65535 n, newStart := slotStart f.start x }
    let s := count Reg.tirLateCount (sendTimed l.rq 0x0A l.tenant 32 (emit (.late l.rq l.port notice) s))
    { s with tir.lists := mset s.tir.lists stream { l with skip := n - 1, lateCount := l.lateCount + 1 } }

/-- R297 to R300: what a slot of a stream with a list sends. DEDUCED: log entry 61. -/
def sendSlot (stream : Nat) (l : WList) (e : SlotEntry) (start : Time) (s : Dev) : Dev :=
  let (cs, item, sent) := slotChunks s l e
  let s := pinItems stream l.msg cs s
  let data := chunksData s l.msg cs
  let done := readsDone s (data.filter fun d => match d with | .page p => !pageIsLost s p | _ => true) (start - ns s.wleadNs)
  let direct := decide (done = none) || done.any (fun t => serialLe t (start - us 1))
  if !direct then weightLate stream l e start (done.getD start) s
  else
    let s := if done.isSome then countBy Reg.tirBypassCount
        (data.filter fun d => match homeOf s d with | some (.t2 _) => true | _ => false).length s else s
    let s := forL cs (fun c s =>
      match l.msg.items[c.1]? with
      | none => s
      | some it =>
        let ds := chunkData s it c.2.1 c.2.2
        let byp := ds.any fun d => match d with
          | some d => (match homeOf s d with | some (.t2 _) => true | _ => false)
          | none => false
        let s := forL (ds.filterMap id) (fun d s => match homeOf s d with
          | some h => markRead h s
          | none => s) s
        sendChunk l e.slot it c.1 byp (decide (c.1 + 1 = l.msg.items.length)) (chunkStatus s it ds) (c.2.2 + 1) c.2.1 c.2.2 s) s
    let s := unpinItems stream l.msg cs s
    if l.msg.items.length ≤ item then
      if WStreamMsg.repeats l.msg then
        runAheadList stream { s with tir.lists := mset s.tir.lists stream { l with item := 0, sent := 0 } }
      else endList stream s
    else runAheadList stream { s with tir.lists := mset s.tir.lists stream { l with item, sent } }

/-- R297: a WSTREAM slot starts. -/
def wstreamSlot (slot : Nat) (s : Dev) : Dev :=
  match s.frameRef 0 with
  | none => s
  | some f =>
    match f.slots.find? fun e => decide (e.slot = slot) && decide (e.cls = .wstream) with
    | none => s
    | some e =>
      let start := slotStart f.start e
      match mget s.tir.lists e.stream with
      | none => s
      | some l =>
        if serialLt start l.msg.startTime ∨ !serialLe start s.now then s
        else if 0 < l.skip then { s with tir.lists := mset s.tir.lists e.stream { l with skip := l.skip - 1 } }
        else sendSlot e.stream l e start s

/-! ## The commands -/

/-- R296: WSTREAM. -/
def execWstream (t : Time) (rq : Requester) (port : Nat) (m : WStreamMsg) (s : State) : Host.Outcome State Fault Refusal :=
  run (service t (wstreamCmd rq port m)) s

/-- R297: a WSTREAM slot starts. -/
def execWstreamSlotStart (t : Time) (slot : Nat) (s : State) : Host.Outcome State Fault Refusal :=
  run (service t (wstreamSlot slot)) s

end Sys2Proof.Machine
end

