-- ==== Sys2Proof/Machine/Channels.lean ====
section
/-! DEFINITION. Channels (R352, R370 to R388): the checks of a message, violations, the range a WRITE or READ reaches, visibility
in channel order, chained WAITs, and what a visible message does. -/

namespace Sys2Proof.Machine

/-! ## Contexts -/

/-- R372: key of a context: the channel, and for a privileged one the source device too. -/
def chanKey (h : MsgHdr) : Nat :=
  if h.channel < 256 then (endpointDevice h.src + 1) * 1048576 + h.channel else h.channel

/-- The state with a channel context changed by `f`. -/
def modChan (k : Nat) (f : Chan → Chan) (s : Dev) : Dev := { s with auv.chans := mmod s.auv.chans k f }

/-- R356: the opcode of a message. -/
def bodyOpcode : Body → Nat
  | .write => 0x01 | .read => 0x02 | .send _ => 0x03 | .attend _ => 0x04 | .append _ => 0x06 | .lookup _ => 0x07
  | .attach _ => 0x08 | .promote _ => 0x09 | .wstream _ => 0x0A | .wait _ => 0x0B | .data => 0x00

/-- R356: the traffic classes of an opcode. -/
def classOk (opcode tc : Nat) : Bool :=
  if opcode = 0x04 then decide (tc = 7)
  else if opcode = 0x06 ∨ opcode = 0x0B then decide (tc < 5) || decide (tc = 7)
  else decide (tc < 5)

/-- R372: a privileged context, as its first message makes it. -/
def privChan (h : MsgHdr) : Chan :=
  { tenant := 0, kind := 2, privileged := true, access := 4, tcMask := 0xFF, peer := h.src, nextCsn := 0, completions := 0,
    done := [], target := 0, waiting := none, aborting := false, cached := true }

/-! ## Completions and violations (R383 to R385) -/

/-- R385: the CMPL of a message. -/
def complete (h : MsgHdr) (st : Status) (completions : BitVec 32) (s : Dev) : Dev :=
  sendMsg h.src 0x21 (if st = 0 then h.tc else 0) h.tenant 0 h.msgId 16 0 false [] (emit (.msgCmpl h st completions) s)

/-- R384: a record of the violation log, counted in AUV_VIOLATION_COUNT. DEDUCED: log entry 69. -/
def logViolation (h : MsgHdr) (opcode addr : Nat) (st : Status) (s : Dev) : Dev :=
  let v : Violation := { time := s.now, src := h.src, dst := h.dst, channel := h.channel, tenant := h.tenant, opcode, port := h.port,
                         status := st, addr }
  count Reg.auvViolationCount { s with
    auv.vlog := mset s.auv.vlog (s.auv.vlogHead % 256) v
    auv.vlogHead := s.auv.vlogHead + 1 }

/-- R383: a violation on a privileged channel: no completion; both ends report it. DEDUCED: log entry 69. -/
def privViolation (h : MsgHdr) (opcode addr : Nat) (s : Dev) : Dev :=
  let s := raiseDev St.auvPrivViolation (logViolation h opcode addr St.auvPrivViolation s)
  let e : EventMsg := { status := St.auvPrivViolation, tenant := deviceWide, device := s.par.deviceId, seq := 0, time := s.now,
                        detail := [] }
  let d := endpointDevice h.src
  sendMsg (128 * d) 0x0C 6 0 1 0 32 0 false [] (emit (.peerEvent d e) s)

/-! ## The receive checks of a message (R357, steps 6 to 10) -/

/-- R382: the device of the fabric. -/
def inFabric (s : Dev) (d : Nat) : Bool := decide (deviceX d < s.par.dimX) && decide (deviceY d < s.par.dimY)

/-- R382: a privileged channel accepts the message. -/
def privAllowed (s : Dev) (h : MsgHdr) : Bool :=
  decide (h.tenant = 0) && decide (endpointNumber h.src < 64) && inFabric s (endpointDevice h.src)
    && (match h.channel with
      | 1 => decide (8 ≤ h.port)
      | 2 => decide (8 ≤ h.port)
      | 3 => decide (h.port = portPair) && decide (endpointDevice h.src = s.par.partnerId)
      | 4 => decide ((s.port h.port).farDevice = endpointDevice h.src)
      | _ => false)

/-- R357: what the checks make of a message: it passes, it is a privileged violation, or it is refused; `own` says that it comes
from the channel's own tenant and peer, so that it takes its place in the channel's order. -/
inductive Check
  | pass
  | privileged
  | refuse (st : Status) (own : Bool)
  deriving DecidableEq, Repr

/-- R357 step 9: the kind of the channel and its access allow the opcode. DEDUCED: log entry 69. -/
def kindAllows (c : Chan) (opcode : Nat) : Bool :=
  let bit (i : Nat) : Bool := decide (c.access / 2 ^ i % 2 = 1)
  if opcode = 0x0B then true
  else match c.kind with
    | 0 => (decide (opcode = 0x02) && bit 0) || (decide (opcode = 0x01) && bit 1)
    | 1 => (decide (opcode = 0x04) || (decide (0x06 ≤ opcode) && decide (opcode ≤ 0x0A))) && bit 2
    | _ => decide (opcode = 0x03) && bit 2

/-- R357 step 10, R381: the bytes lie in the range, whose tenant and access allow them. -/
def rangeCheck (s : Dev) (c : Chan) (tenant opcode off len : Nat) : Status :=
  match mget s.auv.ranges c.target with
  | none => St.auvAccess
  | some r =>
    if r.tenant ≠ tenant then St.auvTenant
    else if r.access / (if opcode = 0x02 then 1 else 2) % 2 = 0 then St.auvAccess
    else if r.len4k * 4096 < off + len then St.auvAccess
    else St.ok

/-- R357, steps 6 to 10, for `len` bytes at offset `off` of the target. DEDUCED: log entry 69. -/
def checkMsg (s : Dev) (h : MsgHdr) (opcode off len : Nat) : Check :=
  if h.channel < 256 ∧ h.channel ≠ 0 then (if privAllowed s h then .pass else .privileged)
  else
    match mget s.auv.chans (chanKey h) with
    | none => .refuse St.auvNoChannel false
    | some c =>
      let own := decide (h.src = c.peer)
      if c.tenant ≠ h.tenant then .refuse St.auvTenant false
      else if !kindAllows c opcode || !classOk opcode h.tc || !c.tcMask.getLsbD h.tc then .refuse St.auvOpcode own
      else if !own || (decide (c.kind ≠ 0) && decide (c.target ≠ endpointNumber h.dst)) then .refuse St.auvAccess own
      else if c.kind = 0 && opcode ≠ 0x0B then
        (let st := rangeCheck s c h.tenant opcode off len
        if st = St.ok then .pass else .refuse st true)
      else .pass

/-! ## The target of a WRITE or READ (R103, R289, R376, R460, R474) -/

/-- R372: device virtual address of an offset of a channel's range. -/
def targetVa (s : Dev) (h : MsgHdr) (off : Nat) : Nat :=
  ((mget s.auv.chans (chanKey h)).bind fun c => (mget s.auv.ranges c.target).map fun r => r.base.toNat + off).getD 0

/-- The object of an address in weight-object space. -/
def vaObject (va : Nat) : Nat := va / 2 ^ 44 % 2 ^ 18

/-- R288: the blocks of a run of bytes in an object. -/
def objBlocks (va len : Nat) : List Nat :=
  let off := va % 2 ^ 44
  (List.range ((off + len + 1048575) / 1048576)).filter fun i => decide (off / 1048576 ≤ i)

/-- R289, R420, R437: what refuses a WRITE to, or a READ of, an object. -/
def objectStatus (s : Dev) (tenant va len : Nat) (write : Bool) : Status :=
  let obj := vaObject va
  match mget s.tir.objs obj with
  | none => St.kvsUnmapped
  | some o =>
    if o.tenant ≠ tenant then St.tirTenant
    else if write && s.isolated then St.parIsolated
    else if write && !ownsObj s obj then St.parNotOwner
    else if write && decide (o.state ≠ .opened) then St.tirObjState
    else if o.state = .deleting then St.tirObjState
    else if o.state = .lost then St.tirObjectLost
    else if !ownsObj s obj && !((List.range (blockCount o)).all fun i => mhas o.blocks i) then St.parNotOwner
    else if o.size < va % 2 ^ 44 + len then St.kvsUnmapped
    else if !write && decide (o.state = .sealed) && (objBlocks va len).any (fun i => !mhas o.blocks i) then St.tirObjectLost
    else St.ok

/-- R460, R462: what refuses a WRITE to, or a READ of, a region: a version, once published, never changes. -/
def regionStatus (s : Dev) (va len : Nat) (write : Bool) : Status :=
  match mget s.cxl.regions (vaRegion va) with
  | none => St.kvsUnmapped
  | some g =>
    if !regionMapped s va len then St.kvsUnmapped
    else if write && decide (g.kind ≠ 2) then St.auvAccess
    else St.ok

/-- R103: what the target of a WRITE or READ answers. DEDUCED: log entry 69. -/
def targetStatus (s : Dev) (tenant va len : Nat) (write : Bool) : Status :=
  match va / 2 ^ 62 with
  | 2 => objectStatus s tenant va len write
  | 3 => regionStatus s va len write
  | _ => St.kvsUnmapped

/-- R376: the bytes are present in T1. -/
def targetPresent (s : Dev) (va len : Nat) : Bool :=
  if va / 2 ^ 62 = 2 then
    (objBlocks va len).all fun i => match homeOf s (.block (vaObject va) i) with
      | some (.t2 _) => false
      | some _ => true
      | none => false
  else true

/-- R471: the lines of a run of bytes that hosts hold; for a READ, those held M. -/
def hostLines (s : Dev) (va len : Nat) (write : Bool) : List (Nat × Nat) :=
  if va / 2 ^ 62 = 3 then heldLines s fun _ line _ st => inRun va len line && (write || decide (st = .m)) else []

/-- R367, R467, R471: the bytes of a WRITE are placed; where hosts hold their lines, once those have been given up; where their
range is frozen, once it is released. -/
def placeWrite (h : MsgHdr) (va : Nat) (data : List Byte) (s : Dev) : Dev :=
  if va / 2 ^ 62 = 3 then
    if isFrozen s (vaRegion va) (vaOffset va) data.length then holdWrite (vaRegion va) (vaOffset va) data (some h) s
    else
      match hostLines s va data.length true with
      | [] => regionStore va data s
      | lines => backInvalidate lines (.write h va data) s
  else { s with mem := memWriteN s.mem va data }

/-- R473, R474: some line of a run of bytes is poisoned. -/
def poisonedRun (s : Dev) (va len : Nat) : Bool :=
  decide (va / 2 ^ 62 = 3) && (mget s.cxl.regions (vaRegion va)).any fun g =>
    g.poison.any fun k => decide (poisonKey va ≤ k) && decide (64 * k < va % 2 ^ 46 + len)

/-- R376, R474: a READ at its visibility: RDATA, or a CMPL that says the line is poisoned. -/
def doRead (h : MsgHdr) (completions : BitVec 32) (va len : Nat) (s : Dev) : Dev :=
  if poisonedRun s va len then complete h St.cxlPoisoned completions s
  else
    let data := memReadN s.mem va len
    let s := sendMsg h.src 0x22 h.tc h.tenant 0 h.msgId len 0 false data (emit (.rdata h data) s)
    if h.cmplReq then complete h St.ok completions s else s

/-! ## RNR (R376) -/

/-- R376: nanoseconds that an RNR asks its sender to wait. -/
def retryAfter (s : Dev) : Nat × Dev := let (k, s) := draw s; (1000 + Config.retryNs k % 9999001, s)

/-- R376: an RNR. -/
def sendRnr (peer : Nat) (m : RnrMsg) (s : Dev) : Dev :=
  let s := emit (.rnrOut peer m) (count Reg.auvRnrCount s)
  match peerHop s 6 peer with
  | some p => sendControl p 0x23 (128 * peerDevice s peer) s
  | none => s

/-- R376: the reason of an RNR for a target that is not present. -/
def rnrReason (s : Dev) (va : Nat) : Status :=
  let waits (w : AllocWait) : Bool := (s.tir.moves.find? fun m => decide (m.id = w.move)).any fun m =>
    match m.datum with
    | .block obj _ => decide (obj = vaObject va)
    | _ => false
  if s.tir.allocWaits.any waits then St.tirT1Full else St.auvRnr

/-- R376: a message, or fragment, is answered with RNR. -/
def notReady (h : MsgHdr) (va frag : Nat) (psn : BitVec 24) (s : Dev) : Dev :=
  let (ns, s) := retryAfter s
  sendRnr (peerOf s h.src) { reason := rnrReason s va, msgId := h.msgId, fragIndex := frag, retryAfterNs := ns, psn } s

/-! ## Messages on their way to visibility (R370, R371) -/

/-- The two headers belong to one message. -/
def sameMsg (a b : MsgHdr) : Bool := decide (a.src = b.src) && decide (a.channel = b.channel) && decide (a.csn = b.csn)

/-- R371: the message has its place in the ordering window of its channel. -/
def csnAhead (c : Chan) (csn : BitVec 32) : Nat := (csn - c.nextCsn).toNat

/-- R371: the message is visible, or complete, already. -/
def csnPassed (c : Chan) (csn : BitVec 32) : Bool :=
  decide (2 ^ 31 ≤ csnAhead c csn) || c.done.any fun m => decide (m.csn = csn)

/-- R370: a message that is complete, or refused, waits for its turn. -/
def addDone (h : MsgHdr) (b : Body) (addr opWord : Nat) (arrived : Time) (refused : Option Status) (s : Dev) : Dev :=
  let d : DoneMsg := { csn := h.csn, hdr := h, body := b, addr, opWord, arrived, refused }
  modChan (chanKey h) (fun c => if csnPassed c h.csn then c else { c with done := c.done ++ [d] }) s

/-- R467, R471: some bytes of the message wait for a host or a frozen range. -/
def bytesWait (s : Dev) (h : MsgHdr) : Bool :=
  (s.cxl.held.any fun w => w.hdr.any (sameMsg h)) || s.cxl.snoopWaits.any fun p => match p.what with
    | .write g _ _ => sameMsg h g
    | .read g _ _ => sameMsg h g
    | _ => false

/-- R370: the lowest csn of a channel passes. DEDUCED: log entry 69. -/
def passCsn (k : Nat) (visible : Bool) (s : Dev) : Dev :=
  modChan k (fun c => { c with
    done := c.done.filter fun m => !decide (m.csn = c.nextCsn)
    nextCsn := c.nextCsn + 1
    completions := if visible then c.completions + 1 else c.completions }) s

/-- The completion counter of a channel. -/
def completionsOf (s : Dev) (k : Nat) : BitVec 32 := ((mget s.auv.chans k).map (·.completions)).getD 0

/-! ## CHAN_ADMIN (R386, R388) -/

/-- R388: the fields of a CHAN_ADMIN reply after the status. -/
def chanFields (s : Dev) (ch : Nat) : List Nat :=
  match mget s.auv.chans ch with
  | some c => [ch, c.nextCsn.toNat, c.completions.toNat]
  | none => [ch, 0, 0]

/-- R388: the number that OPEN takes: the one named, or the lowest free ordinary one. -/
def newChannel (s : Dev) (named : Nat) : Option Nat :=
  if named = 0xFFFFFFFF then
    (leastFrom (fun k => !mhas s.auv.chans k) 256 (s.auv.chans.length + 1)).bind fun k => if k < 1048576 then some k else none
  else if mhas s.auv.chans named then none else some named

/-- R388: the fields of OPEN are in range. -/
def openRange (r : ChanAdmin) : Bool :=
  decide (r.kind ≤ 2) && (decide (r.channel = 0xFFFFFFFF) || (decide (256 ≤ r.channel) && decide (r.channel < 1048576)))
    && decide (r.access < 8)
    && (if r.kind = 0 then decide (r.target < 65536) && decide (r.base.toNat % 4096 = 0) && decide (2 ^ 63 ≤ r.base.toNat)
        && decide (0 < r.len4k) else decide (r.target < 128))

/-- R388: the tenant owns the object or region that a memory channel's range covers. -/
def ownsRange (s : Dev) (r : ChanAdmin) : Bool :=
  let va := r.base.toNat
  if va / 2 ^ 62 = 2 then
    (mget s.tir.objs (vaObject va)).any fun o =>
      decide (o.tenant = r.tenant) && decide (va % 2 ^ 44 + 4096 * r.len4k ≤ 4096 * ceilDiv o.size 4096)
  else (mget s.cxl.regions (vaRegion va)).any fun g => decide (g.tenant = r.tenant) && regionMapped s va (4096 * r.len4k)

/-- R372: the range record that OPEN creates. -/
def rangeOf (r : ChanAdmin) : Range := { base := r.base, len4k := r.len4k, tenant := r.tenant, access := r.access % 4 }

/-- R372: contexts in the on-die cache. -/
def cachedCount (s : Dev) : Nat := (s.auv.chans.filter fun e => e.2.cached).length

/-- R388: OPEN as it is applied: the context, and for the memory kind its range record. DEDUCED: log entry 71. -/
def applyChanOpen (r : ChanAdmin) (s : Dev) : Applied :=
  if mhas s.auv.chans r.channel then { status := St.auvChannelBusy, fields := chanFields s r.channel, state := s }
  else
    let c : Chan := { tenant := r.tenant, kind := r.kind, privileged := false, access := r.access, tcMask := r.tcMask, peer := r.peer,
                      nextCsn := 0, completions := 0, done := [], target := r.target, waiting := none, aborting := false,
                      cached := decide (cachedCount s < 524288) }
    let s := { s with auv.chans := mset s.auv.chans r.channel c }
    let s := if r.kind = 0 then { s with auv.ranges := mset s.auv.ranges r.target (rangeOf r) } else s
    { status := St.ok, fields := chanFields s r.channel, state := s }

/-- R388: a change of a channel: a pair commit for a tenant of class M1 or M2, local otherwise. -/
def chanChange (rq : Requester) (tenant : Nat) (op : PairOp) (ap : Dev → Applied) (s : Dev) : Dev :=
  if tenantMirror s tenant = .m0 then (let r := ap s; reply rq r.status r.fields r.state) else pairChange rq op none ap s

/-- R388: CHAN_ADMIN OPEN. -/
def chanOpenCmd (rq : Requester) (r : ChanAdmin) (s : Dev) : Dev :=
  if !tenantOk s rq r.tenant then refuse rq St.kvsTenant s
  else if !openRange r then reply rq St.auvRange [r.channel, 0, 0] s
  else
    match newChannel s r.channel with
    | none => reply rq St.auvChannelBusy (chanFields s r.channel) s
    | some k =>
      if r.kind = 0 && (mget s.auv.ranges r.target).any (fun x => decide (x ≠ rangeOf r)) then reply rq St.auvRange [k, 0, 0] s
      else if r.kind = 0 && !ownsRange s r then reply rq St.auvAccess [k, 0, 0] s
      else
        let r := { r with channel := k }
        chanChange rq r.tenant (.chanOpen r) (applyChanOpen r) s

/-- R388: the messages of a channel that are not visible: complete ones, a WAIT that holds it, READs that stall, messages with
fragments missing; those refused already have had their completion. -/
def openMessages (s : Dev) (ch : Nat) (c : Chan) : List MsgHdr :=
  (c.waiting.toList.map (·.hdr)) ++ ((c.done.filter fun m => m.refused.isNone).map (·.hdr))
    ++ ((s.auv.stalls.filter fun x => decide (x.hdr.channel = ch)).map (·.hdr))
    ++ ((s.auv.reasm.filter fun x => decide (x.channel = ch) && x.dead.isNone).map (·.hdr))

/-- R388: CLOSE as it is applied: every incomplete message becomes visible without effect, and the context is free. -/
def applyChanClose (ch : Nat) (s : Dev) : Applied :=
  match mget s.auv.chans ch with
  | none => { status := St.auvNoChannel, fields := chanFields s ch, state := s }
  | some c =>
    let msgs := openMessages s ch c
    let n := BitVec.ofNat 32 msgs.length
    let fields := [ch, (c.nextCsn + n).toNat, (c.completions + n).toNat]
    let s := (msgs.foldl (fun (x : BitVec 32 × Dev) h => (x.1 + 1, complete h St.auvChannelClosed (x.1 + 1) x.2)) (c.completions, s)).2
    let gone (w : SnoopPending) : Bool := match w.what with
      | .write h _ _ => decide (h.channel = ch)
      | .read h _ _ => decide (h.channel = ch)
      | _ => false
    let s := { s with
      auv.chans := mdel s.auv.chans ch
      auv.stalls := s.auv.stalls.filter fun x => !decide (x.hdr.channel = ch)
      auv.reasm := s.auv.reasm.filter fun x => !decide (x.channel = ch)
      auv.misses := s.auv.misses.filter fun x => !decide (x.packet.channel = ch)
      cxl.held := s.cxl.held.filter fun w => !w.hdr.any fun h => decide (h.channel = ch)
      cxl.snoopWaits := s.cxl.snoopWaits.filter fun w => !gone w }
    let used := s.auv.chans.any fun e => decide (e.2.kind = 0) && decide (e.2.target = c.target)
    let s := if c.kind = 0 ∧ !used then { s with auv.ranges := mdel s.auv.ranges c.target } else s
    { status := St.ok, fields, state := s }

/-- R388: the tenant's channel. -/
def chanCheck (s : Dev) (rq : Requester) (tenant ch : Nat) : Status :=
  if !tenantOk s rq tenant then St.kvsTenant
  else
    match mget s.auv.chans ch with
    | none => St.auvNoChannel
    | some c => if c.privileged then St.auvNoChannel else if c.tenant ≠ tenant then St.auvTenant else St.ok

/-- R388: CHAN_ADMIN CLOSE. -/
def chanCloseCmd (rq : Requester) (tenant ch : Nat) (s : Dev) : Dev :=
  let st := chanCheck s rq tenant ch
  if st ≠ St.ok then refuse rq st s else chanChange rq tenant (.chanClose ch) (applyChanClose ch) s

/-- R388: CHAN_ADMIN QUERY. -/
def chanQueryCmd (rq : Requester) (tenant ch : Nat) (s : Dev) : Dev :=
  let st := chanCheck s rq tenant ch
  if st ≠ St.ok then refuse rq st s else reply rq St.ok (chanFields s ch) s

/-- R386: who may set all: an operator LD's mailbox, and the privileged management channel. DEDUCED: log entry 71. -/
def mayAll (s : Dev) : Requester → Status
  | .ld p l => if isOperator s (.ld p l) then St.ok else St.cxlNotOperator
  | .auvas h _ => if h.channel = 1 then St.ok else St.auvAccess
  | _ => St.ok

/-- R386: the subscription that a request names. -/
def namedSub (r : ChanAdmin) (u : Subscription) : Bool :=
  decide (u.dst = r.peer) && decide (u.channel = r.target) && decide (u.tenant = r.tenant)

/-- R386: CHAN_ADMIN SUBSCRIBE. DEDUCED: log entry 71. -/
def subscribeCmd (rq : Requester) (r : ChanAdmin) (s : Dev) : Dev :=
  let all := decide (r.kind % 2 = 1)
  if !tenantOk s rq r.tenant then refuse rq St.kvsTenant s
  else if 2 ≤ r.kind ∨ r.target < 256 ∨ 1048576 ≤ r.target then reply rq St.auvRange [r.target, 0, 0] s
  else if all && decide (mayAll s rq ≠ St.ok) then reply rq (mayAll s rq) [r.target, 0, 0] s
  else
    let rest := s.auv.subs.filter fun u => !namedSub r u
    if 256 ≤ rest.length then reply rq St.auvRange [r.target, 0, 0] s
    else
      let u : Subscription := { dst := r.peer, channel := r.target, tenant := r.tenant, mask := r.mask, all, seq := 0, queue := [],
                                lost := 0 }
      reply rq St.ok [r.target, 0, 0] { s with auv.subs := rest ++ [u] }

/-- R386: CHAN_ADMIN UNSUBSCRIBE. DEDUCED: log entry 71. -/
def unsubscribeCmd (rq : Requester) (r : ChanAdmin) (s : Dev) : Dev :=
  if !tenantOk s rq r.tenant then refuse rq St.kvsTenant s
  else if s.auv.subs.any (namedSub r) then
    reply rq St.ok [r.target, 0, 0] { s with auv.subs := s.auv.subs.filter fun u => !namedSub r u }
  else reply rq St.auvNoChannel [r.target, 0, 0] s

/-! ## What a visible message does (R352, R370) -/

/-- R127: a SEQ_ADMIN request of a SEND. -/
def seqAdminCmd (rq : Requester) (r : SeqAdmin) (s : Dev) : Dev :=
  let t := s.now
  match r.subop with
  | 0 => openCmd t rq r.tenant r.model r.format r.scope s
  | 1 => closeCmd t rq r.tenant r.handle s
  | 2 => parkCmd rq r.tenant r.handle s
  | 3 => resumeCmd t rq r.tenant r.handle s
  | 4 => truncateCmd t rq r.tenant r.handle r.length s
  | 5 => queryCmd rq r.tenant r.handle s
  | 6 => joinCmd rq r.tenant r.handle r.stream r.position s
  | 7 => leaveCmd rq r.tenant r.handle r.stream s
  | _ => refuse rq St.kvsRange s

/-- R291: an OBJ_ADMIN request of a SEND. -/
def objAdminCmd (rq : Requester) (r : ObjAdmin) (s : Dev) : Dev :=
  match r.subop with
  | 0 => objCreateCmd rq r s
  | 1 => objSealCmd rq r.tenant r.object s
  | 2 => objDeleteCmd rq r.tenant r.object s
  | 3 => objQueryCmd rq r.tenant r.object s
  | 4 => objReopenCmd rq r.tenant r.object s
  | 5 => objCopyInCmd rq r s
  | _ => reply rq St.tirRange [] s

/-- R388: a CHAN_ADMIN request of a SEND. -/
def chanAdminCmd (rq : Requester) (r : ChanAdmin) (s : Dev) : Dev :=
  match r.subop with
  | 0 => chanOpenCmd rq r s
  | 1 => chanCloseCmd rq r.tenant r.channel s
  | 2 => subscribeCmd rq r s
  | 3 => unsubscribeCmd rq r s
  | 4 => chanQueryCmd rq r.tenant r.channel s
  | _ => reply rq St.auvRange [r.channel, 0, 0] s

/-- R352: a SEND at its endpoint. -/
def deliverSend (h : MsgHdr) (completions : BitVec 32) (b : SendBody) (s : Dev) : Dev :=
  let rq := Requester.auvas h completions
  match b with
  | .seqAdmin r => seqAdminCmd rq r s
  | .objAdmin r => objAdminCmd rq r s
  | .chanAdmin r => chanAdminCmd rq r s
  | .bytes data =>
    let s := emit (.deliver h data) s
    if h.cmplReq then complete h St.ok completions s else s

/-- R370: the effect of a message at its visibility. DEDUCED: log entry 41. -/
def visibleEffect (m : DoneMsg) (completions : BitVec 32) (s : Dev) : Dev :=
  let rq := Requester.auvas m.hdr completions
  match m.body with
  | .write => if m.hdr.cmplReq then complete m.hdr St.ok completions s else s
  | .read => doRead m.hdr completions (targetVa s m.hdr m.addr) m.opWord s
  | .send b => deliverSend m.hdr completions b s
  | .attend a => attendCmd s.now m.arrived rq m.hdr.port a s
  | .append a => appendCmd s.now rq a none s
  | .lookup a => lookupCmd s.now rq a none s
  | .attach a => attachCmd s.now rq a s
  | .promote a => promoteCmd s.now rq a s
  | .wstream a => wstreamCmd rq m.hdr.port a s
  | .wait _ => s
  | .data => s

/-! ## WAIT (R378 to R380) -/

/-- R380: entries of the wait table in use. -/
def waitingCount (s : Dev) : Nat := (s.auv.chans.filter fun e => e.2.waiting.isSome).length

/-- R378: nanoseconds of a WAIT's timeout. -/
def waitLimit (m : WaitMsg) : Time := us (if m.timeoutUs = 0 then 10000 else m.timeoutUs)

/-- R378, R379: how a WAIT at the head of a channel of `tenant` ends; none while it holds. `held` says that it holds already. -/
def waitEnds (s : Dev) (tenant : Nat) (m : WaitMsg) (held : Bool) : Option Status :=
  match mget s.auv.chans m.waitChannel with
  | none => some (if held then St.auvChannelClosed else St.auvNoChannel)
  | some b =>
    if b.privileged then some St.auvNoChannel
    else if b.tenant ≠ tenant then some St.auvTenant
    else if serialLe m.threshold b.completions then some St.ok
    else if !held && decide (4096 ≤ waitingCount s) then some St.auvWaitTableFull
    else none

/-- R378, R380: a WAIT becomes visible with a status. -/
def endWaitMsg (k : Nat) (h : MsgHdr) (st : Status) (s : Dev) : Dev :=
  let s := modChan k (fun c => { c with waiting := none }) (passCsn k true s)
  if h.cmplReq || decide (st ≠ St.ok) then complete h st (completionsOf s k) s else s

/-! ## The order of a channel (R370, R374, R380) -/

/-- R370: the message whose turn it is on a channel. -/
def headMsg (c : Chan) : Option DoneMsg := c.done.find? fun m => decide (m.csn = c.nextCsn)

/-- R370, R378: something of the channel can go on. -/
def chanReady (s : Dev) (c : Chan) : Bool :=
  match c.waiting with
  | some w => (waitEnds s c.tenant w.msg true).isSome
  | none => (headMsg c).any fun m => m.refused.isSome || !bytesWait s m.hdr

/-- R370: the head of a channel has its turn. -/
def headTurn (k : Nat) (c : Chan) (m : DoneMsg) (s : Dev) : Dev :=
  match m.refused, m.body with
  | some _, _ => passCsn k false s
  | none, .wait w =>
    let s := modChan k (fun c => { c with aborting := false }) s
    match waitEnds s c.tenant w false with
    | some st => endWaitMsg k m.hdr st s
    | none => modChan k (fun c => { c with waiting := some { hdr := m.hdr, msg := w, since := s.now } }) s
  | none, _ =>
    let s := passCsn k true s
    if c.aborting then complete m.hdr St.auvChainAborted (completionsOf s k) s
    else visibleEffect m (completionsOf s k) s

/-- R370, R378: one step of a channel. -/
def chanTurn (k : Nat) (c : Chan) (s : Dev) : Dev :=
  match c.waiting with
  | some w =>
    (match waitEnds s c.tenant w.msg true with
    | some st => endWaitMsg k w.hdr st s
    | none => s)
  | none =>
    (match headMsg c with
    | some m => headTurn k c m s
    | none => s)

/-- R370: channels go on, the lowest first, until none can. DEDUCED: log entry 70. -/
def drive : Nat → Dev → Dev
  | 0, s => s
  | n + 1, s =>
    match s.auv.chans.find? fun e => chanReady s e.2 with
    | none => s
    | some e => drive n (chanTurn e.1 e.2 s)

/-- Steps that the messages at hand can take. -/
def driveFuel (s : Dev) : Nat := sumBy (fun e => 2 * e.2.done.length + 2) s.auv.chans

/-- R370: every channel goes as far as it can. -/
def settleChannels (s : Dev) : Dev := drive (driveFuel s) s

/-! ## Stalled READs (R376) -/

/-- R376: READs whose bytes have come into T1, or whose target refuses them now, go on. -/
def landStalls (s : Dev) : Dev :=
  let va (x : ReadStall) : Nat := targetVa s x.hdr x.addr
  let ready (x : ReadStall) : Bool := targetPresent s (va x) x.bytes
  let go := s.auv.stalls.filter ready
  let s := { s with auv.stalls := s.auv.stalls.filter fun x => !ready x }
  forL go (fun x s => addDone x.hdr .read x.addr x.bytes s.now none s) s

/-! ## A whole message (R357, R370, R376) -/

/-- R376: a READ: it stalls until its bytes lie in T1; lines that a host has changed are written back first. -/
def takeRead (h : MsgHdr) (addr bytes : Nat) (psn : BitVec 24) (s : Dev) : Dev :=
  let va := targetVa s h addr
  if targetPresent s va bytes then
    let s := match hostLines s va bytes false with
      | [] => s
      | lines => backInvalidate lines (.read h addr bytes) s
    addDone h .read addr bytes s.now none s
  else if s.auv.stalls.any fun x => sameMsg x.hdr h then s
  else
    let s := forL (objBlocks va bytes) (fun i s => promoteDatum (.block (vaObject va) i) s.now s) s
    { s with auv.stalls := s.auv.stalls ++ [{ hdr := h, addr, bytes, since := s.now, psn }] }

/-- R383, R385: a message is refused: one error completion; `own` lets its csn pass without effect. -/
def refuseMsg (h : MsgHdr) (b : Body) (opcode addr : Nat) (st : Status) (own violation : Bool) (s : Dev) : Dev :=
  let s := complete h st 0 s
  let s := if violation then logViolation h opcode addr st s else if countsAsRefusal st then count Reg.kvsRefusals s else s
  if own then addDone h b addr 0 s.now (some st) s else s

/-- R357, R370: a message reaches its channel whole: checks 6 to 11, its bytes placed, and its turn. DEDUCED: log entry 41. -/
def takeMsg (h : MsgHdr) (b : Body) (addr len : Nat) (data : List Byte) (s : Dev) : Dev :=
  let opcode := bodyOpcode b
  match checkMsg s h opcode addr len with
  | .privileged => privViolation h opcode addr s
  | .refuse st own => refuseMsg h b opcode addr st own true s
  | .pass =>
    let s := if h.channel < 256 ∧ !mhas s.auv.chans (chanKey h) then
        { s with auv.chans := mset s.auv.chans (chanKey h) (privChan h) }
      else s
    match mget s.auv.chans (chanKey h) with
    | none => s
    | some c =>
      if csnPassed c h.csn || decide (64 ≤ csnAhead c h.csn) then s
      else if opcode = 0x01 ∨ opcode = 0x02 then
        let va := targetVa s h addr
        let st := targetStatus s h.tenant va len (decide (opcode = 0x01))
        if st ≠ St.ok then refuseMsg h b opcode addr st true false s
        else if opcode = 0x02 then takeRead h addr len 0 s
        else if targetPresent s va len then addDone h b addr len s.now none (placeWrite h va data s)
        else notReady h va 0 0 s
      else addDone h b addr len s.now none s

end Sys2Proof.Machine
end

