-- ==== Sys2Proof/Machine/Snoops.lean ====
section
/-! DEFINITION. What goes on once hosts have given their lines up (R458, R464, R468, R470, R471, R474, R477), and with it the
channels and the READs that waited. -/

namespace Sys2Proof.Machine

/-- R467, R471: the bytes of a WRITE land after the host's write-back. -/
def landWrite (h : MsgHdr) (va : Nat) (data : List Byte) (s : Dev) : Dev :=
  if !regionMapped s va data.length then s
  else if isFrozen s (vaRegion va) (vaOffset va) data.length then holdWrite (vaRegion va) (vaOffset va) data (some h) s
  else regionStore va data s

/-- R471: an action whose lines have all been given up. -/
def proceed (w : SnoopWait) (s : Dev) : Dev :=
  match w with
  | .grant port ld dpa _ hold => memReadLine port ld dpa (some hold) s
  | .mapEntry (.ld p l) r => writeWindow p l r s
  | .mapEntry _ _ => s
  | .freeze _ _ => s
  | .publishDone p l => publishDone p l s
  | .reset rq r => resetRegion rq r s
  | .delete rq r => deleteRegion rq r s
  | .write h va data => landWrite h va data s
  | .read _ _ _ => s
  | .hint rq r => placeHint rq r s

/-- R471: actions that wait for nothing any more go on, oldest first, `fuel` at most. -/
def settleSnoops : Nat → Dev → Dev
  | 0, s => s
  | n + 1, s =>
    match s.cxl.snoopWaits.find? fun p => p.lines.isEmpty with
    | none => s
    | some p => settleSnoops n (proceed p.what { s with cxl.snoopWaits := s.cxl.snoopWaits.erase p })

/-- R370, R376, R471: whatever waited and need not wait any more goes on. -/
def goOn (s : Dev) : Dev := settleChannels (landStalls (settleSnoops (2 * s.cxl.snoopWaits.length + 2) s))

/-! ## Moves that may bring bytes in for a READ (R263, R264, R301, R376) -/

/-- R266: a move's copy ends. -/
def execMoveCopyComplete (t : Time) (move : Nat) (sourceOk : Bool) (s : State) : Host.Outcome State Fault Refusal :=
  run (awake t fun s => goOn (copyComplete move sourceOk s)) s

/-- R263: the grants that a switch held are released. -/
def execPinGrantHoldTimeout (t : Time) (move : Nat) (s : State) : Host.Outcome State Fault Refusal :=
  run (awake t fun s => goOn (grantHoldTimeout move s)) s

/-- R263: a drained location is freed. -/
def execDrainFree (t : Time) (d : Datum) (s : State) : Host.Outcome State Fault Refusal := run (awake t fun s => goOn (drainFree d s)) s

/-- R264: a wait for a drain entry ends. -/
def execDrainWaitTimeout (t : Time) (move : Nat) (s : State) : Host.Outcome State Fault Refusal :=
  run (awake t fun s => goOn (drainWaitTimeout move s)) s

/-- R259: an allocation that waited is granted. -/
def execT1AllocGranted (t : Time) (move : Nat) (s : State) : Host.Outcome State Fault Refusal := run (awake t fun s => goOn (allocGranted move s)) s

/-- R301: a mirror copy arrives. -/
def execRefetchArrived (t : Time) (d : Datum) (s : State) : Host.Outcome State Fault Refusal := run (awake t fun s => goOn (refetchArrived d s)) s

end Sys2Proof.Machine
end

