-- ==== Sys2Proof/Machine/Hosts.lean ====
section
/-! DEFINITION. The commands of hosts: CXL.mem, the link and its resets (R454, R457, R470 to R474, R586), and the REGION_ commands
(R456 to R469, R477 to R484). -/

namespace Sys2Proof.Machine

/-! ## CXL.mem and back-invalidation -/

/-- R451, R453, R505: the LD serves CXL.mem: its port's link is up, its domain ON, the LD ACTIVE. A self-fenced or joining device
serves it too (R559). DEDUCED: log entry 68. -/
def memServed (s : Dev) (port ld : Nat) : Bool :=
  s.cxl.links.contains port && decide ((s.domain (100 + port)).state = .on) && decide (s.cfg.phase = .run)
    && decide ((s.ld port ld).state = .active)

/-- R457: a CXL.mem read. -/
def cxlRead (port ld dpa : Nat) (hold : Option LineState) (s : Dev) : Dev :=
  if memServed s port ld then goOn (memReadLine port ld dpa hold s) else s

/-- R457, R467: a CXL.mem write. -/
def cxlWrite (port ld dpa : Nat) (data : List Byte) (s : Dev) : Dev :=
  if memServed s port ld then goOn (memWriteLine port ld dpa data s) else s

/-- R472: a BISnp has not been answered within 1 ms. -/
def snoopTimeout (port ld line : Nat) (s : Dev) : Dev :=
  match (mget (s.filter port) (snoopKey line ld)).bind (·.snooped) with
  | some t => if past t (ms 1) s.now then goOn (hostFails port ld s) else s
  | none => s

/-! ## Links and resets -/

/-- The LDs of a port. -/
def ldsOf (f : Nat → Dev → Dev) (s : Dev) : Dev := forN 16 f s

/-- R472: surprise link down, or viral, fails every LD of the port. -/
def linkDown (port : Nat) (viral : Bool) (s : Dev) : Dev :=
  if s.cxl.links.contains port then
    let s := ldsOf (hostFails port) s
    goOn (if viral then s else { s with cxl.links := s.cxl.links.erase port })
  else s

/-- R451, R502, R506: the CXL ports train: from the end of start-up step 2 on, and in recovery. -/
def cxlTrains (s : Dev) (port : Nat) : Bool :=
  (keepsTime s || decide (s.cfg.phase = .recovery)) && decide ((s.domain (100 + port)).state = .on)

/-- R453: the link is up and enumerated: FAILED LDs are ACTIVE again. -/
def linkUp (port : Nat) (s : Dev) : Dev :=
  if cxlTrains s port then
    let s := { s with cxl.links := if s.cxl.links.contains port then s.cxl.links else s.cxl.links ++ [port] }
    ldsOf (fun l s => if (s.ld port l).state = .failed then resetLd port l s else s) s
  else s

/-- R454: an LD, conventional or CXL reset. -/
def ldResetCmd (port ld : Nat) (s : Dev) : Dev := if s.cxl.links.contains port then goOn (resetLd port ld s) else s

/-- R554, R586: `CXLk_PERST_n`. -/
def perst (port heldNs : Nat) (s : Dev) : Dev :=
  if heldNs < 200 then count Reg.rasGlitchCount s else goOn (ldsOf (resetLd port) s)

/-- R472, R482: HOST_FAIL. -/
def hostFailCmd (rq : Requester) (port ld : Nat) (s : Dev) : Dev :=
  if 2 ≤ port ∨ 16 ≤ ld then reply rq St.cxlRange [] s else reply rq St.ok [] (goOn (hostFails port ld s))

/-! ## REGION_ commands -/

/-- R482: a REGION_ command comes from an LD's mailbox; from elsewhere its opcode is unknown. -/
def regionCmd (rq : Requester) (f : Nat → Nat → Dev → Dev) (s : Dev) : Dev :=
  match rq with
  | .ld p l => goOn (f p l s)
  | _ => emit (.mailbox rq .unsupported []) s

/-! ## The commands -/

/-- R457: a CXL.mem read. -/
def execCxlMemRead (t : Time) (port ld dpa : Nat) (hold : Option LineState) (s : State) : Host.Outcome State Fault Refusal :=
  run (awake t (cxlRead port ld dpa hold)) s

/-- R457: a CXL.mem write. -/
def execCxlMemWrite (t : Time) (port ld dpa : Nat) (data : List Byte) (s : State) : Host.Outcome State Fault Refusal :=
  run (awake t (cxlWrite port ld dpa data)) s

/-- R470: a host's answer to a BISnp. -/
def execBisnpResponse (t : Time) (port ld line : Nat) (data : Option (List Byte)) (s : State) : Host.Outcome State Fault Refusal :=
  run (awake t fun s => goOn (snoopAnswer port ld line data s)) s

/-- R472: a BISnp goes unanswered. -/
def execBisnpTimeout (t : Time) (port ld line : Nat) (s : State) : Host.Outcome State Fault Refusal :=
  run (awake t (snoopTimeout port ld line)) s

/-- R472: surprise link down or viral. -/
def execCxlLinkDown (t : Time) (port : Nat) (viral : Bool) (s : State) : Host.Outcome State Fault Refusal :=
  run (awake t (linkDown port viral)) s

/-- R453: link up with enumeration. -/
def execCxlLinkUp (t : Time) (port : Nat) (s : State) : Host.Outcome State Fault Refusal := run (awake t (linkUp port)) s

/-- R454: an LD reset. -/
def execLdReset (t : Time) (port ld : Nat) (s : State) : Host.Outcome State Fault Refusal := run (awake t (ldResetCmd port ld)) s

/-- R586: `CXLk_PERST_n` low. -/
def execCxlPerst (t : Time) (port heldNs : Nat) (s : State) : Host.Outcome State Fault Refusal := run (awake t (perst port heldNs)) s

/-- R472: HOST_FAIL. -/
def execHostFail (t : Time) (rq : Requester) (port ld : Nat) (s : State) : Host.Outcome State Fault Refusal :=
  run (vendor t rq true (hostFailCmd rq port ld)) s

/-- R463: REGION_CREATE. -/
def execRegionCreate (t : Time) (rq : Requester) (r : RegionReq) (s : State) : Host.Outcome State Fault Refusal :=
  run (vendor t rq false (regionCmd rq fun p l => regionCreate p l r)) s

/-- R464: REGION_DELETE. -/
def execRegionDelete (t : Time) (rq : Requester) (region : Nat) (s : State) : Host.Outcome State Fault Refusal :=
  run (vendor t rq false (regionCmd rq fun p l => regionDelete p l region)) s

/-- R474: REGION_RESET. -/
def execRegionReset (t : Time) (rq : Requester) (region : Nat) (s : State) : Host.Outcome State Fault Refusal :=
  run (vendor t rq false (regionCmd rq fun p l => regionReset p l region)) s

/-- R458: REGION_MAP. -/
def execRegionMap (t : Time) (rq : Requester) (r : RegionReq) (s : State) : Host.Outcome State Fault Refusal :=
  run (vendor t rq false (regionCmd rq fun p l => regionMap p l r)) s

/-- R465: REGION_PUBLISH. -/
def execRegionPublish (t : Time) (rq : Requester) (r : RegionReq) (s : State) : Host.Outcome State Fault Refusal :=
  run (vendor t rq false (regionCmd rq fun p l => regionPublish p l r)) s

/-- R466: the CRC pass of a publish ends. -/
def execPublishCrcComplete (t : Time) (port ld : Nat) (s : State) : Host.Outcome State Fault Refusal :=
  run (awake t fun s => goOn (publishCrc port ld s)) s

/-- R469: REGION_RETIRE. -/
def execRegionRetire (t : Time) (rq : Requester) (region : Nat) (version : BitVec 32) (s : State) :
    Host.Outcome State Fault Refusal :=
  run (vendor t rq false (regionCmd rq fun p l => regionRetire p l region version)) s

/-- R477: REGION_HINT. -/
def execRegionHint (t : Time) (rq : Requester) (r : RegionReq) (s : State) : Host.Outcome State Fault Refusal :=
  run (vendor t rq false (regionCmd rq fun p l => regionHint p l r)) s

/-- R480: REGION_EXPORT. -/
def execRegionExport (t : Time) (rq : Requester) (r : ExportReq) (s : State) : Host.Outcome State Fault Refusal :=
  run (vendor t rq false (regionCmd rq fun p l => regionExport p l r)) s

/-- R480: the copy of an export ends. -/
def execExportCopyComplete (t : Time) (port ld : Nat) (s : State) : Host.Outcome State Fault Refusal :=
  run (awake t fun s => goOn (exportDone port ld s)) s

/-- R462: REGION_QUERY. -/
def execRegionQuery (t : Time) (rq : Requester) (region : Nat) (s : State) : Host.Outcome State Fault Refusal :=
  run (vendor t rq false (regionCmd rq fun p l => regionQuery p l region)) s

end Sys2Proof.Machine
end

