-- ==== Sys2Proof/Machine/Egress.lean ====
section
/-! DEFINITION. Egress scheduling (R391 to R411), gate control lists (R395 to R402), transit and ingress policing (R412 to R416). -/

namespace Sys2Proof.Machine

/-! ## Gate control lists: their checks (R396, R397) -/

/-- R395: the start of entry `k`, in ns from the cycle's start. -/
def entryStartNs (g : GateList) (k : Nat) : Nat := sumBy (·.intervalNs) (g.entries.take k)

/-- R396: nanoseconds of a list's cycle. -/
def listNs (g : GateList) : Nat := sumBy (·.intervalNs) g.entries

/-- R396: the header fields, the sum of the intervals and the cycle, against the timetable `tt`. -/
def listHeaderOk (tt : Timetable) (g : GateList) : Bool :=
  decide (g.port < 13) && decide (1 ≤ g.entryCount) && decide (g.entryCount ≤ 128) && decide (g.entries.length = g.entryCount)
    && decide (1 ≤ g.cycleFrames) && decide (g.cycleFrames ≤ 64) && decide (listNs g = g.cycleFrames * tt.frameNs)
    && decide (g.cycleFrames = tt.cycleFrames)

/-- R396: the class that a slot needs open on a port, and its run in the cycle, in ns. -/
def slotGate (tt : Timetable) (port : Nat) (e : SlotEntry) : Option (Nat × Nat × Nat) :=
  if e.port ≠ port then none
  else
    let a := e.framePos * tt.frameNs + e.startNs
    match e.cls with
    | .result => some (7, a, a + e.lengthNs)
    | .wstream => some (7, a, a + e.lengthNs)
    | .transit => some (7, a, a + e.lengthNs)
    | .mirror => if port = portPair then some (5, a, a + e.lengthNs) else none
    | _ => none

/-- R396: entry `k` lasts at least 64 ns and opens what the slots that meet it need. -/
def entryGood (tt : Timetable) (g : GateList) (k : Nat) (e : GateEntry) : Bool :=
  let a := entryStartNs g k
  let b := a + e.intervalNs
  decide (64 ≤ e.intervalNs) && (tt.slots.filterMap (slotGate tt g.port)).all fun x =>
    e.gates.getLsbD x.1 || decide (x.2.2 ≤ a) || decide (b ≤ x.2.1)

/-- R396: TC6 is open for some interval in each frame of the cycle. -/
def tc6InEveryFrame (tt : Timetable) (g : GateList) : Bool :=
  (List.range g.cycleFrames).all fun f => (List.range g.entries.length).any fun k =>
    match g.entries[k]? with
    | some e =>
      let a := entryStartNs g k
      e.gates.getLsbD 6 && decide (a < (f + 1) * tt.frameNs) && decide (f * tt.frameNs < a + e.intervalNs)
    | none => false

/-- R396, R397: what refuses a list against the timetable in force at its effective time, with the index that the completion names:
0xFF for the header. DEDUCED: log entry 72. -/
def gateListFault (tt : Timetable) (g : GateList) : Option (Status × Nat) :=
  if !listHeaderOk tt g then some (St.shpGclInvalid, 0xFF)
  else
    match (List.range g.entries.length).find? fun k => (g.entries[k]?).all fun e => !entryGood tt g k e with
    | some k => some (St.shpGclInvalid, k)
    | none =>
      if !tc6InEveryFrame tt g then some (St.shpGclInvalid, 0xFF)
      else if g.baseTime.toNat % max 1 tt.cycleUnits ≠ tt.baseTime.toNat % max 1 tt.cycleUnits then some (St.shpBaseMisaligned, 0xFF)
      else none

/-! ## Activation (R398 to R401) -/

/-- R398: units of a list's cycle. -/
def listUnits (g : GateList) : Nat := max 1 (16 * listNs g)

/-- R398: the smallest n that places base_time + n × cycle at least one running frame ahead. -/
def listN (s : Dev) (g : GateList) : Nat :=
  let due := s.now + BitVec.ofNat 64 s.frameUnits
  if serialLe due g.baseTime then 0 else ceilDiv (elapsed g.baseTime due) (listUnits g)

/-- R398: the effective time of a list that arrives now. -/
def listEffective (s : Dev) (g : GateList) : Time := g.baseTime + BitVec.ofNat 64 (listN s g * listUnits g)

/-- R400: the list is the port's pending one. -/
def pendList (g : GateList) (start : Time) (committed : Bool) (s : Dev) : Dev :=
  modEgress g.port (fun e => { e with pending := some { list := g, start, committed } }) s

/-- R398: late_start is set and raised when n > 0. -/
def noteListLate (n : Nat) (s : Dev) : Dev :=
  if 0 < n then raiseDev St.shpLateStart { s with shp.lateStart := true } else s

/-- R395: the entry in force `phase` ns into the cycle, and how long it has run, in ns. -/
def entryAt (g : GateList) (phase : Nat) : Nat × Nat :=
  let k := ((List.range g.entries.length).filter fun k => decide (entryStartNs g k ≤ phase)).length - 1
  (k, phase - entryStartNs g k)

/-- R401: a list that a variant carries runs from the boundary `b` of the switch on. DEDUCED: log entry 72. -/
def installList (g : GateList) (b : Time) (s : Dev) : Dev :=
  let c := listUnits g
  let phase := (b.toNat + c - g.baseTime.toNat % c) % c
  let (k, into) := entryAt g (phase / 16)
  modEgress g.port (fun e => { e with
    running := some { list := g, start := b, committed := false }
    entry := k
    entryStart := b - ns into }) s

/-- R399: a pending list reaches its effective time. -/
def activateList (port : Nat) (s : Dev) : Dev :=
  match (s.egr port).pending with
  | some p =>
    if serialLe p.start s.now then
      modEgress port (fun e => { e with running := some p, entry := 0, entryStart := p.start, pending := none }) s
    else s
  | none => s

/-- R401, R602: the lists of the new timetable's profile and variant take force at the boundary of a switch; a port for which it
carries none opens every gate; a committed list that takes force at that instant goes before; a pending one that fits no more is
discarded. Where the timetable counts its cycles from `origin` in place of its base_time, the lists do too. -/
def switchLists (tt : Timetable) (origin b : Time) (s : Dev) : Dev :=
  let rebase (g : GateList) : GateList := if origin = tt.baseTime then g else { g with baseTime := b }
  forN 13 (fun p s =>
    let s := match s.shp.lists.find? fun g => decide (g.port = p) && decide (g.profile = tt.profile) && decide (g.variant = tt.variant) with
      | some g => installList (rebase g) b s
      | none => modEgress p (fun e => { e with running := none, entry := 0, entryStart := b }) s
    match (s.egr p).pending with
    | some x =>
      if x.committed && (gateListFault { tt with baseTime := origin } (rebase x.list)).isSome then
        raiseDev St.shpGclDiscarded (modEgress p (fun e => { e with pending := none }) { s with shp.discarded := true })
      else activateList p s
    | none => s) s

/-- R395: the entry that runs ends. -/
def nextEntry (port : Nat) (s : Dev) : Dev :=
  let e := s.egr port
  match e.running with
  | none => s
  | some r =>
    match r.list.entries[e.entry]? with
    | none => s
    | some x =>
      if past e.entryStart (ns x.intervalNs) s.now then
        modEgress port (fun e => { e with
          entry := (e.entry + 1) % max 1 r.list.entries.length
          entryStart := e.entryStart + ns x.intervalNs }) s
      else s

/-! ## The choice (R391 to R394, R403 to R408) -/

/-- R395: the gates of a port that are open. -/
def openGates (s : Dev) (port : Nat) : BitVec 8 :=
  let e := s.egr port
  match e.running with
  | none => 0xFF
  | some r => (r.list.entries[e.entry]?).elim 0xFF (·.gates)

/-- R393, R395: how long the open window of a class lasts from the start of entry `k` on, in ns, over at most `n` entries; none when
it never ends. -/
def windowNs (entries : List GateEntry) (c k : Nat) : Nat → Option Nat
  | 0 => none
  | n + 1 =>
    match entries[k % max 1 entries.length]? with
    | none => some 0
    | some e => if e.gates.getLsbD c then (windowNs entries c (k + 1) n).map (· + e.intervalNs) else some 0

/-- R393: the end of the open window of a class; none when it never ends. -/
def windowEnd (s : Dev) (port c : Nat) : Option Time :=
  let e := s.egr port
  match e.running with
  | none => none
  | some r => (windowNs r.list.entries c e.entry (r.list.entries.length + 1)).map fun n => e.entryStart + ns n

/-- R393: wire time of a packet on a port, in ns. DESIGN CHOICE: log entry 83. -/
def wireNs (s : Dev) (port : Nat) (k : Packet) : Nat :=
  ceilDiv ((streamBytes k + 256) * 2048) (97650 * max 1 (s.port port).lanes.length)

/-- R393: the packet would end at or before the end of its class's window. -/
def fits (s : Dev) (port : Nat) (k : Packet) : Bool :=
  match windowEnd s port k.tc with
  | none => true
  | some e => serialLe (s.now + ns (wireNs s port k)) e

/-- R351: 256-byte units of a packet. -/
def creditUnits (k : Packet) : BitVec 32 := BitVec.ofNat 32 (ceilDiv (streamBytes k) 256)

/-- R351: the far end's credit allows the packet. -/
def creditOk (s : Dev) (port : Nat) (k : Packet) : Bool :=
  let q := s.port port
  serialLe (q.sent.getD k.tc 0 + creditUnits k) (q.credits.getD k.tc 0)

/-- R391: the packet at the head of a queue. -/
def headOf (s : Dev) (port c : Nat) : Option QPacket := (s.queue port c).items.head?

/-- R391, R392: the head of a queue may leave now. -/
def headOk (s : Dev) (port c : Nat) : Bool :=
  (headOf s port c).any fun i =>
    (openGates s port).getLsbD i.packet.tc && fits s port i.packet && creditOk s port i.packet

/-- R392: the head of a queue is passed over because it does not fit. -/
def headUnfit (s : Dev) (port c : Nat) : Bool :=
  (headOf s port c).any fun i => (openGates s port).getLsbD i.packet.tc && !fits s port i.packet

/-- R391, R409: the best-effort queues of a port, the higher class first; the transit queue of a torus port ranks last. -/
def bestEffort (port : Nat) : List Nat := [4, 3, 2, 1, 0] ++ (if 8 ≤ port ∧ port < 12 then [8] else [])

/-- R406, R408: the rate of a queue in bytes per 250 ns. -/
def bucketRate (s : Dev) (port c : Nat) : Nat :=
  let r := s.rate (bucketIndex port c)
  if (s.port port).state = .degraded then r / 2 else r

/-- R406: the queue's credit covers its head. -/
def bucketEligible (s : Dev) (port c : Nat) : Bool :=
  (headOf s port c).any fun i => decide (countedLength s port i.packet ≤ (s.queue port c).credit)

/-- R404, R408: the start tag of a packet at the head of a fair queue. -/
def startTagOf (s : Dev) (port : Nat) (i : QPacket) : BitVec 48 := i.startTag.getD (s.egr port).virt

/-- R391, R404, R405: the queue that the scheduler chooses. DEDUCED: log entry 72. -/
def selectQueue (s : Dev) (port : Nat) : Option Nat :=
  match [7, 6, 5].find? (headOk s port) with
  | some c => some c
  | none =>
    match (bestEffort port).find? fun c => inBucketMode s port c && headOk s port c && bucketEligible s port c with
    | some c => some c
    | none =>
      let fair := (bestEffort port).filterMap fun c =>
        if !inBucketMode s port c && headOk s port c then (headOf s port c).map fun i => (c, startTagOf s port i) else none
      (firstBy (fun a b => serialLt a.2 b.2) fair).map (·.1)

/-- R392: the queues whose heads a choice passes over because they do not fit: those that come before the chosen one, or all.
DEDUCED: log entry 72. -/
def passedOver (s : Dev) (port : Nat) (chosen : Option Nat) : Nat :=
  let strict := match chosen with
    | some c => if 5 ≤ c ∧ c ≤ 7 then [7, 6, 5].filter fun x => decide (c < x) else [7, 6, 5] ++ bestEffort port
    | none => [7, 6, 5] ++ bestEffort port
  (strict.filter (headUnfit s port)).length

/-- R404: the tags of the packet that has reached the head of a fair queue after one that finished at `f`. -/
def tagHead (s : Dev) (port c : Nat) (f : BitVec 48) : List QPacket → List QPacket
  | [] => []
  | i :: rest => { i with startTag := some f, finishTag := finishTag s port c i.packet f } :: rest

/-- R404, R406: the head of queue `c` leaves the queue: tags and virtual time of a fair one, credit of a bucket. -/
def popQueue (port c : Nat) (i : QPacket) (s : Dev) : Dev :=
  let best := decide (c < 5) || decide (c = 8)
  let rest := (s.queue port c).items.tail
  let s :=
    if best && inBucketMode s port c then
      modQueue port c (fun q => { q with items := rest, credit := q.credit - countedLength s port i.packet }) s
    else if best then
      let st := startTagOf s port i
      let f := finishTag s port c i.packet st
      let s := modEgress port (fun e => { e with virt := st, maxFinish := if serialLt e.maxFinish f then f else e.maxFinish }) s
      modQueue port c (fun q => { q with items := tagHead s port c f rest, lastFinish := f }) s
    else modQueue port c (fun q => { q with items := rest }) s
  if best && (bestEffort port).all (fun c => (s.queue port c).items.isEmpty) then
    modEgress port (fun e => { e with virt := e.maxFinish }) s
  else s

/-- R363: the packet's last transmission is now. -/
def noteSent (k : Packet) (s : Dev) : Dev :=
  let peer := peerOf s k.dst
  if (s.path peer).unacked.any fun u => decide (u.packet = k) then
    modPath peer (fun ps => { ps with
      unacked := ps.unacked.map fun u => if u.packet = k then { u with sentAt := s.now } else u }) s
  else s

/-- R392, R394: the transmitter of a port takes the chosen packet and is busy for its wire time. -/
def transmit (port c : Nat) (s : Dev) : Dev :=
  match headOf s port c with
  | none => s
  | some i =>
    let k := i.packet
    let busy := s.now + ns (wireNs s port k)
    let s := modPort port (fun q => { q with sent := setAt q.sent k.tc (q.sent.getD k.tc 0 + creditUnits k) }) s
    let s := modEgress port (fun e => { e with busyUntil := busy }) (popQueue port c i s)
    emit (.transmit port k) (noteSent k s)

/-- R392: a choice is made when the transmitter of a trained port is free. -/
def transmitChoice (port : Nat) (s : Dev) : Dev :=
  if s.linkUp port ∧ serialLe (s.egr port).busyUntil s.now then
    let chosen := selectQueue s port
    let s := countBy Reg.shpHoldCount (passedOver s port chosen) s
    match chosen with
    | some c => transmit port c s
    | none => s
  else s

/-- R406: a 250 ns interval begins: every bucket-mode queue gains its rate, up to its burst. DESIGN CHOICE: log entry 7. -/
def creditTick (s : Dev) : Dev :=
  forN 13 (fun p s => forL (bestEffort p) (fun c s =>
    if inBucketMode s p c then
      modQueue p c (fun q => { q with credit := min (s.burst4k (bucketIndex p c) * 4096) (q.credit + bucketRate s p c) }) s
    else s) s) s

/-! ## Transit (R358, R409 to R411) -/

/-- R410: bytes that the TRANSIT slots of a port reserve. DEDUCED: log entry 72. -/
def transitReserve (s : Dev) (port : Nat) : Nat :=
  match s.tt.running with
  | none => 0
  | some t => sumBy (fun e => if e.cls = .transit ∧ e.port = port then e.budgetQ * 65536 else 0) t.slots

/-- R409, R410: the queue of a forwarded packet on its egress port, and the bytes of its store. -/
def transitStore (s : Dev) (port tc : Nat) : Nat × Nat :=
  if tc = 7 then (7, transitReserve s port)
  else if 5 ≤ tc then (tc, 1024 * s.transitBufKib)
  else if 8 ≤ port ∧ port < 12 then (8, 1024 * s.transitBufKib)
  else (tc, 1024 * s.transitBufKib)

/-- R410, R411: bytes of packets of other devices that a queue holds. -/
def transitBytes (s : Dev) (port c : Nat) : Nat :=
  sumBy (fun i => if s.isMine (endpointDevice i.packet.src) then 0 else streamBytes i.packet) (s.queue port c).items

/-- R411: a forwarded packet is dropped for want of store. -/
def dropTransit (port : Nat) (s : Dev) : Dev :=
  let s := count Reg.shpTransitDropCount { s with shp.transitDrop := true }
  let quiet := match (s.egr port).dropEvent with
    | some f => decide ((s.tt.frame - f).toNat < 1024)
    | none => false
  if quiet then s else raiseDev St.shpTransitDrop (modEgress port (fun e => { e with dropEvent := some s.tt.frame }) s)

/-- R358, R409, R448: a packet for another device goes on unchanged, or is dropped. DEDUCED: log entry 72. -/
def forward (k : Packet) (s : Dev) : Dev :=
  match firstHop s k.tc (endpointDevice k.dst) with
  | none => s
  | some port =>
    let (c, room) := transitStore s port k.tc
    if transitBytes s port c + streamBytes k ≤ room then enqueue port c k s else dropTransit port s

/-! ## Policing (R412 to R416) -/

/-- R416: the class index of a policed class. -/
def policedClass (tc : Nat) : Option Nat := if tc < 5 then some tc else if tc = 7 then some 5 else none

/-- R413: the tokens of a record at the interval `now`. -/
def Policer.refill (p : Policer) (now : Nat) : Policer :=
  if p.last < now then { p with tokens := min (p.cbs4k * 4096) (p.tokens + p.cir * (now - p.last)), last := now } else p

/-- R414: nanoseconds that the RNR of a policed packet names. -/
def policeRetry (p : Policer) (len : Nat) : Nat :=
  if p.cir = 0 then 10000000 else min 10000000 (max 1000 (250 * ceilDiv (len - p.tokens) p.cir))

/-- R413, R414: the policer of a packet that enters at a partner port: whether it passes, and the state; a dropped one is answered
with RNR. -/
def police (port : Nat) (k : Packet) (s : Dev) : Bool × Dev :=
  match policedClass k.tc with
  | none => (true, s)
  | some c =>
    let key := 6 * k.tenant + c
    match mget s.shp.policers key with
    | none => (true, s)
    | some p =>
      if !p.enable then (true, s)
      else
        let p := p.refill (s.now.toNat / 4000)
        let len := countedLength s port k
        if len ≤ p.tokens then
          (true, { s with shp.policers := mset s.shp.policers key { p with tokens := p.tokens - len } })
        else
          let quiet := match p.event with
            | some f => decide ((s.tt.frame - f).toNat < 1024)
            | none => false
          let p := { p with drops := min 0xFFFFFFFF (p.drops + 1), event := if quiet then p.event else some s.tt.frame }
          let s := count Reg.shpPoliceDropCount { s with
            shp.policers := mset s.shp.policers key p
            shp.policed := true }
          let s := sendRnr (512 + port)
            { reason := St.shpPoliced, msgId := k.msgId, fragIndex := if k.opcode = 0x02 then 0xFFFF else k.fragIndex,
              retryAfterNs := policeRetry p len, psn := k.psn } s
          (false, if quiet then s else raise St.shpPoliced k.tenant [k.tenant, c, p.drops] s)

/-! ## The commands -/

/-- R392: the scheduler's choice. -/
def execTransmitChoice (t : Time) (port : Nat) (s : State) : Host.Outcome State Fault Refusal := run (awake t (transmitChoice port)) s

/-- R395: a gate entry ends. -/
def execGateEntryChange (t : Time) (port : Nat) (s : State) : Host.Outcome State Fault Refusal := run (awake t (nextEntry port)) s

/-- R399: a pending gate list takes force. -/
def execGateListActivate (t : Time) (port : Nat) (s : State) : Host.Outcome State Fault Refusal := run (awake t (activateList port)) s

/-- R406: a 250 ns interval begins. -/
def execBucketCreditTick (t : Time) (s : State) : Host.Outcome State Fault Refusal := run (awake t creditTick) s

end Sys2Proof.Machine
end

