-- ==== Sys2Proof/Machine/Fuller.lean ====
section
/-! DEFINITION. The bands of the flash log (R311 to R333): which extents are valid, retirement of block sets, the Fuller, lost
dies and failed programs. -/

namespace Sys2Proof.Machine

/-! ## Places (R311 to R313) -/

/-- R311, R313: position in its row of a unit of a log address. -/
def posOfUnit (u : Nat) : Nat :=
  let p := bandOfUnit u % 4096 % 16
  let member := unitInBand u % 60 / 4
  if member < p then member else member + 1

/-- R310: die number, channel × 16 + slot, of a position of a group. -/
def dieAt (g pos : Nat) : Nat := (16 * (g / 16) + pos) * 16 + g % 16

/-- R310: the group of a die number. -/
def groupOfDie (die : Nat) : Nat := 16 * (die / 256) + die % 16

/-- Log addresses of an extent of a band. -/
def extUnits (key : Nat) (x : BandExt) : List Nat := (List.range x.len).map fun i => logAddress key (x.first + i)

/-! ## Valid extents (R316, R326) -/

/-- R316: the datum's current home names the log address. -/
def namesUnit (s : Dev) (d : Datum) (u : Nat) : Bool :=
  match homeOf s d with
  | some (.t2 e) => decide (e.unit = u) || (match d with
    | .tables i => (mget s.kvs.seqs i).any fun q => q.ptSet.any fun x => decide (x.unit = u)
    | _ => false)
  | _ => false

/-- R316, R336: the newest checkpoint, or the one being written, points to the log address. -/
def ckptNames (s : Dev) (u : Nat) : Bool :=
  (s.fls.roots.take 1).any (fun r => r.ptrs.any fun e => decide (e.2 = u)) ||
    s.fls.ckpt.any fun c => c.chunks.any (fun e => decide (e.2 = u)) || decide (c.root = some u)

/-- A move is writing to the log address (DEDUCED: such an extent is no stale one). -/
def destNames (s : Dev) (u : Nat) : Bool :=
  s.tir.moves.any fun m => match m.dest with
    | some (.t2 e) => decide (e.unit = u) || (match m.datum with
      | .tables i => (mget s.kvs.seqs i).any fun q => (q.ptSet ++ q.ptNext).any fun x => decide (x.unit = u)
      | _ => false)
    | _ => false

/-- R316: the extent is valid. DESIGN CHOICE: log entry 63. -/
def extValid (s : Dev) (key : Nat) (x : BandExt) : Bool :=
  let u := logAddress key x.first
  match x.kind with
  | .pad => false
  | .checkpoint => ckptNames s u
  | _ => x.owner.any (fun d => namesUnit s d u) || destNames s u

/-- R316: the valid extents of a band. -/
def validExts (s : Dev) (key : Nat) : List BandExt := (s.band key).extents.filter (extValid s key)

/-- R334: units in valid extents. -/
def validUnits (s : Dev) (key : Nat) : Nat := sumBy (·.len) (validExts s key)

/-- R326: a checkpoint names a unit of the band. -/
def rootNames (key : Nat) (r : Root) : Bool :=
  let inBand (u : Nat) : Bool := decide (bandOfUnit u = key)
  let ext (e : Extent) : Bool := inBand e.unit
  let home (h : Home) : Bool := match h with
    | .t2 e => ext e
    | _ => false
  r.ptrs.any (fun e => inBand e.2) || r.tables.seqs.any (fun q => q.2.ptExtent.any ext || q.2.pendingExtent.any ext || q.2.ptSet.any ext)
    || r.tables.pages.any (fun p => home p.2.home) || r.tables.objs.any (fun o => o.2.blocks.any fun b => home b.2)

/-- R326: one of the two newest committed checkpoints names a unit of the band. -/
def heldByRoots (s : Dev) (key : Nat) : Bool := (s.fls.roots.take 2).any (rootNames key)

/-! ## Retirement (R330) -/

/-- R330: index of a block set's entries in the remap table. -/
def remapKey (die plane block : Nat) : Nat := die * 262144 + plane * 65536 + block

/-- R330: a block set of a die gives way to unused spares, one in each plane; none where a plane has no spare left. -/
def retireSet (die block : Nat) (s : Dev) : Option Dev :=
  let used (p : Nat) : Nat := mgetD s.fls.sparesUsed (4 * die + p) 0
  if (List.range s.fls.planes).all fun p => decide (used p < s.fls.spareBlocks) then
    some (count Reg.flsRetireCount (forN s.fls.planes (fun p s => { s with
      fls.remap := mset s.fls.remap (remapKey die p block) (used p + 1)
      fls.sparesUsed := mset s.fls.sparesUsed (4 * die + p) (used p + 1) }) s))
  else none

/-- R330: a band without the spares it needs. -/
def retireBand (key : Nat) (s : Dev) : Dev :=
  raiseDev St.flsBandRetired (modBand key (fun b => { b with state := .retired, extents := [], bad := [], eraseLeft := [] }) s)

/-- R330: the bad block sets of a band are retired; none where spares run out. -/
def retireBad (key : Nat) : List Nat → Dev → Option Dev
  | [], s => some s
  | pos :: rest, s => (retireSet (dieAt (key / 4096) pos) (key % 4096) s).bind (retireBad key rest)

/-- R326, R330: an emptied band is erased, its bad block sets retired before. -/
def toErasing (key : Nat) (s : Dev) : Dev :=
  let b := s.band key
  let s := if b.refresh then count Reg.flsRefreshCount s else s
  match retireBad key b.bad s with
  | none => retireBand key s
  | some s =>
    emit (.flashErase (key / 4096) (key % 4096))
      (modBand key (fun b => { b with state := .erasing, bad := [], eraseLeft := List.range 16 }) s)

/-! ## The Fuller (R326 to R329) -/

/-- The bands of a group in a state, by key. -/
def bandsIn (s : Dev) (g : Nat) (st : BandState) : List (Nat × Band) :=
  s.fls.bands.filter fun e => decide (e.1 / 4096 = g) && !isRootArea g (e.1 % 4096) && decide (e.2.state = st)

/-- R327: the band with the fewest valid units; ties go to the lower erase count, then to the lower band. -/
def fewestValid (s : Dev) (l : List (Nat × Band)) : Option Nat :=
  (firstBy (fun a b =>
    let va := validUnits s a.1
    let vb := validUnits s b.1
    decide (va < vb) || (decide (va = vb) && decide (a.2.eraseCount < b.2.eraseCount))) l).map (·.1)

/-- R329: the least and the greatest erase count of a group's bands; a band without a record has none. -/
def eraseSpread (s : Dev) (g : Nat) : Nat × Nat :=
  let counts := (s.fls.bands.filter fun e => decide (e.1 / 4096 = g) && !isRootArea g (e.1 % 4096)).map (·.2.eraseCount)
  let least := if counts.length < bandsPerGroup s - (if g = 0 ∨ g = 32 then 1 else 0) then 0 else counts.foldl min (counts.headD 0)
  (least, counts.foldl max 0)

/-- R327, R329, R331, R332: the band that the Fuller empties next: one marked evacuate or refresh before all others, then for free
space, then for wear. -/
def chooseBand (s : Dev) (g : Nat) : Option Nat :=
  let closed := bandsIn s g .closed
  let marked := closed.filter fun e => e.2.evacuate || e.2.refresh
  if !marked.isEmpty then fewestValid s marked
  else
    let coming := (bandsIn s g .compacting).length + (bandsIn s g .erasing).length
    if (freeBands s g + coming) * 100 < s.freeMinPct * bandsPerGroup s then fewestValid s closed
    else
      let (lo, hi) := eraseSpread s g
      if s.wlDelta < hi - lo then fewestValid s (closed.filter fun e => decide (e.2.eraseCount = lo)) else none

/-- R327: the valid extents of a band are to be relocated; a checkpoint chunk is written anew by the next checkpoint. -/
def relocateAll (key : Nat) (s : Dev) : Dev :=
  forL (validExts s key) (fun x s =>
    match x.owner with
    | some d => if s.tir.moves.any fun m => decide (m.datum = d) then s else queueMove d .relocation 0 s
    | none => s) s

/-- R326, R327: the Fuller's work on one group. DEDUCED: log entry 64. -/
def fullerGroup (g : Nat) (s : Dev) : Dev :=
  let s := forL (bandsIn s g .compacting) (fun e s =>
    if (validExts s e.1).isEmpty then (if heldByRoots s e.1 then s else toErasing e.1 s) else relocateAll e.1 s) s
  if (bandsIn s g .compacting).any fun e => !(validExts s e.1).isEmpty then s
  else
    match chooseBand s g with
    | none => s
    | some key =>
      let s := relocateAll key (modBand key (fun b => { b with state := .compacting }) s)
      if (validExts s key).isEmpty ∧ !heldByRoots s key then toErasing key s else s

/-- The Fuller's work on every group in service. -/
def fuller (s : Dev) : Dev := forN 64 (fun g s => if groupExists s g then fullerGroup g s else s) s

/-- R332, R333: a refresh is scheduled; one asked for a band that is being emptied changes nothing. -/
def scheduleRefresh (key : Nat) (s : Dev) : Dev :=
  let b := s.band key
  if b.state = .closed ∨ b.state = .opened then modBand key (fun b => { b with refresh := true }) s else s

/-- A band is to be emptied, the block set at a position retired afterwards. -/
def markBad (key pos : Nat) (s : Dev) : Dev :=
  modBand key (fun b => { b with evacuate := true, bad := if b.bad.contains pos then b.bad else b.bad ++ [pos] }) s

/-! ## Extents written again (R321) -/

/-- Whatever names log address `u` names `v`. -/
def reUnit (u v : Nat) (s : Dev) : Dev :=
  let ext (e : Extent) : Extent := if e.unit = u then { e with unit := v } else e
  let home (h : Home) : Home := match h with
    | .t2 e => .t2 (ext e)
    | h => h
  let move (m : Move) : Move := { m with dest := m.dest.map home }
  let seq (q : Seq) : Seq := { q with
    ptExtent := q.ptExtent.map ext
    ptSet := q.ptSet.map ext
    ptNext := q.ptNext.map ext
    pendingExtent := q.pendingExtent.map ext }
  let page (p : Page) : Page := { p with home := home p.home }
  let obj (o : Obj) : Obj := { o with blocks := mmap o.blocks home }
  let run (c : CkptRun) : CkptRun := { c with chunks := mmap c.chunks fun x => if x = u then v else x }
  { s with
    tir.moves := s.tir.moves.map move
    kvs.seqs := mmap s.kvs.seqs seq
    kvs.pages := mmap s.kvs.pages page
    tir.objs := mmap s.tir.objs obj
    fls.ckpt := s.fls.ckpt.map run }

/-- R321: a place for an extent that is written again: the group's next open band, or, when the group has none, the group that
takes new data of the half. -/
def rewritePlace (g : Nat) (reloc : Bool) (x : BandExt) (s : Dev) : Option (Nat × Dev) :=
  match appendExtent g reloc x.len x.kind x.owner s with
  | some r => some r
  | none => (dataGroup s (groupWest g)).bind fun h => appendExtent h false x.len x.kind x.owner s

/-- R321: an extent of a failed row is written again, and what named its place names the new one. -/
def rewriteExt (key : Nat) (reloc : Bool) (x : BandExt) (s : Dev) : Dev :=
  let u := logAddress key x.first
  if extValid s key x then
    match rewritePlace (key / 4096) reloc x s with
    | some (v, s) => reUnit u v s
    | none => noFreeBand s
  else s

/-- R321: a band is closed at its last row reported good; what lay behind it is written again. DEDUCED: log entry 64. -/
def cutBand (key : Nat) (s : Dev) : Dev :=
  let b := s.band key
  let g := key / 4096
  let whole (x : BandExt) : Bool := decide (x.first + x.len ≤ 60 * b.goodRows)
  let redo := b.extents.filter fun x => !whole x
  let s := if (s.writer g b.reloc).any fun w => decide (w.band = key) then setWriter g b.reloc none s else s
  let cut (b : Band) : Band := { b with
    state := .closed
    evacuate := true
    writePoint := 60 * b.goodRows
    summaryUnit := 60 * b.goodRows
    extents := b.extents.filter whole }
  modBand key cut (forL redo (rewriteExt key b.reloc) s)

/-! ## Uncorrectable codewords (R325) -/

/-- R325: a codeword has failed every step. -/
def uncorrectableAt (u : Nat) (s : Dev) : Dev :=
  let s := raise St.flsUncorrectable deviceWide [u] (count Reg.flsUncorrCount { s with fls.uncorrectable := true })
  markBad (bandOfUnit u) (posOfUnit u) s

/-- R325: the owner of a valid extent follows the loss rules. -/
def ownerLost (x : BandExt) (s : Dev) : Dev :=
  match x.owner with
  | some d => uncorrectable d s
  | none => s

/-! ## Dies (R309, R331) -/

/-- R331: a group with one FAILED die: every band is to be emptied, and no band is opened. DEDUCED: log entry 64. -/
def degrade (g : Nat) (s : Dev) : Dev :=
  let s := raiseDev St.flsGroupDegraded { s with fls.degraded := s.fls.degraded ++ [g], fls.groupDegraded := true }
  let s := forL (bandsIn s g .opened) (fun e s => cutBand e.1 s) s
  forL (s.fls.bands.filter fun e => decide (e.1 / 4096 = g) && !isRootArea g (e.1 % 4096) && !decide (e.2.state = .free)
    && !decide (e.2.state = .retired)) (fun e s => modBand e.1 (fun b => { b with evacuate := true }) s) s

/-- R331: FAILED dies of a group. -/
def failedDies (s : Dev) (g : Nat) : List Nat :=
  (s.fls.dies.filter fun e => decide (groupOfDie e.1 = g) && decide (e.2.state = .failed)).map (·.1)

/-- R331: a second die of a group has failed: every valid unit on a failed die is uncorrectable. -/
def secondLoss (g : Nat) (s : Dev) : Dev :=
  let dies := failedDies s g
  forL (s.fls.bands.filter fun e => decide (e.1 / 4096 = g)) (fun e s =>
    forL (validExts s e.1) (fun x s =>
      let bad := (extUnits e.1 x).filter fun u => dies.contains (dieAt g (posOfUnit u))
      if bad.isEmpty then s else ownerLost x (forL bad (fun u s => uncorrectableAt u s) s)) s) s

/-- R309: a die becomes FAILED. -/
def dieFails (die : Nat) (s : Dev) : Dev :=
  let fail (d : Die) : Die := { d with state := .failed }
  let g := groupOfDie die
  let s := raiseDev St.flsDieFailed { s with fls.dies := mmod s.fls.dies die fail, fls.dieFailed := true }
  if s.fls.degraded.contains g then secondLoss g s else degrade g s

/-- R309: an operation of the die has ended within its limit. -/
def dieAnswers (die : Nat) (s : Dev) : Dev :=
  let answer (d : Die) : Die := { d with timeouts := 0 }
  { s with fls.dies := mmod s.fls.dies die answer }

end Sys2Proof.Machine
end

