-- ==== Sys2Proof/Machine/Switch.lean ====
section
/-! DEFINITION. A timetable that takes over at a frame boundary (R69, R71, R73, R602), with its gate lists and its profile's clock. -/

namespace Sys2Proof.Machine

/-- R602, R401: the timetable is in force from boundary `b` on, at frame position `pos`, its cycles counted from `origin`. -/
def installTt (t : Timetable) (pos : Nat) (origin b : Time) (s : Dev) : Dev :=
  let clock := decide (t.profile ≠ s.tt.profile)
  let s := switchLists t origin b { s with
    tt.running := some t
    tt.variant := t.variant
    tt.profile := t.profile
    tt.framePos := pos
    tt.origin := origin }
  if clock then clockForProfile s else s

/-- R602: a variant switch or a profile change starts the timetable at boundary `b`. -/
def switchTo (t : Timetable) (b : Time) (s : Dev) : Dev :=
  let (pos, origin) := startPosition t b
  installTt t pos origin b s

/-- R73: the timetable activates at position 0. -/
def activateTt (t : Timetable) (b : Time) (s : Dev) : Dev := installTt t 0 t.baseTime b s

/-- R70: a set or profile has taken over at boundary `b`: a wanted variant that it lacks or exceeds is reported, where `had` says that
the one before had it; a fitting one ends the refusals. DEDUCED: log entry 48. -/
def reviewVariant (had : Bool) (b : Time) (s : Dev) : Dev :=
  match s.fitting s.tt.set s.tt.profile with
  | some _ => { s with tt.absentService := false }
  | none =>
    if had && !s.tt.absentService then
      raiseDev St.iatVariantAbsent { s with
        sync.variantAbsent := true
        tt.switchAt := some b }
    else s

/-- R66, R68: the timetable set with another timetable in the place of its profile and variant. -/
def putTt (set : List Timetable) (t : Timetable) : List Timetable :=
  (set.filter fun u => !(decide (u.profile = t.profile) && decide (u.variant = t.variant))) ++ [t]

/-- R401: the carried lists with another list in the place of its port, profile and variant. -/
def putList (ls : List GateList) (g : GateList) : List GateList :=
  (ls.filter fun u => !(decide (u.port = g.port) && decide (u.profile = g.profile) && decide (u.variant = g.variant))) ++ [g]

end Sys2Proof.Machine
end

