-- ==== Sys2Proof/Machine/Txn.lean ====
section
/-! DEFINITION. Configuration transactions (R512 to R522): staging, the checks at acceptance and at the boundary, the commit, the
derived image and the writes of the NVM. -/

namespace Sys2Proof.Machine

/-! ## Records of the image and of a transaction -/

/-- R135: the scope that a scope record describes. -/
def scopeOf (r : ScopeRec) : Scope :=
  { salt := r.salt, share := r.flags.getLsbD 0, adopt := r.flags.getLsbD 1, compact := r.flags.getLsbD 2,
    anchored := r.flags.getLsbD 3,
    mirror := match r.flags.toNat / 16 % 4 with
      | 0 => .m0
      | 1 => .m1
      | _ => .m2
    saltEpoch := r.saltEpoch, maxDepth := r.maxDepth, retainK := r.retainK }

/-- R88: code of a mirror class. -/
def mirrorCode : MirrorClass → Nat
  | .m0 => 0 | .m1 => 1 | .m2 => 2

/-- R135: the record of a scope. -/
def scopeRec (i : Nat) (c : Scope) : ScopeRec :=
  { index := i, salt := c.salt, scopeId := i,
    flags := BitVec.ofNat 8 (c.share.toNat + 2 * c.adopt.toNat + 4 * c.compact.toNat + 8 * c.anchored.toNat + 16 * mirrorCode c.mirror)
    saltEpoch := c.saltEpoch, maxDepth := c.maxDepth, retainK := c.retainK }

/-- R135, R136: a scope record's fields are in range. -/
def scopeRecOk (r : ScopeRec) : Bool :=
  decide (r.index < 4096) && decide (r.scopeId = r.index) && decide (r.flags.toNat < 48)
    && !(r.flags.getLsbD 2 && r.flags.getLsbD 3) && decide (r.maxDepth ≤ 65536) && decide (r.retainK < 65536)

/-- R501: a tenant record's fields are in range. -/
def tenantRecOk (index : Nat) (r : TenantRec) : Bool :=
  decide (index < 4096) && decide (r.tenant = index) && decide (r.scopes.length ≤ 15) && decide (r.defaultScope < 4096)
    && r.scopes.all fun c => decide (c < 4096)

/-- R281: a deadline record's fields are in range; a WSTREAM stream of a timetable uses policy 0 only. -/
def streamRecOk (set : List Timetable) (r : StreamRec) : Bool :=
  decide (r.stream < 65536) && decide (r.policy ≤ 2) && decide (r.flags < 2) && decide (1000 ≤ r.execLeadNs)
    && decide (r.execLeadNs ≤ 1048575) && decide (500 ≤ r.tailNs) && decide (r.tailNs ≤ 65535) && decide (r.runaheadLayers ≤ 8)
    && (decide (r.policy = 0) || !(set.any fun t => t.slots.any fun e => decide (e.stream = r.stream) && decide (e.cls = .wstream)))

/-- R416: a policer record's fields are in range. -/
def policerRecOk (r : PolicerRec) : Bool :=
  decide (r.index < 24576) && decide (r.cir ≤ 262143) && decide (2 ≤ r.cbs4k) && decide (r.cbs4k ≤ 4095)

/-- R281: the record of a stream. -/
def deadlineRecOf (r : StreamRec) : DeadlineRec :=
  { policy := r.policy, runahead := decide (r.flags % 2 = 1), execLeadNs := r.execLeadNs, tailNs := r.tailNs,
    runaheadLayers := r.runaheadLayers }

/-- R281: the record as a transaction or an image carries it. -/
def streamRec (stream : Nat) (d : DeadlineRec) : StreamRec :=
  { stream, policy := d.policy, flags := d.runahead.toNat, execLeadNs := d.execLeadNs, tailNs := d.tailNs,
    runaheadLayers := d.runaheadLayers }

/-- R281: every ATTEND and WSTREAM stream of the timetables has a record. -/
def streamsCovered (set : List Timetable) (has : Nat → Bool) : Bool :=
  set.all fun t => t.slots.all fun e => !(decide (e.cls = .attend) || decide (e.cls = .wstream)) || has e.stream

/-- R416: a policer with its bucket full. -/
def policerOf (now : Time) (drops : Nat) (r : PolicerRec) : Policer :=
  { cir := r.cir, cbs4k := r.cbs4k, enable := r.enable, tokens := r.cbs4k * 4096, drops, last := now.toNat / 4000, event := none }

/-- R13, R550: bytes of T1. -/
def t1Bytes (part : Nat) : Nat := (if part = 1 then 192 else 96) * 1073741824

/-- R255: bytes of the system pool's fixed parts. -/
def systemBytes : Nat := 8 * 1073741824 + 16777216

/-- R255: bytes that the six named pools take. -/
def poolBytes (p : PoolSizes) : Nat := 1048576 * (p.staging + p.region + p.weight + p.reserve + p.table + p.plist)

/-- R255: bytes left for the cold pool. -/
def coldRemainder (part : Nat) (p : PoolSizes) : Nat := t1Bytes part - systemBytes - poolBytes p

/-- R255: the division leaves a cold pool of at least 4 GiB. -/
def poolsOk (part : Nat) (p : PoolSizes) : Bool := decide (4294967296 ≤ coldRemainder part p)

/-! ## Staging (R516, R517) -/

/-- R517: bytes of an item with its prefix, on an 8-byte boundary. -/
def stagedBytes : TxnItem → Nat
  | .fields _ _ _ => 32
  | .record (.tenant _ _) => 80
  | .record (.scope _ _) => 80
  | .record (.deadline _ _) => 32
  | .record (.policer _ _) => 40
  | .timetable t => 8 + 8 * ceilDiv t.containerLen 8
  | .gateList g => 8 + 8 * ceilDiv (36 + 8 * g.entries.length) 8
  | .floor _ => 16
  | .pools _ => 32

/-- R516: staging capacity. -/
def stageBytes : Nat := 16777216

/-- R510: registers of each subsystem, 1 to 14. -/
def regCounts : List Nat := [4, 7, 94, 9, 74, 6, 36, 109, 8, 41, 11, 5, 18, 326]

/-- R510: a register has this ID. -/
def regExists (id : BitVec 16) : Bool :=
  let n := id.toNat / 4096
  decide (1 ≤ n) && decide (n ≤ 14) && decide (id.toNat % 4096 < regCounts.getD (n - 1) 0)

/-- R4: a register value with the bits of a mask replaced. -/
def merge (old mask value : BitVec 64) : BitVec 64 := (old &&& ~~~mask) ||| (value &&& mask)

/-- R517, R556: the first RWL field that the mask touches and the value leaves out of range. -/
def fieldFault (reg : Nat) (mask new : BitVec 64) : Option Status :=
  ((rwlFieldsOf reg).find? fun f => !(mask &&& maskOf f.hi f.lo == 0)
    && !(decide (f.least ≤ bitsOf new f.hi f.lo) && decide (bitsOf new f.hi f.lo ≤ f.most))).map (·.err)

/-- R517: the registers after the staged items of kind 1. -/
def stagedRegs (regs : Map (BitVec 64)) (items : List TxnItem) : Map (BitVec 64) :=
  items.foldl (fun m i => match i with
    | .fields r mask v => mset m r.toNat (merge (mgetD m r.toNat 0) mask v)
    | _ => m) regs

/-- R68, R517: the timetables after the staged ones. -/
def stagedSet (set : List Timetable) (items : List TxnItem) : List Timetable :=
  items.foldl (fun l i => match i with
    | .timetable t => putTt l t
    | _ => l) set

/-- R396: the field checks of a gate list that need no timetable. -/
def gateFieldsOk (g : GateList) : Bool :=
  decide (g.port < 13) && decide (1 ≤ g.entryCount) && decide (g.entryCount ≤ 128) && decide (g.entries.length = g.entryCount)
    && decide (1 ≤ g.cycleFrames) && decide (g.cycleFrames ≤ 64) && g.entries.all fun e => decide (64 ≤ e.intervalNs)

/-- R517: the status with which an item fails at staging. `staged` holds what was staged before. DEDUCED: log entry 73. -/
def itemFault (s : Dev) (staged : List TxnItem) : TxnItem → Option Status
  | .fields r mask v =>
    if !regExists r || !(mask &&& ~~~rwlMask r.toNat == 0) then some St.cfgItemInvalid
    else fieldFault r.toNat mask (merge (mgetD (stagedRegs s.regs staged) r.toNat 0) mask v)
  | .record (.tenant i r) => if tenantRecOk i r then none else some St.cfgItemInvalid
  | .record (.scope i r) => if scopeRecOk r && decide (i = r.index) then none else some St.pfxRange
  | .record (.deadline _ r) => if streamRecOk (stagedSet s.tt.set staged) r then none else some St.tirRange
  | .record (.policer i r) => if policerRecOk r && decide (i = r.index) then none else some St.shpRange
  | .timetable t => if t.check = none then none else some St.iatTtInvalid
  | .gateList g => if gateFieldsOk g then none else some St.shpGclInvalid
  | .floor v => if v ≤ s.cfg.image.elim 0 (·.secVersion) then none else some St.cfgItemInvalid
  | .pools p => if poolsOk s.pwr.part p then none else some St.cfgItemInvalid

/-- R516: the first item that fails, with its index and status; what was staged and its bytes grow item by item. -/
def firstItemFault (s : Dev) (staged : List TxnItem) (bytes i : Nat) : List TxnItem → Option (Status × Nat)
  | [] => none
  | x :: rest =>
    match itemFault s staged x with
    | some st => some (st, i)
    | none =>
      if stageBytes < bytes + stagedBytes x then some (St.cfgStageFull, i)
      else firstItemFault s (staged ++ [x]) (bytes + stagedBytes x) (i + 1) rest

/-- R516: bytes of a list of items. -/
def itemsBytes (items : List TxnItem) : Nat := sumBy stagedBytes items

/-- R516: the items are staged. -/
def stage (items : List TxnItem) (s : Dev) : Dev :=
  { s with cfg.txn := { s.cfg.txn with items := s.cfg.txn.items ++ items, bytes := s.cfg.txn.bytes + itemsBytes items } }

/-! ## The checks of R519 -/

/-- R519: the register fields in combination. -/
def combinedFault (regs : Map (BitVec 64)) : Option Status :=
  let field (r hi lo : Nat) : Nat := bitsOf (mgetD regs r 0) hi lo
  if field Reg.pfxDirConfig 31 24 ≤ field Reg.pfxDirConfig 23 16 then some St.pfxRange
  else if field Reg.tirConfig 27 20 ≤ field Reg.tirConfig 19 12 then some St.tirRange
  else none

/-- R519: the first register that staged items change whose fields are out of range. -/
def regsFault (s : Dev) (items : List TxnItem) : Option Status :=
  let regs := stagedRegs s.regs items
  let one (i : TxnItem) : Option Status := match i with
    | .fields r mask _ => fieldFault r.toNat mask (mgetD regs r.toNat 0)
    | _ => none
  match items.findSome? one with
  | some st => some st
  | none => if items.any fun i => (match i with | .fields _ _ _ => true | _ => false) then combinedFault regs else none

/-- R28, R29: the profile after the staged items. -/
def stagedProfile (s : Dev) (items : List TxnItem) : Profile :=
  profileOf (bitsOf (mgetD (stagedRegs s.regs items) Reg.cfgRunConfig 0) 31 30)

/-- R518, R73: the later of a commit's boundary and its arrival plus one frame. -/
def stagedDue (s : Dev) (arrived b : Time) : Time :=
  let d := arrived + BitVec.ofNat 64 s.frameUnits
  if serialLt d b then b else d

/-- R73, R520: cycles to the effective time of a staged timetable or list, at or after its commit's boundary. -/
def cyclesTo (base due : Time) (units : Nat) : Nat := if serialLe due base then 0 else ceilDiv (elapsed base due) (max 1 units)

/-- R73, R520: effective time of a staged timetable. -/
def stagedEffective (s : Dev) (t : Timetable) (arrived b : Time) : Time :=
  t.baseTime + BitVec.ofNat 64 (cyclesTo t.baseTime (stagedDue s arrived b) t.cycleUnits * t.cycleUnits)

/-- R67, R68, R72, R73, R76: the status with which a staged timetable fails. -/
def ttFault (s : Dev) (set : List Timetable) (t : Timetable) (arrived b : Time) : Option Status :=
  if t.check ≠ none then some St.iatTtInvalid
  else if !s.cfg.permitted.getLsbD t.profile.code then some St.cfgProfileAbsent
  else if !(set.all fun u => variantsAgree t u) then some St.iatTtInvalid
  else if !s.onBoundary t.baseTime then some St.iatBaseMisaligned
  else if !s.timeInHorizon (stagedEffective s t arrived b) then some St.iatActivationHorizon
  else none

/-- R396, R397: the status with which a staged gate list fails against the timetable of its profile and variant. -/
def listFault (set : List Timetable) (g : GateList) : Option Status :=
  match pickTt set g.profile g.variant with
  | some t => (gateListFault t g).map (·.1)
  | none => some St.shpGclInvalid

/-- R281, R517: the streams that have a record after the staged items. -/
def stagedDeadline (s : Dev) (items : List TxnItem) (stream : Nat) : Bool :=
  mhas s.tir.deadlines stream || items.any fun i => match i with
    | .record (.deadline _ r) => decide (r.stream = stream)
    | _ => false

/-- R517: an item that only a persistent commit may hold. -/
def TxnItem.needsPersistent : TxnItem → Bool
  | .floor _ => true
  | .pools _ => true
  | _ => false

/-- R509: a Transfer FW is being written. -/
def fwWriting (s : Dev) : Bool := s.cfg.nvmJobs.any fun j => match j with
  | .firmware _ => true
  | _ => false

/-- R519: the checks of a commit as a whole, in the order the manual lists them. -/
def txnCheck (s : Dev) (items : List TxnItem) (persistent : Bool) (arrived b : Time) : Status :=
  let set := stagedSet s.tt.set items
  let p := stagedProfile s items
  let tts (i : TxnItem) : Option Status := match i with
    | .timetable t => ttFault s set t arrived b
    | _ => none
  let lists (i : TxnItem) : Option Status := match i with
    | .gateList g => listFault set g
    | _ => none
  if !s.cfg.permitted.getLsbD p.code || (pickTt set p .normal).isNone then St.cfgProfileAbsent
  else
    match items.findSome? tts with
    | some st => st
    | none =>
      match items.findSome? lists with
      | some st => st
      | none =>
        match regsFault s items with
        | some st => st
        | none =>
          if !streamsCovered set (stagedDeadline s items) then St.cfgItemInvalid
          else if !persistent && items.any TxnItem.needsPersistent then St.cfgItemInvalid
          else if persistent && (s.cfg.fwPending || fwWriting s) then St.cfgFwPending
          else St.ok

/-! ## Applying a commit (R65, R520) -/

/-- R520: the staged timetables, and the profile: those that run from the boundary on, or become pending. DEDUCED: log entry 73. -/
def applyTimetables (items : List TxnItem) (arrived b : Time) (s : Dev) : Dev :=
  let set := stagedSet s.tt.set items
  let p := stagedProfile s items
  let ls := items.filterMap fun i => match i with
    | .gateList g => some g
    | _ => none
  let fresh (t : Timetable) : Bool := items.any fun i => decide (i = .timetable t)
  let toProfile (s : Dev) : Dev :=
    if p = s.tt.profile then s
    else
      match s.runsOf s.tt.set p with
      | some u => switchTo u b s
      | none => s
  let had := (s.fitting s.tt.set s.tt.profile).isSome
  match s.runsOf set p with
  | none => s
  | some t =>
    reviewVariant had b <|
    if fresh t then
      let n := cyclesTo t.baseTime (stagedDue s arrived b) t.cycleUnits
      let e := stagedEffective s t arrived b
      let s := noteLateStart n s
      if e = b then activateTt t b { s with tt.set := set, tt.pending := none, shp.lists := ls.foldl putList s.shp.lists }
      else toProfile { s with tt.pending := some { set, effective := e, lists := ls } }
    else
      let s := { s with tt.set := set }
      let s := match s.tt.pending with
        | some q => { s with tt.pending := some { q with set := stagedSet q.set items } }
        | none => s
      toProfile s

/-- R520, R398: one staged gate list: it runs from the boundary on or becomes its port's pending list; a list for another
variant, or for a timetable that is pending itself, waits for its variant to run. DEDUCED: log entry 73. -/
def applyList (arrived b : Time) (g : GateList) (s : Dev) : Dev :=
  let running := match s.tt.running with
    | some t => decide (t.profile = g.profile) && decide (t.variant = g.variant)
    | none => false
  let waits := s.tt.pending.any fun q => q.lists.contains g
  let s := if waits then s else { s with shp.lists := putList s.shp.lists g }
  if !running || waits then s
  else
    let n := cyclesTo g.baseTime (stagedDue s arrived b) (listUnits g)
    let e := g.baseTime + BitVec.ofNat 64 (n * listUnits g)
    let s := noteListLate n (pendList g e true s)
    if e = b then activateList g.port s else s

/-- R161: a bank whose width changes is cleared. -/
def clearBank (b : Nat) (s : Dev) : Dev :=
  let mine (e : Nat × ArrEntry) : Bool := decide (e.1 / 8192 = b)
  let s := forL (s.pfx.arr.filter mine) (fun e s => modNode e.2.slot (fun n => { n with inArray := false }) s) s
  { s with
    pfx.arr := s.pfx.arr.filter fun e => !mine e
    pfx.shadow := s.pfx.shadow.filter fun e => !mine e
    pfx.inserts := s.pfx.inserts.filter fun i => !decide (i.bank = b) }

/-- R520, R161, R453: the staged register fields, with what hangs on them. -/
def applyRegs (items : List TxnItem) (s : Dev) : Dev :=
  let old := s
  let s := { s with regs := stagedRegs s.regs items }
  let s := forN 32 (fun b s => if s.bankWidth b = old.bankWidth b then s else clearBank b s) s
  bindLds s

/-- R137, R416, R520: one staged record. -/
def applyRecord (r : TxnRecord) (s : Dev) : Dev :=
  match r with
  | .tenant i r => { s with cfg.tenants := mset s.cfg.tenants i r }
  | .scope i r =>
    let old := s.scope i
    let e := if r.salt = old.salt then old.saltEpoch else old.saltEpoch + 1
    { s with pfx.scopes := mset s.pfx.scopes i { scopeOf r with saltEpoch := e } }
  | .deadline _ r => { s with tir.deadlines := mset s.tir.deadlines r.stream (deadlineRecOf r) }
  | .policer i r =>
    let drops := (mget s.shp.policers i).elim 0 (·.drops)
    { s with shp.policers := mset s.shp.policers i (policerOf s.now drops r) }

/-- R65, R520: every item of a commit, at its boundary. -/
def applyTxn (items : List TxnItem) (arrived b : Time) (s : Dev) : Dev :=
  let s := applyTimetables items arrived b s
  let s := forL items (fun i s => match i with
    | .gateList g => applyList arrived b g s
    | _ => s) s
  let s := applyRegs items s
  forL items (fun i s => match i with
    | .record r => applyRecord r s
    | _ => s) s

/-! ## The derived image (R496, R521) -/

/-- R498: bytes of the sections whose length a commit can change. -/
def varBytes (b : ImageBody) : Nat :=
  64 * ceilDiv (4 + 16 * b.streams.length) 64 + 64 * ceilDiv (4 + sumBy (·.containerLen) b.timetables) 64
    + 64 * ceilDiv (4 + sumBy (fun g => 36 + 8 * g.entries.length) b.gateLists) 64
    + (if b.policers.isEmpty then 0 else 24 * 24576)

/-- R521: the running image's body with every section that the commit changed rewritten. -/
def derivedBody (s : Dev) (items : List TxnItem) (b : ImageBody) : ImageBody :=
  let has (p : TxnItem → Bool) : Bool := items.any p
  let set := match s.tt.pending with
    | some q => q.set
    | none => s.tt.set
  let lists := match s.tt.pending with
    | some q => q.lists.foldl putList s.shp.lists
    | none => s.shp.lists
  let pools := items.foldl (fun p i => match i with | .pools q => q | _ => p) b.pools
  let polRec (e : Nat × Policer) : PolicerRec := { index := e.1, cir := e.2.cir, cbs4k := e.2.cbs4k, enable := e.2.enable }
  { b with
    startProfile := if has (fun i => match i with | .fields r _ _ => decide (r.toNat = Reg.cfgRunConfig) | _ => false) then
        profileOf s.profileCode else b.startProfile
    pools
    tenants := if has (fun i => match i with | .record (.tenant _ _) => true | _ => false) then s.cfg.tenants.map (·.2) else b.tenants
    scopes := if has (fun i => match i with | .record (.scope _ _) => true | _ => false) then
        s.pfx.scopes.map (fun e => scopeRec e.1 e.2) else b.scopes
    streams := if has (fun i => match i with | .record (.deadline _ _) => true | _ => false) then
        s.tir.deadlines.map (fun e => streamRec e.1 e.2) else b.streams
    timetables := if has (fun i => match i with | .timetable _ => true | _ => false) then set else b.timetables
    gateLists := if has (fun i => match i with | .gateList _ => true | _ => false) then lists else b.gateLists
    policers := if has (fun i => match i with | .record (.policer _ _) => true | _ => false) then
        s.shp.policers.map polRec else b.policers
    registers := b.registers.map fun e => (e.1, s.reg e.1.toNat) }

/-- R496: the floor that a bank the device writes carries. -/
def carriedFloor (s : Dev) (img : Image) (items : List TxnItem) : Nat :=
  let older := if s.cfg.bootBank then (if s.cfg.validA then s.cfg.bankA else none) else (if s.cfg.validB then s.cfg.bankB else none)
  let raised := items.foldl (fun v i => match i with | .floor f => max v f | _ => v) 0
  max (max img.secFloor (older.elim 0 (·.secFloor))) raised

/-- R526: the first 8 bytes of a hash, as signer_id and key_id hold them. -/
def keyId (h : BitVec 256) : BitVec 64 := h.setWidth 64

/-- R521: the derived image of a persistent commit. DEDUCED: log entry 73. -/
def derivedImage (s : Dev) (items : List TxnItem) (img : Image) (digest : BitVec 256) : Image :=
  let body := derivedBody s items img.body
  { img with
    seq := img.seq + 1
    bodyLen := img.bodyLen + varBytes body - varBytes img.body
    digest
    secFloor := carriedFloor s img items
    signer := 1
    sigOk := true
    crcOk := true
    signerId := keyId s.sec.pubHash
    body }

/-- R521: a persistent commit queues the write of its derived image; one over 48 MiB is not written. -/
def persist (items : List TxnItem) (s : Dev) : Dev :=
  match s.cfg.image with
  | none => s
  | some img =>
    let (k, s) := draw s
    let d := derivedImage s items img (Config.derivedDigest k)
    if 50331648 < d.bodyLen then raiseDev St.cfgImageSize s else { s with cfg.nvmJobs := s.cfg.nvmJobs ++ [.derived d] }

/-! ## The transaction's commands -/

/-- R514: the holder's 30 s have passed. -/
def txnDue (s : Dev) : Bool :=
  decide (s.cfg.txn.state = .opened) && s.cfg.txn.mine && past s.cfg.txn.lastCmd (ms 30000) s.now

/-- R514: a command that comes 30 s after the holder's last one finds the transaction rolled back. -/
def afterExpiry (f : Dev → Dev) (s : Dev) : Dev := f (if txnDue s then expireTxn s else s)

/-- R513: a command that names the transaction comes from its holder, and while it is OPEN. -/
def txnFault (s : Dev) (rq : Requester) (id : BitVec 32) : Status :=
  if s.cfg.txn.state = .idle then St.cfgNoTxn
  else if !s.cfg.txn.mine ∨ s.cfg.txn.holder ≠ some rq ∨ s.cfg.txn.id ≠ id then St.cfgNotHolder
  else if s.cfg.txn.state = .committing then St.cfgTxnState
  else St.ok

/-- R514: a command of the holder restarts its timer. -/
def touchTxn (s : Dev) : Dev := { s with cfg.txn := { s.cfg.txn with lastCmd := s.now } }

/-- R515: the transaction is begun on this side (`mine`) or on the other. -/
def applyBegin (holder : Requester) (mine : Bool) (s : Dev) : Applied :=
  if s.cfg.txn.state ≠ .idle then { status := St.cfgBusy, fields := [], state := s }
  else
    let id := s.cfg.txn.id + 1
    { status := St.ok, fields := [id.toNat, stageBytes],
      state := { s with cfg.txn := { Txn.reset with state := .opened, id, holder := some holder, mine, lastCmd := s.now } } }

/-- R515: CFG_TXN_BEGIN. -/
def txnBegin (rq : Requester) (s : Dev) : Dev := pairChange rq (.txnBegin rq) none (applyBegin rq true) s

/-- R516: CFG_TXN_WRITE. DEDUCED: log entry 73. -/
def txnWrite (rq : Requester) (id : BitVec 32) (items : List TxnItem) (s : Dev) : Dev :=
  let st := txnFault s rq id
  if st = St.cfgTxnState then reply rq st [] (touchTxn s)
  else if st ≠ St.ok then reply rq st [] s
  else
    let s := touchTxn s
    if items.isEmpty ∨ 4096 < items.length then reply rq St.cfgItemInvalid [0] s
    else
      match firstItemFault s s.cfg.txn.items s.cfg.txn.bytes 0 items with
      | some (st, i) => reply rq st [i] s
      | none => reply rq St.ok [0] (stage items s)

/-- R518, R520: a commit waits for its boundary. -/
def scheduleTxn (items : List TxnItem) (persistent late : Bool) (boundary arrived : Time) (tag peerTag : Option Nat) (s : Dev) : Dev :=
  { s with cfg.txn := { s.cfg.txn with state := .committing, items, bytes := itemsBytes items, persistent, late, boundary, arrived,
                                       tag, peerTag } }

/-- R423, R433, R518: a commit that has passed its checks on this side. -/
def commitTxn (rq : Requester) (persistent late : Bool) (boundary : Time) (s : Dev) : Dev :=
  let items := s.cfg.txn.items
  let op : PairOp := .txnCommit items persistent
  match s.par.state with
  | .isolated => reply rq St.parIsolated [] s
  | .suspect => hold rq op [] (scheduleTxn items persistent late boundary s.now none none s)
  | .paired | .paused =>
    let tag := s.par.nextTag
    let w : CommitWait := { tag, op, rq, reply := [], status := St.ok, proposal := !s.sideA, held := false, applied := false,
                            answered := none, undo := Undo.none }
    let s := if s.sideA then { s with par.commitSeq := s.par.commitSeq + 1 } else s
    scheduleTxn items persistent late boundary s.now (some tag) none
      (await w (emit (.commit (commitHdr s tag (!s.sideA) (some boundary)) op) s))
  | .resync =>
    let s := { s with par.commitSeq := s.par.commitSeq + 1, par.resyncOps := s.par.resyncOps ++ [op] }
    scheduleTxn items persistent late boundary s.now none none s
  | _ => scheduleTxn items persistent late boundary s.now none none { s with par.commitSeq := s.par.commitSeq + 1 }

/-- R518: CFG_TXN_COMMIT. -/
def txnCommit (rq : Requester) (id : BitVec 32) (persistent : Bool) (activation : Time) (s : Dev) : Dev :=
  let st := txnFault s rq id
  if st = St.cfgTxnState then reply rq st [] (touchTxn s)
  else if st ≠ St.ok then reply rq st [] s
  else
    let s := touchTxn s
    let due := s.now + BitVec.ofNat 64 s.frameUnits
    let late := decide (activation ≠ 0) && serialLt activation due
    let b := boundaryAfter s (if activation ≠ 0 ∧ serialLt due activation then activation else due)
    if !s.timeInHorizon b then reply rq St.iatActivationHorizon [] s
    else
      let st := txnCheck s s.cfg.txn.items persistent s.now b
      if st ≠ St.ok then reply rq st [] s else commitTxn rq persistent late b s

/-- R522: the transaction is rolled back. -/
def applyRollback (s : Dev) : Applied := { status := St.ok, fields := [], state := count Reg.cfgRollbackCount (dropTxn s) }

/-- R522: CFG_TXN_ROLLBACK. -/
def txnRollback (rq : Requester) (id : BitVec 32) (s : Dev) : Dev :=
  let st := txnFault s rq id
  if st ≠ St.ok then reply rq st [] (if st = St.cfgTxnState then touchTxn s else s)
  else pairChange rq .txnRollback none applyRollback s

/-- R514: the idle timer. -/
def txnIdle (s : Dev) : Dev := if txnDue s then expireTxn s else s

/-! ## The activation boundary (R519, R520) -/

/-- R424, R426: this side has applied its own configuration commit: it answers when the other side has too. -/
def settleTxn (tag : Nat) (before : Dev) (fields : List Nat) (s : Dev) : Dev :=
  match s.par.waits.find? fun w => decide (w.tag = tag) with
  | none => s
  | some w =>
    let w' : CommitWait := { w with reply := fields, status := St.ok, applied := true,
                                    undo := { Undo.none with conf := some (confOf before) } }
    match w.answered with
    | some st => finishWait w' st s
    | none =>
      let put (x : CommitWait) : CommitWait := if x.tag = tag then w' else x
      { s with par.waits := s.par.waits.map put }

/-- R519, R520: the boundary of a commit: every item is applied, or none. -/
def txnBoundary (b : Time) (s : Dev) : Dev :=
  let x := s.cfg.txn
  if x.state ≠ .committing ∨ !serialLe x.boundary b then s
  else
    let st := txnCheck s x.items x.persistent x.arrived b
    let done := dropTxn s
    let s1 := if st = St.ok then count Reg.cfgTxnCount (applyTxn x.items x.arrived b done)
      else raiseDev St.cfgTxnFailed (count Reg.cfgRollbackCount done)
    let s1 := if st = St.ok ∧ x.persistent then persist x.items s1 else s1
    let fields := [x.late.toNat + 2 * x.persistent.toNat, s1.tt.frame.toNat, b.toNat]
    match x.peerTag, x.tag with
    | some tag, _ => emit (.commitDone tag st) s1
    | none, some tag =>
      if st = St.ok then settleTxn tag s fields s1
      else
        let s1 := { s1 with par.waits := s1.par.waits.filter fun w => !decide (w.tag = tag) }
        match x.holder with
        | some rq => reply rq st [] s1
        | none => s1
    | none, none =>
      match x.holder with
      | some rq => if x.mine then reply rq st (if st = St.ok then fields else []) s1 else s1
      | none => s1

/-! ## Writes of the NVM (R495, R508, R521, R532) -/

/-- R492: the floor of the device: the greatest sec_floor of its valid banks. -/
def deviceFloor (s : Dev) : Nat :=
  max (if s.cfg.validA then s.cfg.bankA.elim 0 (·.secFloor) else 0) (if s.cfg.validB then s.cfg.bankB.elim 0 (·.secFloor) else 0)

/-- R495: a bank holds an image, or is left invalid by a failed write. -/
def setBank (bankB : Bool) (img : Option Image) (s : Dev) : Dev :=
  let s := if bankB then { s with cfg.bankB := img, cfg.validB := img.isSome } else { s with cfg.bankA := img, cfg.validA := img.isSome }
  { s with cfg.floor := deviceFloor s }

/-- R532, R533: an identity copy is in force. -/
def installIdentity (c : IdentityCopy) (s : Dev) : Dev :=
  let copyB := identityTarget s
  let s := if copyB then { s with sec.copy1 := some c } else { s with sec.copy0 := some c }
  raiseDev St.secIdentityInstalled { s with
    sec.identity := .valid
    sec.inUse := copyB
    sec.signers := c.signers
    sec.pubHash := c.pubHash
    sec.storeSeq := c.storeSeq }

/-- R521, R534: the first write of the NVM and its read-back are complete. DEDUCED: log entry 73. -/
def nvmWritten (ok : Bool) (s : Dev) : Dev :=
  match s.cfg.nvmJobs with
  | [] => s
  | j :: rest =>
    let target := writeTarget s
    let s := { s with cfg.nvmJobs := rest }
    match j, ok with
    | .derived img, true => raiseDev St.cfgPersisted (count Reg.cfgNvmWriteCount (setBank target (some img) s))
    | .firmware img, true => count Reg.cfgNvmWriteCount (setBank target (some img) { s with cfg.fwPending := decide (s.cfg.phase ≠ .recovery) })
    | .identity c, true => installIdentity c s
    | .identity _, false =>
      if identityTarget s then { s with sec.copy1 := none } else { s with sec.copy0 := none }
    | _, false => raiseDev St.cfgNvmWrite (setBank target none { s with cfg.nvmWriteFail := true })

/-! ## Meanings -/

/-- CFG_TXN_BEGIN. -/
def execCfgTxnBegin (t : Time) (rq : Requester) (s : State) : Host.Outcome State Fault Refusal :=
  run (vendor t rq true (afterExpiry (txnBegin rq))) s

/-- CFG_TXN_WRITE. -/
def execCfgTxnWrite (t : Time) (rq : Requester) (id : BitVec 32) (items : List TxnItem) (s : State) :
    Host.Outcome State Fault Refusal :=
  run (vendor t rq true (afterExpiry (txnWrite rq id items))) s

/-- CFG_TXN_COMMIT. -/
def execCfgTxnCommit (t : Time) (rq : Requester) (id : BitVec 32) (persistent : Bool) (activation : Time) (s : State) :
    Host.Outcome State Fault Refusal :=
  run (vendor t rq true (afterExpiry (txnCommit rq id persistent activation))) s

/-- CFG_TXN_ROLLBACK. -/
def execCfgTxnRollback (t : Time) (rq : Requester) (id : BitVec 32) (s : State) : Host.Outcome State Fault Refusal :=
  run (vendor t rq true (afterExpiry (txnRollback rq id))) s

/-- TXN_IDLE_TIMEOUT. -/
def execTxnIdleTimeout (t : Time) (s : State) : Host.Outcome State Fault Refusal := run (awake t txnIdle) s

/-- NVM_WRITE_COMPLETE. -/
def execNvmWriteComplete (t : Time) (ok : Bool) (s : State) : Host.Outcome State Fault Refusal := run (awake t (nvmWritten ok)) s

end Sys2Proof.Machine
end

