-- ==== Sys2Proof/Machine/RegWrite.lean ====
section
/-! DEFINITION. Writes through the register file (R4, R5, R511, R512). -/

namespace Sys2Proof.Machine

/-! ## RWL fields (R512) -/

/-- R512: CFG_NO_TXN at most once per LD, and once for the management controller, in each 1,024 frames. DEDUCED: log entry 74. -/
def noteNoTxn (rq : Requester) (s : Dev) : Dev :=
  match rq with
  | .ld p l =>
    let quiet := match (s.ld p l).rwlEvent with
      | some f => decide ((s.tt.frame - f).toNat < 1024)
      | none => false
    if quiet then s else raise St.cfgNoTxn deviceWide [p, l] (modLd p l (fun d => { d with rwlEvent := some s.tt.frame }) s)
  | _ => raiseLimited 0 St.cfgNoTxn deviceWide [0xFF, 0xFF] s

/-- R512: a write to RWL fields is staged for the holder of the OPEN transaction; any other is discarded and counted. A staged
write that fails its range check, or finds the staging full, stages nothing. DEDUCED: log entry 74. -/
def rwlWrite (rq : Requester) (reg : BitVec 16) (mask value : BitVec 64) (s : Dev) : Dev :=
  if s.cfg.txn.state = .opened ∧ s.cfg.txn.mine ∧ s.cfg.txn.holder = some rq then
    let s := touchTxn s
    let item : TxnItem := .fields reg mask value
    match firstItemFault s s.cfg.txn.items s.cfg.txn.bytes 0 [item] with
    | some _ => s
    | none => stage [item] s
  else noteNoTxn rq (count Reg.cfgRwlRefuseCount s)

/-! ## Fields that a write of 1 clears -/

/-- R4: bit `b` of a written value is 1. -/
def written (v : BitVec 64) (b : Nat) : Bool := v.getLsbD b

/-- R510: the registers that are counters, RW1C bit by bit. -/
def counterRegs : List Nat :=
  [Reg.kvsRefusals, Reg.pfxMultiHitCount, Reg.pfxSkipCount, Reg.pfxFalseHitCount, Reg.pfxDeclineCount, Reg.attReqCount,
   Reg.attRefuseCount, Reg.attSegErrCount, Reg.attPartialCount, Reg.attWidenCount, Reg.attResidueCount,
   Reg.attFenceCount, Reg.attNonfiniteCount, Reg.tirPromoteCount, Reg.tirDemoteCount, Reg.tirBypassCount,
   Reg.tirLateCount, Reg.tirRefetchCount, Reg.flsRetryCount, Reg.flsRebuildCount, Reg.flsUncorrCount,
   Reg.flsRetireCount, Reg.flsRefreshCount, Reg.auvFlitDropCount, Reg.auvRetxCount, Reg.auvMissDropCount,
   Reg.auvMalformedCount, Reg.auvPsnRangeCount, Reg.auvViolationCount, Reg.auvRnrCount, Reg.shpHoldCount,
   Reg.shpPoliceDropCount, Reg.shpTransitDropCount, Reg.parSuspectCount, Reg.parLagCount, Reg.parTakeoverCount,
   Reg.cxlDiscardCount, Reg.cxlConflictCount, Reg.cxlBiCount, Reg.cxlPoisonCount, Reg.cfgTxnCount, Reg.cfgRollbackCount,
   Reg.cfgNvmWriteCount, Reg.cfgRwlRefuseCount, Reg.secSpdmCount, Reg.secSpdmErrorCount, Reg.rasDramCeCount,
   Reg.rasDramUeCount, Reg.rasSramCeCount, Reg.rasSramUeCount, Reg.rasHandshakeCount, Reg.rasGlitchCount,
   Reg.pwrEntryCount, Reg.pwrAbortCount, Reg.pwrNakCount, Reg.pwrWakeLateCount]

/-- R4: a counter with the written bits cleared. -/
def clearCount (id : Nat) (v : BitVec 64) (s : Dev) : Dev :=
  { s with counters := mset s.counters id ((BitVec.ofNat 32 (mgetD s.counters id 0) &&& ~~~v.setWidth 32).toNat) }

/-- R4: the RW1C fields of kvsBattStatus. -/
def clearKvsBattStatus (v : BitVec 64) (s : Dev) : Dev :=
  { s with
    kvs.battFull := s.kvs.battFull && !written v 0 }

/-- R4: the RW1C fields of pfxStatus. -/
def clearPfxStatus (v : BitVec 64) (s : Dev) : Dev :=
  { s with
    pfx.multiHit := s.pfx.multiHit && !written v 31
    pfx.falseHit := s.pfx.falseHit && !written v 30
    pfx.dirFull := s.pfx.dirFull && !written v 29
    pfx.pinFull := s.pfx.pinFull && !written v 28 }

/-- R4: the RW1C fields of attStatus. -/
def clearAttStatus (v : BitVec 64) (s : Dev) : Dev :=
  { s with
    att.refused := s.att.refused && !written v 31
    att.segError := s.att.segError && !written v 30
    att.partialSet := s.att.partialSet && !written v 29
    att.widened := s.att.widened && !written v 28 }

/-- R4: the RW1C fields of attExecStatus. -/
def clearAttExecStatus (v : BitVec 64) (s : Dev) : Dev :=
  { s with
    att.fencedSet := s.att.fencedSet && !written v 14 }

/-- R4: the RW1C fields of tirStatus. -/
def clearTirStatus (v : BitVec 64) (s : Dev) : Dev :=
  { s with
    tir.t1Full := s.tir.t1Full && !written v 31
    tir.queueFull := s.tir.queueFull && !written v 30
    tir.objectLost := s.tir.objectLost && !written v 29
    tir.pageLost := s.tir.pageLost && !written v 28
    tir.lostFull := s.tir.lostFull && !written v 27 }

/-- R4: the RW1C fields of flsStatus. -/
def clearFlsStatus (v : BitVec 64) (s : Dev) : Dev :=
  { s with
    fls.uncorrectable := s.fls.uncorrectable && !written v 31
    fls.programFail := s.fls.programFail && !written v 30
    fls.eraseFail := s.fls.eraseFail && !written v 29
    fls.dieFailed := s.fls.dieFailed && !written v 28
    fls.groupDegraded := s.fls.groupDegraded && !written v 27
    fls.noFreeBand := s.fls.noFreeBand && !written v 26
    fls.ckptAbort := s.fls.ckptAbort && !written v 25
    fls.ckptFallback := s.fls.ckptFallback && !written v 24
    fls.ckptLost := s.fls.ckptLost && !written v 23 }

/-- R4: the RW1C fields of iatStatus. -/
def clearIatStatus (v : BitVec 64) (s : Dev) : Dev :=
  { s with
    sync.lateStart := s.sync.lateStart && !written v 18
    sync.variantAbsent := s.sync.variantAbsent && !written v 17
    sync.ppsMissing := s.sync.ppsMissing && !written v 16 }

/-- R4: the RW1C fields of shpStatus. -/
def clearShpStatus (v : BitVec 64) (s : Dev) : Dev :=
  { s with
    shp.lateStart := s.shp.lateStart && !written v 31
    shp.discarded := s.shp.discarded && !written v 30
    shp.policed := s.shp.policed && !written v 29
    shp.transitDrop := s.shp.transitDrop && !written v 28 }

/-- R4: the RW1C fields of parStatus. -/
def clearParStatus (v : BitVec 64) (s : Dev) : Dev :=
  { s with
    par.pausedSet := s.par.pausedSet && !written v 18
    par.lagSet := s.par.lagSet && !written v 17
    par.isolatedSet := s.par.isolatedSet && !written v 16
    par.replacedSet := s.par.replacedSet && !written v 15 }

/-- R4: the RW1C fields of cfgStatus. -/
def clearCfgStatus (v : BitVec 64) (s : Dev) : Dev :=
  { s with
    cfg.nvmWriteFail := s.cfg.nvmWriteFail && !written v 21
    cfg.txnExpired := s.cfg.txnExpired && !written v 20 }

/-- R4: the RW1C fields of secStatus. -/
def clearSecStatus (v : BitVec 64) (s : Dev) : Dev :=
  { s with
    sec.fallback := s.sec.fallback && !written v 28
    sec.bundleRefused := s.sec.bundleRefused && !written v 27 }

/-- R4: the RW1C fields of rasStatus. DESIGN CHOICE: log entry 82. -/
def clearRasStatus (v : BitVec 64) (s : Dev) : Dev :=
  { s with
    ras.dramUe := s.ras.dramUe && !written v 31
    ras.channelLost := s.ras.channelLost && !written v 30
    ras.sramUe := s.ras.sramUe && !written v 29
    ras.mgmtReset := s.ras.mgmtReset && !written v 26
    ras.handshake := s.ras.handshake && !written v 25 }

/-- R4: the RW1C fields of pwrStatus. -/
def clearPwrStatus (v : BitVec 64) (s : Dev) : Dev :=
  { s with
    pwr.budgetClamp := s.pwr.budgetClamp && !written v 31 }

/-- R4: the RW1C fields of AUV_PORT_STATUSp. -/
def clearPortStatus (p : Nat) (v : BitVec 64) (s : Dev) : Dev :=
  modPort p (fun q => { q with refused := q.refused && !written v 40, miswired := q.miswired && !written v 39 }) s

/-- R4: the RW1C field of PWR_STATEd. -/
def clearPwrState (d : Nat) (v : BitVec 64) (s : Dev) : Dev :=
  modDomain d (fun x => { x with aborted := x.aborted && !written v 24 }) s

/-- R4, R597: the RW1C fields of PWR_TRIP_RECORD. -/
def clearTripRecord (v : BitVec 64) (s : Dev) : Dev :=
  { s with pwr.thermtrip := s.pwr.thermtrip && !written v 31, pwr.railFault := s.pwr.railFault &&& ~~~v.setWidth 12 }

/-- R4: a register's fields as a write leaves them: RW1C fields lose the bits written as 1, RO and RSV fields stay, and no
register has an RW field. The WO field of PAR_CONTROL and the RWL fields have rows of their own. DEDUCED: log entry 74. -/
def registerWrite (id : Nat) (v : BitVec 64) (s : Dev) : Dev :=
  if counterRegs.contains id then clearCount id v s
  else if id = Reg.kvsBattStatus then clearKvsBattStatus v s
  else if id = Reg.pfxStatus then clearPfxStatus v s
  else if id = Reg.attStatus then clearAttStatus v s
  else if id = Reg.attExecStatus then clearAttExecStatus v s
  else if id = Reg.tirStatus then clearTirStatus v s
  else if id = Reg.flsStatus then clearFlsStatus v s
  else if id = Reg.iatStatus then clearIatStatus v s
  else if id = Reg.shpStatus then clearShpStatus v s
  else if id = Reg.parStatus then clearParStatus v s
  else if id = Reg.cfgStatus then clearCfgStatus v s
  else if id = Reg.secStatus then clearSecStatus v s
  else if id = Reg.rasStatus then clearRasStatus v s
  else if id = Reg.pwrStatus then clearPwrStatus v s
  else if id = Reg.pwrTripRecord then clearTripRecord v s
  else if Reg.auvPortStatus ≤ id ∧ id < Reg.auvPortStatus + 13 then clearPortStatus (id - Reg.auvPortStatus) v s
  else if Reg.pwrState ≤ id ∧ id < Reg.pwrState + 106 then clearPwrState (id - Reg.pwrState) v s
  else s

/-- R511: an operator LD and the management controller reach the register file. DEDUCED: log entry 74. -/
def regAccess (rq : Requester) (f : Dev → Dev) (s : Dev) : Dev :=
  match rq with
  | .ld _ _ => if isOperator s rq then f s else s
  | .mctp => f s
  | _ => s

/-! ## Meanings -/

/-- RWL_WRITE. -/
def execRwlWrite (t : Time) (rq : Requester) (reg : BitVec 16) (mask value : BitVec 64) (s : State) :
    Host.Outcome State Fault Refusal :=
  run (awake t (afterExpiry (rwlWrite rq reg mask value))) s

/-- REGISTER_WRITE. -/
def execRegisterWrite (t : Time) (rq : Requester) (reg : BitVec 16) (value : BitVec 64) (s : State) :
    Host.Outcome State Fault Refusal :=
  run (awake t (regAccess rq (registerWrite reg.toNat value))) s

end Sys2Proof.Machine
end

