-- ==== Sys2Proof/Machine/View.lean ====
section
/-! DEFINITION. What a read of each register returns (R4, R510, R511): the RWL fields as they run, the counters, and the RO and RW1C
fields drawn from the state. -/

namespace Sys2Proof.Machine

/-- Fields of a register: each value at its lowest bit. -/
def pack (l : List (Nat × Nat)) : BitVec 64 := BitVec.ofNat 64 (sumBy (fun f => f.1 * 2 ^ f.2) l)

/-- A bit. -/
def bit (b : Bool) : Nat := b.toNat

/-- A value that saturates at `n` bits. -/
def sat (v n : Nat) : Nat := min v (2 ^ n - 1)

/-- A value cut to `n` bits. -/
def cut (v n : Nat) : Nat := v % 2 ^ n

/-- State codes, as the registers show them. -/
def SyncState.code : SyncState → Nat
  | .acquire => 0 | .locked => 1 | .holdover => 2 | .free => 3
def PortState.code : PortState → Nat
  | .down => 0 | .training => 1 | .up => 2 | .degraded => 3 | .failed => 4
def PairState.code : PairState → Nat
  | .joining => 0 | .paired => 1 | .suspect => 2 | .paused => 3 | .solo => 4 | .isolated => 5 | .resync => 6
def LdState.code : LdState → Nat
  | .disabled => 0 | .active => 1 | .failed => 2
def Phase.code : Phase → Nat
  | .boot => 1 | .verify => 2 | .train => 3 | .nand => 4 | .restore => 5 | .sync => 7 | .run => 8 | .recovery => 14 | .halted => 15
def TxnState.code : TxnState → Nat
  | .idle => 0 | .opened => 1 | .committing => 2
def Identity.code : Identity → Nat
  | .none => 0 | .valid => 1 | .mismatch => 2
def CoreState.code : CoreState → Nat
  | .active => 0 | .spare => 1 | .fenced => 2 | .failed => 3

/-! ## 0x1 to 0x3 -/

/-- R90, R96: KVS_OCCUPANCY. -/
def viewOccupancy (s : Dev) : BitVec 64 := pack [(s.kvs.seqs.length, 32), (s.kvs.seats.length, 0)]

/-- R115: KVS_BATT_STATUS. -/
def viewBatt (s : Dev) : BitVec 64 :=
  pack [(100 * stagingUsed s / max 1 s.tir.stagingUnits, 24), (bit s.kvs.battFull, 0)]

/-- R155, R163, R166, R149: PFX_STATUS. -/
def viewPfx (s : Dev) : BitVec 64 :=
  pack [(bit s.pfx.multiHit, 31), (bit s.pfx.falseHit, 30), (bit s.pfx.dirFull, 29), (bit s.pfx.pinFull, 28), (s.pfx.dir.length, 0)]

/-- ATT_STATUS. -/
def viewAtt (s : Dev) : BitVec 64 :=
  pack [(bit s.att.refused, 31), (bit s.att.segError, 30), (bit s.att.partialSet, 29), (bit s.att.widened, 28)]

/-- R251: one entry of ATT_LCORE_MAPi; 0xFF for an absent index. -/
def lcoreEntry (s : Dev) (i : Nat) : Nat := mgetD s.att.lmap i 0xFF

/-- ATT_LCORE_MAPi. -/
def viewLcoreMap (s : Dev) (i : Nat) : BitVec 64 :=
  pack [(lcoreEntry s (4 * i + 3), 24), (lcoreEntry s (4 * i + 2), 16), (lcoreEntry s (4 * i + 1), 8), (lcoreEntry s (4 * i), 0)]

/-- ATT_PCORE_STATEp. -/
def viewPcore (s : Dev) (p : Nat) : BitVec 64 :=
  match mget s.att.pcores p with
  | some c => pack [(c.state.code, 30), (if c.state = .active then c.lcore else 0, 24), (sat c.mismatches 16, 0)]
  | none => 0

/-- ATT_EXEC_STATUS. -/
def viewExec (s : Dev) : BitVec 64 :=
  let spares := (s.att.pcores.filter fun c => decide (c.2.state = .spare) &&
    !(s.att.takeovers.any fun t => decide (t.spare = c.1))).length
  pack [(s.absentCores, 24), (spares, 16), (bit (decide (0 < s.absentCores)), 15), (bit s.att.fencedSet, 14)]

/-! ## 0x4 to 0x6 -/

/-- R244: TIR_POOL_STATUS. -/
def viewPool (s : Dev) : BitVec 64 := pack [(coldFree s / 1048576, 32), (freeReserve s / 1048576, 0)]

/-- TIR_STATUS. -/
def viewTir (s : Dev) : BitVec 64 :=
  pack [(bit s.tir.t1Full, 31), (bit s.tir.queueFull, 30), (bit s.tir.objectLost, 29), (bit s.tir.pageLost, 28),
        (bit s.tir.lostFull, 27), (sat s.tir.drains.length 15, 0)]

/-- R307, R308: FLS_DIE_GEOMETRY. -/
def viewGeometry (s : Dev) : BitVec 64 :=
  let planes := if s.fls.planes = 4 then 2 else if s.fls.planes = 2 then 1 else 0
  pack [(s.fls.diesPerChannel, 59), (planes, 56), (s.fls.blocksPerPlane, 40), (s.fls.pagesPerBlock, 25), (s.fls.spareBlocks, 13),
        (s.fls.groups, 6)]

/-- R309: FLS_CHAN_STATEc. -/
def viewChanState (s : Dev) (c : Nat) : BitVec 64 :=
  let code (k : Nat) : Nat := match mget s.fls.dies (16 * c + k) with
    | some d => if d.state = .active then 1 else 2
    | none => 0
  pack ((List.range 16).map fun k => (code k, 2 * k))

/-- R328: the lowest percentage of FREE bands over the groups. -/
def lowestFreePct (s : Dev) : Nat :=
  ((List.range 64).filter (groupExists s)).foldl (fun m g => min m (100 * freeBands s g / max 1 (bandsPerGroup s))) 100

/-- FLS_STATUS. -/
def viewFls (s : Dev) : BitVec 64 :=
  pack [(bit s.fls.uncorrectable, 31), (bit s.fls.programFail, 30), (bit s.fls.eraseFail, 29), (bit s.fls.dieFailed, 28),
        (bit s.fls.groupDegraded, 27), (bit s.fls.noFreeBand, 26), (bit s.fls.ckptAbort, 25), (bit s.fls.ckptFallback, 24),
        (bit s.fls.ckptLost, 23), (if s.fls.groups = 0 then 0 else lowestFreePct s, 0)]

/-- FLS_CKPT_STATUS. -/
def viewCkpt (s : Dev) : BitVec 64 :=
  match s.fls.roots with
  | r :: _ => pack [(r.seq.toNat, 32), (bit r.area, 31), (sat s.fls.lastMs 16, 0)]
  | [] => pack [(sat s.fls.lastMs 16, 0)]

/-- R43, R48, R69: IAT_STATUS. -/
def viewIat (s : Dev) : BitVec 64 :=
  pack [(s.sync.state.code, 29), (bit s.sync.gmSelf, 28), (cut s.sync.gmDevice 9, 19), (bit s.sync.lateStart, 18),
        (bit s.sync.variantAbsent, 17), (bit s.sync.ppsMissing, 16), (s.tt.variant.code, 14), (s.tt.profile.code, 12)]

/-- IAT_TT_ACTIVE. -/
def viewTtActive (s : Dev) : BitVec 64 := pack [(s.tt.running.elim 0 (·.id.toNat), 16), (cut s.tt.framePos 8, 8)]

/-! ## 0x7 to 0xA -/

/-- R344: AUV_PORT_STATUSp. -/
def viewPort (s : Dev) (p : Nat) : BitVec 64 :=
  let q := s.port p
  pack [(q.state.code, 61), (q.lanes.length, 55), (if q.farPartner then 0 else cut q.farDevice 9, 46), (cut q.farPort 4, 42),
        (bit q.farPartner, 41), (bit q.refused, 40), (bit q.miswired, 39), (sat q.retrains 7, 32), (sat q.fecUncorr 32, 0)]

/-- AUV_CTX_STATUS. -/
def viewCtx (s : Dev) : BitVec 64 := pack [(cachedCount s, 12), (sat (waitingCount s) 12, 0)]

/-- R395: SHP_GATE_STATUSp. -/
def viewGate (s : Dev) (p : Nat) : BitVec 64 :=
  let e := s.egr p
  pack [(e.running.elim 0 (·.list.id.toNat), 16), (cut e.entry 7, 9), (bit e.pending.isSome, 8), ((openGates s p).toNat, 0)]

/-- SHP_STATUS. -/
def viewShp (s : Dev) : BitVec 64 :=
  let fallback := (List.range 13).map fun p => (bit (decide ((s.port p).state = .degraded)), p)
  pack ([(bit s.shp.lateStart, 31), (bit s.shp.discarded, 30), (bit s.shp.policed, 29), (bit s.shp.transitDrop, 28)] ++ fallback)

/-- PAR_CONFIG. -/
def viewParConfig (s : Dev) : BitVec 64 := pack [(s.par.dimX - 1, 28), (s.par.dimY - 1, 24), (cut s.par.deviceId 9, 15)]

/-- R433: PAR_STATUS. -/
def viewPar (s : Dev) : BitVec 64 :=
  pack [(s.par.state.code, 29), (cut s.par.partnerId 9, 20), (bit s.par.tookOver, 19), (bit s.par.pausedSet, 18),
        (bit s.par.lagSet, 17), (bit s.par.isolatedSet, 16), (bit s.par.replacedSet, 15)]

/-- CXL_LD_STATUSp. -/
def viewLdStatus (s : Dev) (p : Nat) : BitVec 64 := pack ((List.range 16).map fun l => ((s.ld p l).state.code, 2 * l))

/-! ## 0xB to 0xE -/

/-- R521: a derived image is being written. -/
def persistBusy (s : Dev) : Bool :=
  match s.cfg.nvmJobs with
  | .derived _ :: _ => true
  | _ => false

/-- CFG_STATUS. -/
def viewCfg (s : Dev) : BitVec 64 :=
  pack [(s.cfg.phase.code, 28), (bit s.cfg.bootBank, 27), (bit s.cfg.fallback, 26), (bit s.cfg.fwPending, 25), (bit (persistBusy s), 24),
        (s.cfg.txn.state.code, 22), (bit s.cfg.nvmWriteFail, 21), (bit s.cfg.txnExpired, 20)]

/-- CFG_IMAGE_INFO. -/
def viewImage (s : Dev) : BitVec 64 :=
  match s.cfg.image with
  | some i => pack [(i.seq.toNat, 32), (cut i.secVersion 32, 0)]
  | none => 0

/-- CFG_NVM_STATUS. -/
def viewNvm (s : Dev) : BitVec 64 :=
  pack [(cut s.cfg.floor 32, 32), (bit s.cfg.validA, 31), (bit s.cfg.validB, 30), (bit s.cfg.wp, 29)]

/-- CFG_TXN_STATUS. -/
def viewTxn (s : Dev) : BitVec 64 :=
  let holder := match s.cfg.txn.holder with
    | some (.ld p l) => 16 * p + l
    | some .mctp => 0xFF
    | _ => 0
  pack [(s.cfg.txn.id.toNat, 32), (holder, 24), (sat (s.cfg.txn.bytes / 4) 24, 0)]

/-- CFG_STRAPS. -/
def viewStraps (s : Dev) : BitVec 64 :=
  pack [(bit s.pwr.straps.testEn, 3), (bit s.pwr.straps.rcv, 2), (s.pwr.straps.i3cAddr.toNat, 0)]

/-- SEC_STATUS. -/
def viewSec (s : Dev) : BitVec 64 :=
  pack [(s.sec.identity.code, 30), (bit s.sec.inUse, 29), (bit s.sec.fallback, 28), (bit s.sec.bundleRefused, 27),
        (sat s.sec.signers.length 5, 0)]

/-- R526: SEC_DEVICE_KEY_ID. -/
def viewKeyId (s : Dev) : BitVec 64 := if s.sec.identity = .valid then keyId s.sec.pubHash else 0

/-- RAS_STATUS. DESIGN CHOICE: log entry 82. -/
def viewRas (s : Dev) : BitVec 64 :=
  pack [(bit s.ras.dramUe, 31), (bit s.ras.channelLost, 30), (bit s.ras.sramUe, 29), (bit s.ras.reclaimHalted, 28),
        (bit s.ras.selfFenced, 27), (bit s.ras.mgmtReset, 26), (bit s.ras.handshake, 25), (sat s.ras.retired.length 12, 0)]

/-- RAS_DRAM_LOSTn. -/
def viewLost (s : Dev) (n : Nat) : BitVec 64 :=
  pack ((List.range 32).map fun k => (bit (s.ras.lostChannels.contains (32 * n + k)), k))

/-- R542: RAS_LAST_EVENT. -/
def viewLastEvent (s : Dev) : BitVec 64 :=
  pack [(s.ras.lastStatus.toNat, 48), (s.ras.lastLog, 46), (s.ras.lastTime.toNat / 64 % 2 ^ 46, 0)]

/-- RAS_MGMT_STATUS. -/
def viewMgmt (s : Dev) : BitVec 64 :=
  pack ((List.range 4).map (fun c => (bit (s.ras.running.contains c), 28 + c)) ++ [(sat s.ras.coreResets 16, 0)])

/-- PWR_STATEd. -/
def viewDomain (s : Dev) (d : Nat) : BitVec 64 :=
  let x := s.domain d
  pack [(x.state.code, 28), (x.target, 26), (bit x.pendingOn, 25), (bit x.aborted, 24), (x.lastReason, 16)]

/-- R576: PWR_LAST_WAKEd. -/
def viewWake (s : Dev) (d : Nat) : BitVec 64 :=
  let x := s.domain d
  pack [(x.wakeSource, 60), (bit x.wakeDuring, 59), (x.wakeAbort, 57), (x.wakeTime.toNat / 64 % 2 ^ 46, 0)]

/-- PWR_STATUS. -/
def viewPwr (s : Dev) : BitVec 64 :=
  let count (st : PowerState) : Nat := (s.pwr.domains.filter fun d => decide (d.2.state = st)).length
  pack [(bit s.pwr.budgetClamp, 31), (cut s.pwr.coreMhz 12, 16), (count .ret, 8), (count .off, 0)]

/-- R595: the RO fields of PWR_THERMAL. -/
def viewThermal (s : Dev) : BitVec 64 :=
  pack [(bit s.pwr.thermalClamp, 23), (cut s.pwr.hottest 7, 16), (cut s.pwr.maxC 8, 8), (cut s.pwr.stackMaxC 8, 0)]

/-- PWR_TRIP_RECORD. -/
def viewTrip (s : Dev) : BitVec 64 :=
  pack [(bit s.pwr.thermtrip, 31), (cut s.pwr.tripSensor 7, 24), (s.pwr.railFault.toNat, 0)]

/-- The fields of a register that the state holds elsewhere than in `regs`. -/
def viewRo (s : Dev) (id : Nat) : BitVec 64 :=
  let at0 (first n : Nat) : Bool := decide (first ≤ id) && decide (id < first + n)
  if counterRegs.contains id then BitVec.ofNat 64 (mgetD s.counters id 0)
  else if id = Reg.kvsOccupancy then viewOccupancy s
  else if id = Reg.kvsBattStatus then viewBatt s
  else if id = Reg.pfxStatus then viewPfx s
  else if id = Reg.attStatus then viewAtt s
  else if at0 Reg.attLcoreMap 16 then viewLcoreMap s (id - Reg.attLcoreMap)
  else if at0 Reg.attPcoreState 68 then viewPcore s (id - Reg.attPcoreState)
  else if id = Reg.attExecStatus then viewExec s
  else if id = Reg.tirPoolStatus then viewPool s
  else if id = Reg.tirStatus then viewTir s
  else if id = Reg.flsDieGeometry then viewGeometry s
  else if at0 Reg.flsChanState 64 then viewChanState s (id - Reg.flsChanState)
  else if id = Reg.flsStatus then viewFls s
  else if id = Reg.flsCkptStatus then viewCkpt s
  else if id = Reg.iatFabricTime then s.now
  else if id = Reg.iatStatus then viewIat s
  else if id = Reg.iatOffset then s.sync.offset.setWidth 64
  else if id = Reg.iatFrame then s.tt.frame.setWidth 64
  else if id = Reg.iatTtActive then viewTtActive s
  else if at0 Reg.auvPortStatus 13 then viewPort s (id - Reg.auvPortStatus)
  else if at0 Reg.auvPortAsym 13 then (s.port (id - Reg.auvPortAsym)).asym.setWidth 64
  else if id = Reg.auvCtxStatus then viewCtx s
  else if id = Reg.auvVlogHead then BitVec.ofNat 64 (cut s.auv.vlogHead 32)
  else if at0 Reg.shpGateStatus 13 then viewGate s (id - Reg.shpGateStatus)
  else if id = Reg.shpStatus then viewShp s
  else if id = Reg.parConfig then viewParConfig s
  else if id = Reg.parStatus then viewPar s
  else if id = Reg.parCommit then pack [(s.par.takeoverEpoch.toNat, 32), (s.par.commitSeq.toNat, 0)]
  else if id = Reg.parMirrorBacklog then BitVec.ofNat 64 (sat s.par.copies.length 32)
  else if at0 Reg.cxlLdStatus 2 then viewLdStatus s (id - Reg.cxlLdStatus)
  else if at0 Reg.cxlSfStatus 2 then BitVec.ofNat 64 (s.filter (id - Reg.cxlSfStatus)).length
  else if id = Reg.cfgStatus then viewCfg s
  else if id = Reg.cfgImageInfo then viewImage s
  else if id = Reg.cfgNvmStatus then viewNvm s
  else if id = Reg.cfgTxnStatus then viewTxn s
  else if id = Reg.cfgPart then BitVec.ofNat 64 s.pwr.part
  else if id = Reg.cfgStraps then viewStraps s
  else if id = Reg.secStatus then viewSec s
  else if id = Reg.secDeviceKeyId then viewKeyId s
  else if id = Reg.secStoreSeq then s.sec.storeSeq.setWidth 64
  else if id = Reg.rasStatus then viewRas s
  else if at0 Reg.rasDramLost 8 then viewLost s (id - Reg.rasDramLost)
  else if id = Reg.rasLastEvent then viewLastEvent s
  else if id = Reg.rasMgmtStatus then viewMgmt s
  else if at0 Reg.pwrState 106 then viewDomain s (id - Reg.pwrState)
  else if at0 Reg.pwrLastWake 106 then viewWake s (id - Reg.pwrLastWake)
  else if id = Reg.pwrStatus then viewPwr s
  else if id = Reg.pwrRailStatus then s.pwr.rails.setWidth 64
  else if id = Reg.pwrThermal then viewThermal s
  else if id = Reg.pwrTripRecord then viewTrip s
  else 0

/-- R4, R512: what a read of the register returns: the running values, never staged ones. DESIGN CHOICE: log entry 4. -/
def Dev.view (s : Dev) (id : Nat) : BitVec 64 := (s.reg id &&& rwlMask id) ||| viewRo s id

end Sys2Proof.Machine
end

