-- ==== Sys2Proof/Machine/Mailbox.lean ====
section
/-! DEFINITION. The mailbox: STATUS_SNAPSHOT (R485), the standard CXL commands (R451, R455, R474, R482, R487), the FM-API and
CDAT. -/

namespace Sys2Proof.Machine

/-! ## Records of STATUS_SNAPSHOT (R485): each field with its size in bytes -/

/-- A record: its fields in ascending offset, each with its size in bytes. -/
abbrev Layout := List (Nat × Nat)

/-- R2: the bytes of a record. -/
def layoutBytes (l : Layout) : List Byte := l.flatMap fun f => leBytes f.2 f.1

/-- A record with the CRC-32C over its bytes in its last field. DEDUCED: log entry 75. -/
def withCrc (l : Layout) : Layout := l ++ [(4, (crc32c (layoutBytes l)).toNat)]

/-- R106: the word of an extent, type 0b10. DEDUCED: log entry 75. -/
def extentBits (e : Option Extent) : Nat :=
  match e with
  | some e => 2 * 2 ^ 62 + 2 ^ 61 + e.codec * 2 ^ 56 + (e.len4k - 1) * 2 ^ 48 + e.unit
  | none => 0

/-- R88: head_dim_code of a head dimension. -/
def headDimCodeOf (d : Nat) : Nat := [64, 80, 96, 128, 160, 192, 256].idxOf d

/-- R88: fmt_flags of a sequence. -/
def fmtFlags (q : Seq) : Nat := formatCode q.format + 4 * mirrorCode q.mirror

/-- R88: a seat record. -/
def seatRecord (q : Seq) : Layout :=
  [(4, q.handle.toNat), (2, q.tenant), (1, q.model), (1, fmtFlags q), (2, q.scope), (1, q.state.code), (1, 0), (4, q.length),
   (4, q.sharedTokens), (4, q.maxLen), (8, q.ptRoot), (8, q.pendingBase), (12, q.tailKey.toNat), (4, q.lastFrame.toNat),
   (2, q.layers), (1, q.kvHeads), (1, headDimCodeOf q.headDim), (2, q.page4k), (2, 0)]

/-- R88, R89: a cold record: of a seated sequence its progress is what the last park or checkpoint left. -/
def coldRecord (q : Seq) : Layout :=
  let c := if q.seat.isSome then q.cold else (refreshCold q).cold
  withCrc [(4, q.handle.toNat), (2, q.tenant), (1, q.model), (1, fmtFlags q), (2, q.scope), (1, q.state.code), (1, 0),
    (4, c.length), (4, c.sharedTokens), (4, q.seat.getD 0xFFFFFFFF), (8, extentBits q.ptExtent), (12, c.tailKey.toNat),
    (4, c.lastFrame.toNat), (8, extentBits q.pendingExtent), (4, 0)]

/-- R140: state code of a node. -/
def NodeState.code : NodeState → Nat
  | .pending => 1 | .live => 2 | .removing => 3

/-- R140: a node record. -/
def nodeRecord (n : Node) : Layout :=
  withCrc ([(12, n.key.toNat), (12, n.parent.toNat)] ++ (List.range 16).map (fun i => (4, (n.tokens.getD i 0).toNat))
    ++ [(4, n.depth), (4, n.refCount), (4, n.gen.toNat), (4, n.lastHit.toNat), (8, n.plist), (2, n.scope), (1, n.model),
        (1, formatCode n.format + 4 * mirrorCode n.mirror + 16 * bit n.inArray), (1, n.state.code), (1, n.saltEpoch.toNat),
        (2, n.layers), (4, n.children)])

/-- R289: an object record. -/
def objectRecord (i : Nat) (o : Obj) : Layout :=
  withCrc [(4, i), (2, o.tenant), (1, o.state.code), (1, mirrorCode o.mirror + 4 * o.elem + 16 * bit o.resident + 32 * bit o.stats),
    (8, o.size), (8, o.mapBase), (4, o.version), (4, o.readers), (4, o.lostBlocks), (24, 0)]

/-- R372: a channel context. -/
def channelRecord (ch : Nat) (c : Chan) : Layout :=
  let ident := c.tenant + 4096 * c.kind + 16384 * bit c.privileged + 32768
  let done := sumBy (fun i => bit (c.done.any fun m => decide (m.csn = c.nextCsn + 1 + BitVec.ofNat 32 i)) * 2 ^ i) (List.range 64)
  let access := c.access + 8 * bit c.waiting.isSome + 16 * bit (c.waiting.any fun w => w.msg.abortChain)
  [(2, ident), (1, access), (1, c.tcMask.toNat), (2, c.peer), (2, 0), (4, c.nextCsn.toNat), (4, c.completions.toNat),
   (8, done), (4, c.target), (4, if c.waiting.isSome then Config.waitEntry ch else 0)]

/-- R311: state code of a band. -/
def BandState.code : BandState → Nat
  | .free => 0 | .opened => 1 | .closed => 2 | .compacting => 3 | .erasing => 4 | .retired => 5

/-- R334: a band record. -/
def bandRecord (s : Dev) (key : Nat) (b : Band) : Layout :=
  withCrc ([(1, b.state.code), (1, bit b.refresh + 2 * bit b.evacuate), (2, 0), (4, b.eraseCount), (4, validUnits s key),
    (4, b.writePoint), (4, b.summaryUnit), (4, b.seq.toNat)] ++ (List.range 16).map (fun i => (2, sat (b.reads.getD i 0 / 1024) 16))
    ++ [(4, 0)])

/-- R384: a violation record. -/
def violationRecord (v : Violation) : Layout :=
  [(8, v.time.toNat), (2, v.src), (2, v.dst), (4, v.channel), (2, v.tenant), (1, v.opcode), (1, v.port), (2, v.status.toNat),
   (2, 0), (8, v.addr)]

/-- R416: a policer record. -/
def policerRecord (p : Policer) : Layout :=
  [(4, p.cir), (2, p.cbs4k), (1, bit p.enable), (1, 0), (4, p.tokens), (4, p.drops), (8, p.last), (8, 0)]

/-- R216: the slice in progress on a logical core: the first in its queue, the oldest request first. -/
def sliceInProgress (s : Dev) (core : Nat) : Option (Nat × Request × Slice) :=
  s.att.reqs.findSome? fun r =>
    (r.2.slices.find? fun x => decide (x.core = core) && x.queued && !x.done).map fun x => (r.1, r.2, x)

/-- R216: a slice descriptor. -/
def sliceRecord (s : Dev) (id : Nat) (r : Request) (x : Slice) : Layout :=
  match r.segs[x.seg]?, descOf s r.msg.model with
  | some g, some d =>
    let rows := r.msg.rows.filter fun e => decide (e.segment = x.seg)
    let first := (r.msg.rows.takeWhile fun e => decide (e.segment ≠ x.seg)).length
    let scale := if r.msg.scale = 0 then defaultScale d.headDimCode else r.msg.scale
    [(2, cut (Config.sliceTag id) 16), (2, x.seg), (1, x.kvHead), (1, arithOf r.msg.qFormat (formatCode g.format)),
     (2, cut (Config.sliceOps id) 16), (4, x.index), (4, x.nSlices), (4, x.ords.headD 0), (1, x.ords.length), (1, d.g),
     (1, d.headDimCode), (1, formatCode g.format + 4 * r.msg.qFormat), (4, first), (4, rows.length), (4, g.keyEnd),
     (4, r.msg.window), (2, r.msg.sinkTokens), (1, bit (AttendMsg.causal r.msg) + 2 * bit (AttendMsg.sliding r.msg)), (1, 0), (4, scale.toNat),
     (4, if AttendMsg.capped r.msg then r.msg.softcap.toNat else 0), (4, cut (Config.mergeTo id x.g) 32), (8, 0)]
  | _, _ => [(64, 0)]

/-! ## STATUS_SNAPSHOT -/

/-- What a class and index name. -/
inductive Snap
  /-- The record, and the tenant it belongs to. -/
  | record (tenant : Option Nat) (fields : List Nat)
  /-- The index lies beyond the table. -/
  | beyond

/-- The values of a record. -/
def fieldsOf (l : Layout) : List Nat := l.map (·.2)

/-- A record of a table of `size` entries: an entry in use, or zeros. DEDUCED: log entry 75. -/
def tableRecord {α : Type} (size i words : Nat) (m : Map α) (tenant : α → Nat) (f : α → Layout) : Snap :=
  if size ≤ i then .beyond
  else
    match mget m i with
    | some a => .record (some (tenant a)) (fieldsOf (f a))
    | none => .record none (List.replicate words 0)

/-- R485: the five status registers of class 0. -/
def statusWords (s : Dev) : List Nat :=
  [(s.view Reg.attExecStatus).toNat, (s.view Reg.iatStatus).toNat, (s.view Reg.parStatus).toNat, (s.view Reg.flsStatus).toNat,
   (s.view Reg.tirStatus).toNat]

/-- R485: classes 0 to 3. -/
def snapLow (s : Dev) (cls i : Nat) : Snap :=
  match cls with
  | 0 => if i = 0 then .record none (statusWords s) else .beyond
  | 1 =>
    if 64 ≤ i then .beyond
    else
      match sliceInProgress s i with
      | some (id, r, x) => .record (some r.tenant) (fieldsOf (sliceRecord s id r x))
      | none => .record none (List.replicate 23 0)
  | 2 => tableRecord 256 i 10 s.auv.vlog (·.tenant) violationRecord
  | _ =>
    if 24576 ≤ i then .beyond
    else .record (some (i / 6)) (match mget s.shp.policers i with
      | some p => fieldsOf (policerRecord p)
      | none => List.replicate 8 0)

/-- R135, R485: a node is a record of every tenant of its scope; for any other it is another tenant's. DEDUCED: log entry 75. -/
def nodeTenant (s : Dev) (me : Option Nat) (n : Node) : Nat :=
  match me with
  | some t => if isMember s t n.scope then t else 4096
  | none => 4096

/-- R485: the record that a class and index name, for a requester of tenant `me`. DEDUCED: log entry 75. -/
def snapshotOf (s : Dev) (me : Option Nat) (cls i : Nat) : Snap :=
  match cls with
  | 4 => tableRecord 262144 i 19 ((s.kvs.seats.filterMap fun e => (mget s.kvs.seqs e.2).map fun q => (e.1, q))) (·.tenant) seatRecord
  | 5 => tableRecord 16777216 i 16 s.kvs.seqs (·.tenant) coldRecord
  | 6 => tableRecord 16777216 i 31 s.pfx.dir (nodeTenant s me) nodeRecord
  | 7 => tableRecord 65536 i 11 s.tir.objs (·.tenant) (objectRecord i)
  | 8 => tableRecord 1048576 i 10 s.auv.chans (·.tenant) (channelRecord i)
  | 9 =>
    if 262144 ≤ i then .beyond
    else .record none (fieldsOf (bandRecord s i (mgetD s.fls.bands i Band.fresh)))
  | 10 => if 65536 ≤ i then .beyond else .record ((mget s.cxl.regions i).map (·.tenant)) (regionRecord s i)
  | _ => snapLow s cls i

/-- R485: STATUS_SNAPSHOT. -/
def statusSnapshot (rq : Requester) (cls i : Nat) (s : Dev) : Dev :=
  if 10 < cls then reply rq St.cxlRange [] s
  else
    match snapshotOf s (tenantOf s rq) cls i with
    | .beyond => reply rq St.cxlRange [] s
    | .record tenant fields =>
      let foreign : Bool := match tenant, tenantOf s rq with
        | some a, some b => decide (a ≠ b) && !isOperator s rq
        | _, _ => false
      if foreign then reply rq St.cxlTenant [] s else reply rq St.ok fields s

end Sys2Proof.Machine
end

