-- ==== Sys2Proof/Machine/Standard.lean ====
section
/-! DEFINITION. The standard CXL commands of a logical device (R451, R455, R474, R487), the FM-API and CDAT. -/

namespace Sys2Proof.Machine

/-- The answer of a standard command: its CXL return code and the fields of its output. -/
def answerCxl (rq : Requester) (c : CxlCode) (fields : List Nat) : Dev → Dev := emit (.mailbox rq c fields)

/-- R451, R506, R559: a standard command meets a device that runs its management complex; recovery accepts only those of R506.
PRESUMED: log entry 76. -/
def standard (t : Time) (rq : Requester) (inRecovery : Bool) (f : Dev → Dev) : Dev → Dev := awake t fun s =>
  if s.cfg.phase = .recovery then (if inRecovery then f s else answerCxl rq .unsupported [] s)
  else if s.cfg.phase = .run ∧ !s.ras.selfFenced then f s else s

/-- R455: the region pool rounded down to a multiple of 256 MiB. -/
def poolCapacity (s : Dev) : Nat := s.tir.regionPool / 268435456 * 268435456

/-- R452, R455, R506: the volatile capacity an LD reports: zero while its binding has enable 0, and in recovery. -/
def capacityOf (s : Dev) (rq : Requester) : Nat :=
  if s.cfg.phase = .recovery ∨ ldDisabled s rq then 0 else poolCapacity s

/-- R455: Identify Memory Device: total, volatile and persistent capacity in bytes. -/
def identify (rq : Requester) (s : Dev) : Dev := answerCxl rq .success [capacityOf s rq, capacityOf s rq, 0] s

/-! ## Timestamp -/

/-- R451: the device timestamp: what was set, and the nanoseconds since; zero before it has been set. PRESUMED: log entry 76. -/
def timestampNow (s : Dev) : BitVec 64 :=
  if s.cxl.timestamp = 0 ∧ s.cxl.timestampAt = 0 then 0
  else s.cxl.timestamp + BitVec.ofNat 64 (elapsed s.cxl.timestampAt s.now / 16)

/-- R451: Get Timestamp. -/
def timestampRead (rq : Requester) (s : Dev) : Dev := answerCxl rq .success [(timestampNow s).toNat] s

/-- R451: Set Timestamp. -/
def timestampSet (rq : Requester) (v : BitVec 64) (s : Dev) : Dev :=
  answerCxl rq .success [] { s with cxl.timestamp := v, cxl.timestampAt := s.now }

/-! ## Logs -/

/-- R451: Get Supported Logs. -/
def logsList (rq : Requester) (s : Dev) : Dev :=
  answerCxl rq .success (Config.supportedLogs.length :: Config.supportedLogs.flatMap fun l => [l.1.toNat, l.2]) s

/-- R451: Get Log: the bytes of a log that the device lists. -/
def logRead (rq : Requester) (uuid : BitVec 128) (off len : Nat) (s : Dev) : Dev :=
  match Config.supportedLogs.find? fun l => decide (l.1 = uuid) with
  | some l =>
    if l.2 < off + len then answerCxl rq .invalidInput [] s
    else answerCxl rq .success ((List.range len).map fun i => (Config.logByte uuid (off + i)).toNat) s
  | none => answerCxl rq .invalidInput [] s

/-! ## Events of a logical device (R486, R487) -/

/-- R486, R386: the words of an event record: its handle, and the EVENT body. -/
def eventWords (e : EventRec) : List Nat :=
  [e.handle, e.event.status.toNat, e.event.tenant, e.event.device, e.event.seq, e.event.time.toNat] ++ e.event.detail

/-- The commands of one LD's mailbox; another requester has no logs. -/
def ofLd (rq : Requester) (f : Nat → Nat → Dev → Dev) (s : Dev) : Dev :=
  match rq with
  | .ld p l => f p l s
  | _ => answerCxl rq .unsupported [] s

/-- R487: Get Event Records: the records lost by overflow, and the records held, oldest first. PRESUMED: log entry 76. -/
def eventsRead (rq : Requester) (log : Nat) : Dev → Dev := ofLd rq fun p l s =>
  if 4 ≤ log then answerCxl rq .invalidInput [] s
  else
    let recs := mgetD (s.ld p l).logs log []
    answerCxl rq .success ([mgetD (s.ld p l).overflow log 0, recs.length] ++ recs.flatMap eventWords) s

/-- R487: Clear Event Records: the oldest ones, named by their handles in order, or all of them. PRESUMED: log entry 76. -/
def eventsClear (rq : Requester) (log : Nat) (handles : List Nat) : Dev → Dev := ofLd rq fun p l s =>
  let recs := mgetD (s.ld p l).logs log []
  if 4 ≤ log ∨ (recs.map (·.handle)).take handles.length ≠ handles then answerCxl rq .invalidInput [] s
  else
    let left := if handles = [] then [] else recs.drop handles.length
    let clear (d : Ld) : Ld := { d with logs := mset d.logs log left, overflow := mdel d.overflow log }
    answerCxl rq .success [] (modLd p l clear s)

/-- R487: Get Event Interrupt Policy. -/
def policyRead (rq : Requester) : Dev → Dev := ofLd rq fun p l s => answerCxl rq .success [(s.ld p l).policy.toNat] s

/-- R487: Set Event Interrupt Policy. -/
def policySet (rq : Requester) (v : BitVec 32) : Dev → Dev := ofLd rq fun p l s =>
  answerCxl rq .success [] (modLd p l (fun d => { d with policy := v }) s)

/-! ## Poison (R474) -/

/-- R474: the DPAs of the poisoned lines that a window of a private region shows. -/
def windowPoison (s : Dev) (port ld : Nat) (w : Window) : List Nat :=
  match mget s.cxl.regions w.region with
  | some g =>
    if g.kind = 2 ∧ g.owner = ldIndex port ld then
      (g.poison.filter fun k => decide (w.offset ≤ 64 * k) && decide (64 * k < w.offset + w.len2m * mib2)).map fun k =>
        w.dpaBase + 64 * k - w.offset
    else []
  | none => []

/-- R474: Get Poison List over a range of DPA. -/
def poisonList (rq : Requester) (dpa len : Nat) : Dev → Dev := ofLd rq fun p l s =>
  let all := (s.ld p l).windows.flatMap fun w => windowPoison s p l w.2
  let hit := all.filter fun a => decide (dpa ≤ a) && decide (a < dpa + len)
  answerCxl rq .success (hit.length :: hit) s

/-- R457, R474: the line of the LD's private region that a DPA names. -/
def privateLine (s : Dev) (port ld dpa : Nat) : Option Nat :=
  match windowAt (s.ld port ld) dpa with
  | some w =>
    match mget s.cxl.regions w.region, windowVa s w dpa with
    | some g, some va => if g.kind = 2 ∧ g.owner = ldIndex port ld then some (va / 64) else none
    | _, _ => none
  | none => none

/-- R451: Inject Poison. PRESUMED: log entry 76. -/
def poisonInject (rq : Requester) (dpa : Nat) : Dev → Dev := ofLd rq fun p l s =>
  match privateLine s p l dpa with
  | some line => answerCxl rq .success [] (poisonLine line s)
  | none => answerCxl rq .invalidInput [] s

/-- R474: Clear Poison: the line takes the data that comes with the command and is poisoned no more. PRESUMED: log entry 76. -/
def poisonClear (rq : Requester) (dpa : Nat) (data : List Byte) : Dev → Dev := ofLd rq fun p l s =>
  match privateLine s p l dpa with
  | some line => answerCxl rq .success [] (regionStore (64 * line) ((data ++ List.replicate 64 0).take 64) s)
  | none => answerCxl rq .invalidInput [] s

/-! ## FM-API and CDAT (R451) -/

/-- R451: Get LD Info: memory size and LD count. -/
def ldInfo (_ : Nat) (s : Dev) : Dev := answerCxl .mctp .success [poolCapacity s, 16] s

/-- R451: the two range multipliers of an LD, in units of 256 MiB: as set, else its whole capacity. DESIGN CHOICE: log entry 77. -/
def ldAllocation (s : Dev) (port ld : Nat) : Nat × Nat := mgetD s.cxl.allocs (ldIndex port ld) (poolCapacity s / 268435456, 0)

/-- R451: Get LD Allocations. -/
def ldAllocations (port : Nat) (s : Dev) : Dev :=
  answerCxl .mctp .success (16 :: (List.range 16).flatMap fun l => [(ldAllocation s port l).1, (ldAllocation s port l).2]) s

/-- The allocations of consecutive LDs. DESIGN CHOICE: log entry 77. -/
def setAllocs (port : Nat) : Nat → List (Nat × Nat) → Dev → Dev
  | _, [], s => s
  | l, a :: rest, s => setAllocs port (l + 1) rest { s with cxl.allocs := mset s.cxl.allocs (ldIndex port l) a }

/-- R451: Set LD Allocations. -/
def ldAllocate (port first : Nat) (allocs : List (Nat × Nat)) (s : Dev) : Dev :=
  if 16 < first + allocs.length then answerCxl .mctp .invalidInput [] s
  else answerCxl .mctp .success [allocs.length, first] (setAllocs port first allocs s)

/-- R451: CDAT: of each LD, read and write bandwidth in GB/s and idle read latency in ns. DESIGN CHOICE: log entry 77. -/
def cdat (port entry : Nat) (s : Dev) : Dev :=
  if 16 ≤ entry then answerCxl (.ld port 0) .invalidInput [] s else answerCxl (.ld port entry) .success [128, 128, 700] s

/-! ## Meanings -/

/-- STATUS_SNAPSHOT. -/
def execStatusSnapshot (t : Time) (rq : Requester) (cls index : Nat) (s : State) : Host.Outcome State Fault Refusal :=
  run (vendor t rq false (statusSnapshot rq cls index)) s

/-- IDENTIFY_MEMORY_DEVICE. -/
def execIdentifyMemoryDevice (t : Time) (rq : Requester) (s : State) : Host.Outcome State Fault Refusal :=
  run (standard t rq true (identify rq)) s

/-- GET_TIMESTAMP. -/
def execGetTimestamp (t : Time) (rq : Requester) (s : State) : Host.Outcome State Fault Refusal :=
  run (standard t rq false (timestampRead rq)) s

/-- SET_TIMESTAMP. -/
def execSetTimestamp (t : Time) (rq : Requester) (value : BitVec 64) (s : State) : Host.Outcome State Fault Refusal :=
  run (standard t rq false (timestampSet rq value)) s

/-- GET_SUPPORTED_LOGS. -/
def execGetSupportedLogs (t : Time) (rq : Requester) (s : State) : Host.Outcome State Fault Refusal :=
  run (standard t rq false (logsList rq)) s

/-- GET_LOG. -/
def execGetLog (t : Time) (rq : Requester) (uuid : BitVec 128) (offset length : Nat) (s : State) :
    Host.Outcome State Fault Refusal :=
  run (standard t rq false (logRead rq uuid offset length)) s

/-- GET_EVENT_RECORDS. -/
def execGetEventRecords (t : Time) (rq : Requester) (log : Nat) (s : State) : Host.Outcome State Fault Refusal :=
  run (standard t rq false (eventsRead rq log)) s

/-- CLEAR_EVENT_RECORDS. -/
def execClearEventRecords (t : Time) (rq : Requester) (log : Nat) (handles : List Nat) (s : State) :
    Host.Outcome State Fault Refusal :=
  run (standard t rq false (eventsClear rq log handles)) s

/-- GET_EVENT_INTERRUPT_POLICY. -/
def execGetEventInterruptPolicy (t : Time) (rq : Requester) (s : State) : Host.Outcome State Fault Refusal :=
  run (standard t rq false (policyRead rq)) s

/-- SET_EVENT_INTERRUPT_POLICY. -/
def execSetEventInterruptPolicy (t : Time) (rq : Requester) (policy : BitVec 32) (s : State) : Host.Outcome State Fault Refusal :=
  run (standard t rq false (policySet rq policy)) s

/-- GET_POISON_LIST. -/
def execGetPoisonList (t : Time) (rq : Requester) (dpa length : Nat) (s : State) : Host.Outcome State Fault Refusal :=
  run (standard t rq false (poisonList rq dpa length)) s

/-- INJECT_POISON. -/
def execInjectPoison (t : Time) (rq : Requester) (dpa : Nat) (s : State) : Host.Outcome State Fault Refusal :=
  run (standard t rq false (poisonInject rq dpa)) s

/-- CLEAR_POISON. -/
def execClearPoison (t : Time) (rq : Requester) (dpa : Nat) (data : List Byte) (s : State) : Host.Outcome State Fault Refusal :=
  run (standard t rq false (poisonClear rq dpa data)) s

/-- GET_LD_INFO. -/
def execGetLdInfo (t : Time) (port : Nat) (s : State) : Host.Outcome State Fault Refusal :=
  run (standard t .mctp false (ldInfo port)) s

/-- GET_LD_ALLOCATIONS. -/
def execGetLdAllocations (t : Time) (port : Nat) (s : State) : Host.Outcome State Fault Refusal :=
  run (standard t .mctp false (ldAllocations port)) s

/-- SET_LD_ALLOCATIONS. -/
def execSetLdAllocations (t : Time) (port first : Nat) (allocs : List (Nat × Nat)) (s : State) :
    Host.Outcome State Fault Refusal :=
  run (standard t .mctp false (ldAllocate port first allocs)) s

/-- CDAT_READ. -/
def execCdatRead (t : Time) (port entry : Nat) (s : State) : Host.Outcome State Fault Refusal :=
  run (standard t (.ld port 0) false (cdat port entry)) s

end Sys2Proof.Machine
end

