-- ==== Sys2Proof/Machine/Firmware.lean ====
section
/-! DEFINITION. Firmware over the mailbox (R506 to R509) and identity bundles (R532 to R534). -/

namespace Sys2Proof.Machine

/-- R508, R532: the firmware commands are operator commands; in recovery every LD is an operator. -/
def operatorCmd (rq : Requester) (f : Dev → Dev) (s : Dev) : Dev :=
  if isOperator s rq then f s else answerCxl rq .invalidInput [St.cxlNotOperator.toNat] s

/-- R493: image_seq of a valid bank. -/
def bankSeq (valid : Bool) (b : Option Image) : List (BitVec 32) := if valid then (b.map (·.seq)).toList else []

/-- R506: Get FW Info: the booted bank, the bank that waits for a reset, and the image_seq of each bank. DEDUCED: log entry 78. -/
def fwInfo (rq : Requester) (s : Dev) : Dev :=
  let active := if s.cfg.phase = .recovery then 0 else if s.cfg.bootBank then 2 else 1
  let staged := if s.cfg.fwPending then (if s.cfg.bootBank then 1 else 2) else 0
  let seqOf (v : Bool) (b : Option Image) : Nat := (bankSeq v b).foldl (fun _ q => q.toNat) 0
  answerCxl rq .success [active, staged, seqOf s.cfg.validA s.cfg.bankA, seqOf s.cfg.validB s.cfg.bankB] s

/-- R507, R508: the sequence numbers that a transferred image must exceed: every valid bank, and the running image. -/
def seqsToPass (s : Dev) : List (BitVec 32) :=
  bankSeq s.cfg.validA s.cfg.bankA ++ bankSeq s.cfg.validB s.cfg.bankB ++ (s.cfg.image.map (·.seq)).toList

/-- R492, R507: why a transferred image is refused. DEDUCED: log entry 78. -/
def imageFault (s : Dev) (img : Image) : Status :=
  let floor := deviceFloor s
  if !img.magicOk || !img.crcOk || !img.sigOk || decide (img.signer ≠ 0) || !s.sec.signers.contains img.signerId then St.cfgSignature
  else if img.secVersion < max floor img.secFloor then St.cfgSecurityVersion
  else if !(seqsToPass s).all (fun q => serialLt q img.seq) then St.cfgImageSeq
  else if img.bodyLen < 4096 ∨ 50331648 < img.bodyLen then St.cfgImageSize
  else St.ok

/-- R507 to R509, R534: Transfer FW of an image. DEDUCED: log entry 78. -/
def fwTransfer (rq : Requester) (img : Image) : Dev → Dev := operatorCmd rq fun s =>
  if !s.cfg.nvmJobs.isEmpty then answerCxl rq .busy [] s
  else
    let st := imageFault s img
    if st ≠ St.ok then answerCxl rq .invalidInput [st.toNat] s
    else answerCxl rq .background [] { s with cfg.nvmJobs := [.firmware img] }

/-- R532, R533: the reason for which a bundle is refused; none where it is accepted. -/
def bundleFault (s : Dev) (b : IdentityCopy) (derived : BitVec 256) : Option Nat :=
  if !b.formatOk then some 1
  else if !b.chainOk then some 2
  else if derived ≠ b.pubHash then some 3
  else if s.sec.identity = .valid ∧ b.pubHash ≠ s.sec.pubHash then some 4
  else none

/-- R532, R533: Transfer FW to slot 4. DEDUCED: log entry 78. -/
def bundleTransfer (rq : Requester) (b : IdentityCopy) (derived : BitVec 256) : Dev → Dev := operatorCmd rq fun s =>
  if !s.cfg.nvmJobs.isEmpty then answerCxl rq .busy [] s
  else
    match bundleFault s b derived with
    | some r => answerCxl rq .invalidInput [] (raise St.secBundleInvalid deviceWide [r] { s with sec.bundleRefused := true })
    | none =>
      let seq := if s.sec.identity = .none then 1 else s.sec.storeSeq + 1
      answerCxl rq .background [] { s with cfg.nvmJobs := [.identity { b with storeSeq := seq }] }

/-- R507, R508, R532: Activate FW: only on the next cold reset; in recovery it resets the device. DEDUCED: log entry 78. -/
def fwActivate (rq : Requester) (slot : Nat) (online : Bool) : Dev → Dev := operatorCmd rq fun s =>
  if slot = 4 ∨ online then answerCxl rq .invalidInput [] s
  else if s.cfg.phase = .recovery then internalReset (answerCxl rq .success [] s)
  else answerCxl rq .success [] s

/-! ## Meanings -/

/-- GET_FW_INFO. -/
def execGetFwInfo (t : Time) (rq : Requester) (s : State) : Host.Outcome State Fault Refusal :=
  run (standard t rq true (fwInfo rq)) s

/-- TRANSFER_FW. -/
def execTransferFw (t : Time) (rq : Requester) (img : Image) (s : State) : Host.Outcome State Fault Refusal :=
  run (standard t rq true (fwTransfer rq img)) s

/-- TRANSFER_FW_IDENTITY. -/
def execTransferFwIdentity (t : Time) (rq : Requester) (bundle : IdentityCopy) (derived : BitVec 256) (s : State) :
    Host.Outcome State Fault Refusal :=
  run (standard t rq true (bundleTransfer rq bundle derived)) s

/-- ACTIVATE_FW. -/
def execActivateFw (t : Time) (rq : Requester) (slot : Nat) (online : Bool) (s : State) : Host.Outcome State Fault Refusal :=
  run (standard t rq true (fwActivate rq slot online)) s

end Sys2Proof.Machine
end

