-- ==== Sys2Proof/Machine/Checkpoint.lean ====
section
/-! DEFINITION. The directory checkpoint (R334 to R337): the snapshot, its changed chunks, the root and its commit. -/

namespace Sys2Proof.Machine

/-! ## The snapshot (R334, R335) -/

/-- The bytes of the blocks of SEALED objects that lie in T2. -/
def sealedBytes (s : Dev) : List Host.Cell :=
  s.mem.filter fun e =>
    decide (2 ^ 63 ≤ e.1) && decide (e.1 < 2 ^ 63 + 2 ^ 62) && (match mget s.tir.objs ((e.1 - 2 ^ 63) / 2 ^ 44) with
      | some o => decide (o.state = .sealed) && (mget o.blocks ((e.1 - 2 ^ 63) % 2 ^ 44 / 1048576)).any fun h => !h.inT1
      | none => false)

/-- R334: the tables as they are. -/
def snapshot (s : Dev) : Snapshot :=
  { seqs := s.kvs.seqs, gens := s.kvs.gens, nodes := s.pfx.dir, pages := s.kvs.pages, plists := s.pfx.plists,
    objs := s.tir.objs, lost := s.tir.lostPages, bands := s.fls.bands, remap := s.fls.remap, bytes := sealedBytes s,
    ownerB := s.par.ownerB, objOwnerB := s.par.objOwnerB }

/-- No table holds anything. -/
def Snapshot.empty : Snapshot :=
  { seqs := [], gens := [], nodes := [], pages := [], plists := [], objs := [], lost := [], bands := [], remap := [],
    bytes := [], ownerB := [], objOwnerB := [] }

/-! ## Chunks (R334, R336) -/

/-- Index of a chunk: its table and the 1 MiB piece of it that holds byte `off`. -/
def chunkKey (table off : Nat) : Nat := table * 1048576 + off / 1048576 % 1048576

/-- R88: what the cold record of a sequence holds. -/
def coldPart (q : Seq) : Seq :=
  { q with prevSeat := none, ptSet := [], ptNext := [], layers := 0, kvHeads := 0, headDim := 0, openTable := [], ring := [],
           blockCount := [], log := [], logPieces := [], l3 := [], held := [], evictedFor := none, maxLen := 0, ptRoot := 0,
           pendingBase := 0, cold := ColdCopy.zero }

/-- Keys at which two maps differ. -/
def diffKeys {α : Type} [DecidableEq α] (a b : Map α) : List Nat := (mdiff a b).map (·.1)

/-- R96: the page-list entries: T1 address of the entry, and the home it names. -/
def listEntries (x : Snapshot) : Map Home :=
  x.pages.foldl (fun m e => if e.2.owner.isNone then mset m e.2.plEntry e.2.home else m) []

/-- R288: the block maps of the SEALED objects: T1 address of the entry, and the home it names. -/
def blockMaps (x : Snapshot) : Map Home :=
  x.objs.foldl (fun m e => if e.2.state = .sealed then e.2.blocks.foldl (fun m b => mset m (e.2.mapBase + 8 * b.1) b.2) m else m) []

/-- The object records without their block maps. -/
def objRecords (x : Snapshot) : Map Obj :=
  let bare (o : Obj) : Obj := { o with blocks := [], mirrored := [] }
  mmap x.objs bare

/-- Elements of one of two lists that the other lacks. -/
def listDiff (a b : List Nat) : List Nat := (a.filter fun x => !b.contains x) ++ b.filter fun x => !a.contains x

/-- R336: the chunks in which two snapshots differ. -/
def changedChunks (a b : Snapshot) : List Nat :=
  let t0 := (diffKeys (mmap a.seqs coldPart) (mmap b.seqs coldPart) ++ diffKeys a.gens b.gens
    ++ listDiff a.ownerB b.ownerB).map fun k => chunkKey 0 (64 * k)
  let t1 := (diffKeys a.nodes b.nodes).map fun k => chunkKey 1 (128 * k)
  let t2 := (diffKeys a.plists b.plists ++ diffKeys (listEntries a) (listEntries b)).map fun k => chunkKey 2 k
  let t3 := (diffKeys (objRecords a) (objRecords b) ++ listDiff a.objOwnerB b.objOwnerB).map fun k => chunkKey 3 (64 * k)
  let t4 := (diffKeys (blockMaps a) (blockMaps b)).map fun k => chunkKey 4 k
  let t5 := if a.lost = b.lost then [] else [chunkKey 5 0]
  let t6 := (diffKeys a.bands b.bands).map fun k => chunkKey 6 (64 * k)
  let t7 := (diffKeys a.remap b.remap).map fun k => chunkKey 7 (2 * k)
  (t0 ++ t1 ++ t2 ++ t3 ++ t4 ++ t5 ++ t6 ++ t7).eraseDups

/-- The newest committed checkpoint. -/
def lastRoot (s : Dev) : Option Root := s.fls.roots.head?

/-- Chunks that the newest checkpoint points to in a band that is being emptied (DEDUCED: this is how they leave it). -/
def chunksToMove (s : Dev) : List Nat :=
  match lastRoot s with
  | none => []
  | some r => (r.ptrs.filter fun e => decide ((s.band (bandOfUnit e.2)).state = .compacting)).map (·.1)

/-! ## Writing (R317, R336, R337) -/

/-- R317: a chunk is written to the log of its half; none where no band can take it. -/
def writeChunk (key : Nat) (s : Dev) : Option (Nat × Dev) :=
  (dataGroup s (decide (key % 2 = 1))).bind fun g => appendExtent g false 256 .checkpoint none s

/-- R336: the chunks still to be written. -/
def writeChunks : List Nat → CkptRun → Dev → CkptRun × Dev
  | [], c, s => (c, s)
  | k :: rest, c, s =>
    match writeChunk k s with
    | some (u, s) => writeChunks rest { c with todo := c.todo.filter (fun x => !decide (x = k)), chunks := mset c.chunks k u } s
    | none => (c, noFreeBand s)

/-- R336: the chunk pointers of a checkpoint: the newest copy of every chunk. -/
def rootPtrs (s : Dev) (c : CkptRun) : Map Nat :=
  c.chunks.foldl (fun m e => mset m e.1 e.2) ((lastRoot s).elim [] (·.ptrs))

/-- R337: area of a checkpoint: false group 0, true group 32. -/
def areaOf (seq : BitVec 32) : Bool := decide (seq.toNat % 2 = 1)

/-- R337: the band that holds an area's roots. -/
def areaBand (west : Bool) : Nat := bandKey (if west then 32 else 0) 0

/-- R336, R337: the root is written to its area, which is erased first when it has no room. DEDUCED: log entry 64. -/
def writeRoot (c : CkptRun) (s : Dev) : Dev :=
  let west := areaOf c.seq
  let key := areaBand west
  let b := s.band key
  let n := ceilDiv (36 + 8 * (rootPtrs s c).length) 4096
  let next := 60 * ceilDiv (b.writePoint + n) 60
  if b.state = .erasing then s
  else if bandUnits s < next then
    let s := { s with fls.roots := s.fls.roots.filter fun r => r.area != west }
    emit (.flashErase (key / 4096) 0) (modBand key (fun b => { b with state := .erasing, eraseLeft := List.range 16 }) s)
  else
    let x : BandExt := { first := b.writePoint, len := n, kind := .checkpoint, owner := none, good := false }
    let s := modBand key (fun b => { b with writePoint := next, extents := b.extents ++ [x] }) s
    { s with fls.ckpt := some { c with root := some (logAddress key x.first) } }

/-- R336: the checkpoint commits. -/
def commitCkpt (c : CkptRun) (s : Dev) : Dev :=
  let r : Root := {
    seq := c.seq, snapTime := c.snapTime, snapFrame := c.snapFrame
    imageSeq := (s.cfg.image.map (·.seq)).getD 0
    area := areaOf c.seq, tables := c.tables, ptrs := rootPtrs s c }
  { s with
    fls.roots := r :: s.fls.roots
    fls.ckpt := none
    fls.lastMs := min 0xFFFF (elapsed c.startedAt s.now / 16000000) }

/-- R335: chunks of the running checkpoint that have changed before they were written: they are in the snapshot buffer. The
checkpoint is abandoned when the buffer of 64 MiB fills. -/
def ckptBuffer (s : Dev) : Dev :=
  match s.fls.ckpt with
  | none => s
  | some c =>
    let unwritten (k : Nat) : Bool := c.todo.contains k || (mget c.chunks k).any fun u => !extentGood s u
    let now := (changedChunks (snapshot s) c.tables).filter unwritten
    let buffered := (c.buffered ++ now).eraseDups
    if 64 ≤ buffered.length then raiseDev St.flsCkptAbort { s with fls.ckpt := none, fls.ckptAbort := true }
    else { s with fls.ckpt := some { c with buffered } }

/-- R336: the checkpoint goes on: its chunks, then its root, then its commit. DEDUCED: log entry 64. -/
def ckptAdvance (s : Dev) : Dev :=
  match s.fls.ckpt with
  | none => s
  | some c =>
    let (c, s) := writeChunks c.todo c s
    let s := { s with fls.ckpt := some c }
    if !c.todo.isEmpty || c.chunks.any fun e => !extentGood s e.2 then s
    else
      match c.root with
      | none => writeRoot c s
      | some u => if extentGood s u then commitCkpt c s else s

/-- R335, R337: a checkpoint starts at a frame boundary. -/
def ckptBegin (s : Dev) : Dev :=
  let s := { s with kvs.seqs := mmap s.kvs.seqs refreshCold }
  let tables := snapshot s
  let todo := (changedChunks tables ((lastRoot s).elim Snapshot.empty (·.tables)) ++ chunksToMove s).eraseDups
  let c : CkptRun := {
    seq := (lastRoot s).elim 1 fun r => r.seq + 1
    startedAt := s.now, snapTime := s.tt.frameStart, snapFrame := s.tt.frame
    tables, todo, chunks := [], buffered := [], root := none }
  ckptAdvance { s with fls.ckpt := some c, fls.ckptAsked := false, fls.ckptAt := s.now }

/-- R337: what a frame boundary does to a checkpoint that is due; one that runs delays it. -/
def ckptBoundary (s : Dev) : Dev := if s.fls.ckptAsked ∧ s.fls.ckpt.isNone then ckptBegin s else s

/-- R337: a checkpoint is due, ckpt_q × 100 ms after the start of the previous one. -/
def ckptDue (s : Dev) : Dev :=
  if s.tt.started ∧ past s.fls.ckptAt (ms (100 * s.ckptQ)) s.now then
    let s := { s with fls.ckptAsked := true }
    if s.now = s.tt.frameStart then ckptBoundary s else s
  else s

end Sys2Proof.Machine
end

