-- ==== Sys2Proof/Machine/Flash.lean ====
section
/-! DEFINITION. NAND operations (R309, R318 to R333) and the start of a checkpoint (R337). -/

namespace Sys2Proof.Machine

/-- What follows an event of the flash store: the checkpoint goes on and the Fuller does its work. -/
def flashStep (s : Dev) : Dev := fuller (ckptAdvance (ckptBuffer s))

/-! ## Reads (R323 to R325, R332) -/

/-- R324: the counters of the ladder steps a read ran. -/
def countLadder (l : Ladder) (s : Dev) : Dev :=
  let s := if 0 < l.retryLevels then count Reg.flsRetryCount s else s
  if l.rebuilt || !l.good then count Reg.flsRebuildCount s else s

/-- R312: the die pages that `n` units from a log address lie on, as row and position. -/
def pagesRead (u n : Nat) : List (Nat × Nat) :=
  ((List.range n).map fun i => (unitInBand (u + i) / 60, posOfUnit (u + i))).eraseDups

/-- R332: a read counts once for each die page; a member at its limit schedules a refresh. -/
def countReads (u n : Nat) (s : Dev) : Dev :=
  let key := bandOfUnit u
  let s := forL (pagesRead u n) (fun x s => modBand key (fun b => { b with
    reads := b.reads.set x.2 (min (65535 * 1024) (b.reads.getD x.2 0 + 1)) }) s) s
  if (s.band key).reads.any fun r => decide (s.rdLimitK * 1000 ≤ r) then scheduleRefresh key s else s

/-- R324: the cause that a late read carries. -/
def readCause (l : Ladder) : Status :=
  if l.rebuilt then St.flsStripeRebuild else if 0 < l.retryLevels then St.flsReadRetry else St.flsReadSlow

/-- R324, R330: a rebuilt read schedules its band for refresh; the block set is retired once the band is empty. -/
def noteRebuild (u : Nat) (l : Ladder) (s : Dev) : Dev :=
  if l.rebuilt then
    let key := bandOfUnit u
    let pos := posOfUnit u
    modBand key (fun b => { b with bad := if b.bad.contains pos then b.bad else b.bad ++ [pos] }) (scheduleRefresh key s)
  else s

/-- R604: a late read that ends uncorrectable delays what depends on it, unless the datum is refetched. -/
def badReadLate (r : NandRead) (s : Dev) : Dev :=
  if serialLt r.projection s.now && !hasMirror s r.datum then delayDependents r.datum St.flsStripeRebuild s.now s else s

/-- R323: a read of a T2 datum returns. -/
def readComplete (id : Nat) (l : Ladder) (s : Dev) : Dev :=
  match s.fls.reads.find? fun r => decide (r.id = id) with
  | none => s
  | some r =>
    let s := { s with fls.reads := s.fls.reads.filter fun x => !decide (x.id = id) }
    let s := countReads r.unit r.len (countLadder l (dieAnswers (dieOfUnit r.unit) s))
    if l.good then
      let s := noteRebuild (r.unit + l.codeword) l s
      if serialLt r.projection s.now then delayDependents r.datum (readCause l) s.now s else s
    else
      let s := uncorrectableAt (r.unit + l.codeword) s
      if namesUnit s r.datum r.unit then uncorrectable r.datum (badReadLate r s) else s

/-- R333: the patrol reads a codeword of a CLOSED band. -/
def patrol (u : Nat) (overHalf : Bool) (l : Ladder) (s : Dev) : Dev :=
  let key := bandOfUnit u
  let b := s.band key
  if b.state ≠ .closed ∨ b.writePoint ≤ unitInBand u then s
  else
    let s := countReads u 1 (countLadder l (dieAnswers (dieOfUnit u) s))
    if l.good then
      let s := noteRebuild u l s
      if overHalf || decide (0 < l.retryLevels) then scheduleRefresh key s else s
    else
      let s := uncorrectableAt u s
      match (validExts s key).find? fun x => decide (x.first ≤ unitInBand u) && decide (unitInBand u < x.first + x.len) with
      | some x => ownerLost x s
      | none => s

/-! ## Programs (R318 to R321) -/

/-- R318, R337: the band whose next row is programmed: an area's root first, then the group's bands of that stream in the order
in which they were opened. DESIGN CHOICE: log entry 63. -/
def programBand (s : Dev) (g : Nat) (reloc : Bool) : Option Nat :=
  let ready (b : Band) : Bool := decide (60 * (b.goodRows + 1) ≤ b.writePoint)
  let area := bandKey g 0
  if !reloc && isRootArea g 0 && decide ((s.band area).state ≠ .erasing) && ready (s.band area) then some area
  else
    let able := s.fls.bands.filter fun e => decide (e.1 / 4096 = g) && !isRootArea g (e.1 % 4096) && (e.2.reloc == reloc)
      && (decide (e.2.state = .opened) || decide (e.2.state = .closed)) && ready e.2
    (firstBy (fun a b => serialLt a.2.seq b.2.seq) able).map (·.1)

/-- R319: a row and its parity have programmed. -/
def rowGood (key : Nat) (s : Dev) : Dev :=
  let mark (n : Nat) (x : BandExt) : BandExt := if x.first + x.len ≤ 60 * n then { x with good := true } else x
  modBand key (fun b => { b with goodRows := b.goodRows + 1, extents := b.extents.map (mark (b.goodRows + 1)) }) s

/-- R321, R337: a row of a root area has failed: the root is written again behind it. -/
def rootRowFails (key : Nat) (s : Dev) : Dev :=
  let drop (c : CkptRun) : CkptRun := { c with root := none }
  let s := modBand key (fun b => { b with
    goodRows := b.writePoint / 60
    extents := b.extents.filter (·.good) }) s
  { s with fls.ckpt := s.fls.ckpt.map drop }

/-- R321: a program has failed on the member at position `pos`. -/
def programFails (key pos : Nat) (s : Dev) : Dev :=
  let s := if isRootArea (key / 4096) (key % 4096) then rootRowFails key s else cutBand key s
  raiseDev St.flsProgramFail (markBad key pos { s with fls.programFail := true })

/-- R319, R321: a row's program ends; `failed` is the position whose program failed. DESIGN CHOICE: log entry 63. -/
def programComplete (g : Nat) (reloc : Bool) (failed : Option Nat) (s : Dev) : Dev :=
  match programBand s g reloc with
  | none => s
  | some key =>
    match failed with
    | none => rowGood key (forN 16 (fun pos s => dieAnswers (dieAt g pos) s) s)
    | some pos => programFails key pos s

/-- R320: the row being filled is completed with a pad extent. -/
def padRow (g : Nat) (reloc : Bool) (s : Dev) : Dev :=
  match s.writer g reloc with
  | none => s
  | some w =>
    let b := s.band w.band
    let n := 60 - b.writePoint % 60
    match w.rowSince with
    | none => s
    | some since =>
      if !past since (us 50) s.now ∨ b.writePoint % 60 = 0 then s
      else if extentFits s b n then (writeExtent g reloc w n .pad none s).2
      else setWriter g reloc none (closeBand w.band s)

/-! ## Erases (R330) -/

/-- R330: an erase fails: the block set is retired and the spare is erased. -/
def eraseFails (g b pos : Nat) (s : Dev) : Dev :=
  let s := raiseDev St.flsEraseFail { s with fls.eraseFail := true }
  match retireSet (dieAt g pos) b s with
  | some s => emit (.flashErase g b) s
  | none => retireBand (bandKey g b) s

/-- R311, R337: a band whose every block set is erased is FREE again. -/
def freeBand (key : Nat) (s : Dev) : Dev :=
  modBand key (fun b => { Band.fresh with eraseCount := b.eraseCount + 1, evacuate := s.fls.degraded.contains (key / 4096) }) s

/-- R330: an erase of one block set ends. -/
def eraseComplete (g b pos : Nat) (pass : Bool) (s : Dev) : Dev :=
  let key := bandKey g b
  if (s.band key).state = .erasing ∧ (s.band key).eraseLeft.contains pos then
    let s := dieAnswers (dieAt g pos) s
    if pass then
      let s := modBand key (fun b => { b with eraseLeft := b.eraseLeft.filter fun x => !decide (x = pos) }) s
      if (s.band key).eraseLeft.isEmpty then freeBand key s else s
    else eraseFails g b pos s
  else s

/-! ## Timeouts (R309) -/

/-- R309: a timeout on a die is counted; the third in a row makes it FAILED. -/
def countTimeout (die : Nat) (s : Dev) : Dev :=
  match mget s.fls.dies die with
  | none => s
  | some d =>
    let more (d : Die) : Die := { d with timeouts := d.timeouts + 1 }
    let s := { s with fls.dies := mmod s.fls.dies die more }
    if d.state = .active ∧ 3 ≤ d.timeouts + 1 then dieFails die s else s

/-- R309: a read that times out passes to the next step of the ladder; past the last it is uncorrectable. -/
def readTimesOut (id : Nat) (s : Dev) : Dev :=
  match s.fls.reads.find? fun r => decide (r.id = id) with
  | none => s
  | some r =>
    if r.step < 2 then
      let next (x : NandRead) : NandRead := if x.id = id then { x with step := x.step + 1 } else x
      { s with fls.reads := s.fls.reads.map next }
    else
      let s := countLadder { retryLevels := s.retryMax, rebuilt := true, good := false, codeword := 0 }
        { s with fls.reads := s.fls.reads.filter fun x => !decide (x.id = id) }
      let s := uncorrectableAt r.unit s
      if namesUnit s r.datum r.unit then uncorrectable r.datum (badReadLate r s) else s

/-- R309: a NAND operation of a die has taken four times its maximum. DEDUCED: log entry 64. -/
def opTimesOut (channel slot : Nat) (op : NandOp) (s : Dev) : Dev :=
  let die := 16 * channel + slot
  if !mhas s.fls.dies die then s
  else
    let s := match op with
      | .read id => readTimesOut id s
      | .program g reloc => (match programBand s g reloc with
        | some key => programFails key (channel % 16) s
        | none => s)
      | .erase g b pos =>
        if (s.band (bandKey g b)).state = .erasing ∧ (s.band (bandKey g b)).eraseLeft.contains pos then eraseFails g b pos s else s
    countTimeout die s

/-! ## The commands -/

/-- R323: a NAND read returns. -/
def execNandReadComplete (t : Time) (id : Nat) (l : Ladder) (s : State) : Host.Outcome State Fault Refusal :=
  run (awake t fun s => flashStep (readComplete id l s)) s

/-- R319: a program ends. -/
def execNandProgramComplete (t : Time) (group : Nat) (reloc : Bool) (failed : Option Nat) (s : State) :
    Host.Outcome State Fault Refusal :=
  run (awake t fun s => flashStep (programComplete group reloc failed s)) s

/-- R330: an erase ends. -/
def execNandEraseComplete (t : Time) (group band position : Nat) (pass : Bool) (s : State) :
    Host.Outcome State Fault Refusal :=
  run (awake t fun s => flashStep (eraseComplete group band position pass s)) s

/-- R309: a NAND operation times out. -/
def execNandOpTimeout (t : Time) (channel slot : Nat) (op : NandOp) (s : State) : Host.Outcome State Fault Refusal :=
  run (awake t fun s => flashStep (opTimesOut channel slot op s)) s

/-- R320: a row has not filled within 50 µs. -/
def execRowFillTimeout (t : Time) (group : Nat) (reloc : Bool) (s : State) : Host.Outcome State Fault Refusal :=
  run (awake t (padRow group reloc)) s

/-- R333: the patrol reads a codeword. -/
def execPatrolRead (t : Time) (unit : Nat) (overHalf : Bool) (l : Ladder) (s : State) : Host.Outcome State Fault Refusal :=
  run (awake t fun s => flashStep (patrol unit overHalf l s)) s

/-- R337: a checkpoint is due. -/
def execCheckpointStart (t : Time) (s : State) : Host.Outcome State Fault Refusal := run (awake t ckptDue) s

end Sys2Proof.Machine
end

