-- ==== Sys2Proof/Machine/Mirror.lean ====
section
/-! DEFINITION. What a pair commit does on the side that did not ask for it (R421 to R431), and on the side that did. -/

namespace Sys2Proof.Machine

/-! ## Mirror copies (R422, R427 to R431) -/

/-- R426: an operation of the other side fails here. -/
def failsHere (st : Status) (s : Dev) : Applied := { status := st, fields := [], state := s }

/-- R426: an operation of the other side is applied here. -/
def done (s : Dev) : Applied := { status := St.ok, fields := [], state := s }

/-- R252, R421: a home of this side's own for a mirror copy: in T1, else in T2. -/
def mirrorHome (d : Datum) (s : Dev) : Option (Home × Dev) :=
  match t1Home d (poolsOf s d) s with
  | some r => some r
  | none => t2Home d s

/-- A sealed page that comes from the other side, under the number `p`, gets a home; none where no tier takes it. -/
def landPage (pg : Page) (s : Dev) : Option (Nat × Dev) :=
  let (p, s) := newPage pg s
  match mirrorHome (.page p) s with
  | some (h, s) => some (p, modPage p (fun pg => { pg with home := h }) s)
  | none => none

/-- R428: the progress fields that a page copy of an M1 sequence carries. -/
def takeProgress (i : Nat) (c : PageCopy) (s : Dev) : Dev :=
  let entry (n : Nat) : OpenEntry := { pageIndex := n / 16, fill := n % 16, cow := false, slot := none }
  let records : Map LogRec := (List.range c.log.length).zip (c.log.map fun r => { key := r.1, tokens := r.2 })
  growLog i (modSeq i (fun q => { q with
    length := c.length
    maxLen := c.maxLen
    tailKey := c.tailKey
    lastFrame := c.lastFrame
    openTable := c.layerLens.map entry
    ring := c.ring
    log := records }) s)

/-- R429: a page copy is committed on this side. -/
def applyPageCopy (c : PageCopy) (s : Dev) : Applied :=
  match findSeq s c.handle with
  | none => failsHere St.kvsBadHandle s
  | some (i, q) =>
    let held : Option Dev := match mget q.l3 (l3Key c.layer c.index) with
      | some e => some (if e.shared then s else modPage e.page (fun pg => { pg with toks := c.toks, mirrored := true }) s)
      | none =>
        let pg : Page :=
          { owner := some i, layer := c.layer, index := c.index, nodeGen := 0, plEntry := 0, state := .sealed, home := .t1 0,
            kvHeads := q.kvHeads, headDim := q.headDim, format := q.format, toks := c.toks, refs := 1, retireFrame := 0,
            tenant := q.tenant, model := q.model, mirror := q.mirror, mirrored := true }
        (landPage pg s).map fun r =>
          modSeq i (fun q => { q with l3 := mset q.l3 (l3Key c.layer c.index) { page := r.1, shared := false } }) r.2
    match held with
    | some s => done (if q.mirror = .m2 then s else takeProgress i c s)
    | none => failsHere St.tirT1Full s

/-- R429, R431: the copy of a node's page is committed on this side. -/
def applyNodePage (slot layer : Nat) (toks : List TokenKv) (s : Dev) : Applied :=
  match mget s.pfx.dir slot with
  | none => failsHere St.pfxStale s
  | some n =>
    if (nodePageAt s n layer).isSome then done s
    else
      let (heads, dim) := match mget s.att.models n.model with
        | some m => (m.desc.kvHeads, headDimOf m.desc.headDimCode)
        | none => (0, 0)
      let pg : Page :=
        { owner := none, layer, index := n.depth - 1, nodeGen := n.gen, plEntry := n.plist + 16 + 16 * layer, state := .sealed,
          home := .t1 0, kvHeads := heads, headDim := dim, format := n.format, toks, refs := 1, retireFrame := 0, tenant := 0,
          model := n.model, mirror := n.mirror, mirrored := true }
      match landPage pg s with
      | some r => done (completeNode slot r.2)
      | none => failsHere St.tirT1Full s

/-- R429: the copy of a block is committed on this side. -/
def applyBlockCopy (obj i : Nat) (data : List Byte) (s : Dev) : Applied :=
  match mget s.tir.objs obj with
  | none => failsHere St.tirObjState s
  | some o =>
    let held := if mhas o.blocks i then some s
      else (mirrorHome (.block obj i) s).map fun r => modObj obj (fun o => { o with blocks := mset o.blocks i r.1 }) r.2
    match held with
    | some s => done { s with mem := memWriteN s.mem (objVa obj (i * 1048576)) data }
    | none => failsHere St.tirT1Full s

/-- R431: a block that this side now holds whole becomes the node's that covers it. -/
def claimBlock (i blk : Nat) (s : Dev) : Dev :=
  match mget s.kvs.seqs i with
  | none => s
  | some q =>
    match mget q.log blk with
    | none => s
    | some r =>
      match dirProbe s r.key with
      | some (slot, n) => if 16 * n.depth ≤ q.sharedTokens ∧ n.depth = blk + 1 then claimPages i blk slot s else s
      | none => s

/-- R427: an APPEND of the other side is written here too. DEDUCED: log entry 37. -/
def mirrorAppend (m : AppendMsg) (s : Dev) : Applied :=
  let r := applyAppend m none s
  if r.status ≠ St.ok then r
  else done (forN 2 (fun k s => claimBlock (indexOf m.handle) (m.position / 16 + k) s) r.state)

/-! ## Records (R421, R423) -/

/-- R423, R172 to R175: an offer of the other side: the record that it makes here. The node is LIVE, since both sides have it. -/
def mirrorOffer (handle : BitVec 32) (blk : Nat) (toks : List (BitVec 32)) (s : Dev) : Applied :=
  match findSeq s handle with
  | none => failsHere St.kvsBadHandle s
  | some (i, q) =>
    let parent := match blk with
      | 0 => 0
      | b + 1 => (match mget q.log b with | some r => r.key | none => 0)
    let k := chainKey parent toks q.model (s.scope q.scope).salt
    let logged := growLog i (modSeq i (fun q => { q with log := mset q.log blk { key := k, tokens := toks } }) s)
    match offerFate false s q blk k parent toks with
    | .decline => done s
    | .adopt slot => done (adopt i blk slot logged)
    | .create =>
      match createNode i blk k parent toks logged with
      | some s => done (liveAfterOffer i blk s)
      | none => failsHere (if s.tir.plistPool < plistUsed s + plistBytes q.layers then St.pfxPlistFull else St.pfxDirFull) s

/-- R143, R430: a node that the other side removes: one that has gained a reference stays. -/
def mirrorRemove (slot : Nat) (s : Dev) : Applied :=
  match mget s.pfx.dir slot with
  | none => done s
  | some n =>
    if n.refCount ≠ 0 ∨ n.children ≠ 0 then failsHere St.pfxStale s
    else
      let parts := if n.pages = [] then (List.range n.layers).filterMap (nodePageAt s n) else []
      done (freeNode slot (forL parts dropRef (invalidateEntry slot s)))

/-- R123, R421: a truncation that the other side makes: the progress fields of an M0 or M1 sequence may lag here. DEDUCED: log entry 37. -/
def mirrorTruncate (handle : BitVec 32) (len : Nat) (s : Dev) : Applied :=
  match findSeq s handle with
  | none => failsHere St.kvsBadHandle s
  | some (i, q) =>
    let s := truncateSeq i len s
    done (modSeq i (fun x => { x with length := min q.length len, maxLen := min q.maxLen len }) s)

/-- R92: the other side closes a sequence. -/
def mirrorClose (handle : BitVec 32) (s : Dev) : Applied :=
  match findSeq s handle with
  | none => failsHere St.kvsBadHandle s
  | some (i, _) => done (closeSeq i s)

/-- R302: the other side has lost blocks of an object. -/
def mirrorObjLost (obj lost : Nat) (s : Dev) : Applied :=
  done (modObj obj (fun o => { o with state := .lost, lostBlocks := lost }) s)

/-- R94: the other side has lost a sequence. -/
def mirrorSeqLost (handle : BitVec 32) (s : Dev) : Applied :=
  match findSeq s handle with
  | none => done s
  | some (i, _) => done (loseSeq i s)

/-- R303: the other side has listed a lost page. -/
def mirrorLostPage (key : BitVec 64) (s : Dev) : Applied :=
  done (if s.tir.lostPages.contains key ∨ 65536 ≤ s.tir.lostPages.length then s
    else { s with tir.lostPages := s.tir.lostPages ++ [key] })

/-- R565: the other side takes the match array away: this side's goes too. -/
def mirrorArrayOff (s : Dev) : Applied :=
  if s.par.state = .isolated then failsHere St.pwrRefused s
  else if (s.domain 103).state = .on ∨ (s.domain 103).state = .ret then done (startEntry 103 2 s)
  else done s

/-! ## Changes at a boundary -/

/-- R248: the other side's load or unload waits here for its boundary. -/
def mirrorModel (load : Option ModelDesc) (unload : Nat) (boundary : Time) (tag : Nat) (s : Dev) : Applied :=
  let unload := match load with
    | some d => d.model
    | none => unload
  if load.isSome ∧ mhas s.att.models unload then failsHere St.cfgModelIdBusy s
  else done (scheduleModel { rq := .device, load, unload, boundary, tag := none, peerTag := some tag } s)

/-- R518: the other side's configuration commit waits here for its boundary. -/
def mirrorTxn (items : List TxnItem) (persistent : Bool) (boundary : Time) (tag : Nat) (s : Dev) : Applied :=
  done (scheduleTxn items persistent false boundary s.now none (some tag) s)

/-! ## One operation -/

/-- R248, R518: the operation takes effect at the boundary that its header names; its completion comes then. -/
def atBoundary : PairOp → Bool
  | .modelLoad _ => true
  | .modelUnload _ => true
  | .txnCommit _ _ => true
  | _ => false

/-- R423, R424: what an operation of the other side does here; the operations of a resync are in Rejoin.lean. -/
def applyPeer (h : CommitHdr) (op : PairOp) (s : Dev) : Applied :=
  let boundary := h.boundary.getD s.now
  match op with
  | .seqOpen ownerB tenant model f scope => applyOpen ownerB tenant model f scope s
  | .seqClose handle => mirrorClose handle s
  | .seqPark handle => applyPark handle s
  | .seqResume handle => applyResume handle s
  | .seqTruncate handle len => mirrorTruncate handle len s
  | .seqJoin handle stream position => applyJoin handle stream position s
  | .seqLeave handle stream => applyLeave handle stream s
  | .attach handle slot => applyAttach handle slot (fun _ => []) s
  | .nodeCreate handle blk toks => mirrorOffer handle blk toks s
  | .nodeRemove slot => mirrorRemove slot s
  | .arrayClear => mirrorArrayOff s
  | .modelLoad d => mirrorModel (some d) 0 boundary h.tag s
  | .modelUnload m => mirrorModel none m boundary h.tag s
  | .timetable set effective => done (setPending set effective s)
  | .objCreate ownerB r => applyCreate ownerB r s
  | .objSeal obj => applySeal obj s
  | .objDelete obj => applyDelete obj s
  | .objReopen obj => applyReopen obj s
  | .objLost obj lost => mirrorObjLost obj lost s
  | .seqLost handle => mirrorSeqLost handle s
  | .pageCopy c => applyPageCopy c s
  | .nodePage slot layer toks => applyNodePage slot layer toks s
  | .blockCopy obj i data => applyBlockCopy obj i data s
  | .append m => mirrorAppend m s
  | .txnBegin holder => applyBegin holder false s
  | .txnRollback => applyRollback s
  | .txnCommit items persistent => mirrorTxn items persistent boundary h.tag s
  | .chanOpen r => applyChanOpen r s
  | .chanClose ch => applyChanClose ch s
  | .lostPage key => mirrorLostPage key s
  | _ => done s

/-- R423, R424: what an operation of this side's own does here once it is ordered; `fields` is the reply that its checks gave. -/
def applyOwn (op : PairOp) (fields : List Nat) (s : Dev) : Applied :=
  match op with
  | .seqClose handle => applyClose handle (.seqAdminClose s.now .device ((findSeq s handle).elim 0 (·.2.tenant)) handle) s
  | .seqTruncate handle len => applyTruncate handle len s
  | .attach handle slot => applyAttach handle slot (fun _ => fields) s
  | .nodeCreate handle blk toks =>
    let r := applyOffer (indexOf handle) blk toks s
    { r with state := liveAfterOffer (indexOf handle) blk r.state }
  | .nodeRemove slot => done (freeNode slot s)
  | .arrayClear => done s
  | .append m => applyAppend m none s
  | .txnBegin holder => applyBegin holder true s
  | .timetable set effective => done (setPending set effective s)
  | op => applyPeer { seq := 0, originB := !s.sideA, proposal := false, resync := false, boundary := none, tag := 0 } op s

/-- R423: a commit in the other side's name, applied whole or not at all. -/
def wholly (ap : Dev → Applied) (s : Dev) : Applied :=
  let r := ap s
  if r.status = St.ok then r else { r with state := s }

end Sys2Proof.Machine
end

