-- ==== Sys2Proof/Machine/Rejoin.lean ====
section
/-! DEFINITION. Rejoining (R445, R446, R504): what the survivor sends, what the joining device makes of it, and the pair state
that it discards. -/

namespace Sys2Proof.Machine

/-! ## Discarding (R433, R446) -/

/-- R422, R433: the pair state of this device is gone, and what it served with it: sequences, prefix store, requests, models,
objects, channels of the mirrored tenants, commits under way. -/
def discardPair (s : Dev) : Dev :=
  let chans := mkeep s.auv.chans fun _ c => c.privileged || decide (tenantMirror s c.tenant = .m0)
  let used (i : Nat) : Bool := chans.any fun e => decide (e.2.kind = 0) && decide (e.2.target = i)
  { s with
    kvs := { Kvs.reset with nextPage := s.kvs.nextPage, nextWait := s.kvs.nextWait }
    pfx := { Pfx.reset with scopes := s.pfx.scopes }
    att.reqs := []
    att.models := []
    att.modelChanges := []
    tir := { s.tir with moves := [], drains := [], heat := [], reserveUsed := [], coldUsed := 0, weightUsed := 0, t1Homes := [],
                        demoting := false, allocWaits := [], proj := [], refetches := [], lostPages := [], lostUnlisted := [],
                        objs := [], lists := [] }
    fls.reads := []
    tt.charges := []
    tt.uses := []
    tt.batch := []
    tt.batchChanges := []
    auv.chans := chans
    auv.ranges := mkeep s.auv.ranges fun i _ => used i
    mem := memClear s.mem (2 ^ 63) (2 ^ 60)
    cfg.txn := { s.cfg.txn with state := .idle, holder := none, items := [], bytes := 0 }
    par := { s.par with waits := [], ownerB := [], objOwnerB := [], tookOver := false, copies := [], appendCopies := [],
                        sealWaits := [], resyncOps := [], fromPaused := false, discarded := true, peerConfig := none } }

/-! ## What the survivor sends (R445) -/

/-- R445: the configuration that a resync carries. -/
def confRec (s : Dev) : ConfRec :=
  { profile := s.tt.profile
    tenants := s.cfg.tenants.map (·.2)
    scopes := s.pfx.scopes.map fun e => scopeRec e.1 e.2
    streams := s.tir.deadlines.map fun e => streamRec e.1 e.2
    set := s.tt.set
    lists := s.shp.lists
    policers := s.shp.policers.map fun e => { index := e.1, cir := e.2.cir, cbs4k := e.2.cbs4k, enable := e.2.enable }
    configId := s.cfg.image.elim 0 (·.configId)
    takeoverEpoch := s.par.takeoverEpoch
    gens := s.kvs.gens
    freeNext := s.kvs.freeNext
    freeSkip := s.kvs.freeSkip
    freeQueue := s.kvs.freeQueue
    batch := s.tt.batch
    nodeGen := s.pfx.nodeGen
    cuckooPtr := s.pfx.cuckooPtr }

/-- R428, R445: the record of a sequence: the progress fields travel for an M2 sequence; otherwise it is as long as its shared
prefix. -/
def seqRec (s : Dev) (i : Nat) (q : Seq) : SeqRec :=
  let m2 := decide (q.mirror = .m2)
  let blocks := if m2 then q.log.length else q.sharedTokens / 16
  let log := ((List.range blocks).filterMap (mget q.log)).map fun r => (r.key, r.tokens)
  let tail := match blocks with
    | 0 => (0 : BitVec 96)
    | b + 1 => (mget q.log b).elim 0 (·.key)
  let len (e : OpenEntry) : Nat := 16 * e.pageIndex + (if e.cow then e.fill else 0)
  { handle := q.handle, tenant := q.tenant, model := q.model, scope := q.scope, format := q.format, mirror := q.mirror,
    state := q.state.code
    length := if m2 then q.length else q.sharedTokens
    sharedTokens := q.sharedTokens
    maxLen := if m2 then q.maxLen else q.sharedTokens
    seat := q.seat
    tailKey := tail
    lastFrame := q.lastFrame, layers := q.layers, kvHeads := q.kvHeads, headDim := q.headDim,
    ownerB := s.par.ownerB.contains i
    prevSeat := q.prevSeat
    log
    layerLens := if m2 then q.openTable.map len else []
    ring := if m2 then q.ring else [] }

/-- R445: the record of a node. -/
def nodeRec (n : Node) : NodeRec :=
  { key := n.key, parent := n.parent, tokens := n.tokens, depth := n.depth, refCount := n.refCount, gen := n.gen,
    lastHit := n.lastHit, scope := n.scope, model := n.model, format := n.format, mirror := n.mirror, saltEpoch := n.saltEpoch,
    layers := n.layers, children := n.children }

/-- R445: the record of an object. -/
def objRec (s : Dev) (k : Nat) (o : Obj) : ObjRec :=
  { object := k, tenant := o.tenant, state := o.state.code
    flags := BitVec.ofNat 8 (mirrorCode o.mirror + 4 * o.elem + 16 * o.resident.toNat + 32 * o.stats.toNat)
    size := o.size, version := o.version, lostBlocks := o.lostBlocks, ownerB := s.par.objOwnerB.contains k }

/-- R445: the channel of a mirrored tenant. -/
def chanRec (s : Dev) (ch : Nat) (c : Chan) : PairOp :=
  let r := mgetD s.auv.ranges c.target { base := 0, len4k := 0, tenant := 0, access := 0 }
  .resyncChan { subop := 0, kind := c.kind, tenant := c.tenant, channel := ch, peer := c.peer, access := c.access, tcMask := c.tcMask,
                target := c.target, base := if c.kind = 0 then r.base else 0, len4k := if c.kind = 0 then r.len4k else 0, mask := 0 }
    c.nextCsn c.completions

/-- R427, R445: the tokens of the open page of a layer of an M2 sequence, as an APPEND of their own. -/
def openAppend (s : Dev) (i : Nat) (q : Seq) (l : Nat) : Option PairOp :=
  match q.openTable[l]? with
  | none => none
  | some e =>
    if e.fill = 0 ∨ e.cow then none
    else
      (l3Page s i l e.pageIndex).map fun pg =>
        let toks := (List.range e.fill).map fun j => mgetD q.ring ((16 * e.pageIndex + j) % 4096) 0
        .append { handle := q.handle, position := 16 * e.pageIndex, count := e.fill, layer := l, format := formatCode q.format,
                  bodyLen := appendBytes q e.fill q.format, tokens := toks, kv := pg.2.toks.take e.fill }

/-- R445: the pair state, chunk by chunk. -/
def pairChunks (s : Dev) : List PairOp :=
  let live := s.kvs.seqs.filter fun e => !decide (e.2.state = .closing)
  [.resyncConf (confRec s)]
    ++ s.att.models.map (fun e => .resyncModel e.2.desc (decide (e.2.state = .tight)) (decide (e.2.state = .unloading)) e.2.granted e.2.borrowed)
    ++ s.pfx.dir.map (fun e => .resyncNode e.1 (nodeRec e.2))
    ++ [.resyncArray (mmap s.pfx.arr fun e => (e.units, e.slot))]
    ++ live.map (fun e => .resyncSeq (seqRec s e.1 e.2))
    ++ s.tir.objs.map (fun e => .resyncObj (objRec s e.1 e.2))
    ++ (s.auv.chans.filter fun e => !e.2.privileged && !decide (tenantMirror s e.2.tenant = .m0)).map (fun e => chanRec s e.1 e.2)
    ++ s.tir.lostPages.map .lostPage
    ++ (match s.cfg.txn.state, s.cfg.txn.holder with | .opened, some rq => [.txnBegin rq] | _, _ => [])
    ++ (live.filter fun e => decide (e.2.mirror = .m2)).flatMap fun e => (List.range e.2.layers).filterMap (openAppend s e.1 e.2)

/-- R429, R445: the mirror copies that are due to a partner that holds none. -/
def dueCopies (s : Dev) : List (Datum × Frame) :=
  let pages := s.kvs.pages.filter fun e => decide (e.2.state = .sealed) && !decide (e.2.mirror = .m0)
  let blocks := s.tir.objs.flatMap fun e =>
    if e.2.state = .sealed ∧ e.2.mirror ≠ .m0 then (List.range (blockCount e.2)).map fun i => Datum.block e.1 i else []
  (pages.map fun e => (.page e.1, s.tt.frame)) ++ blocks.map fun d => (d, s.tt.frame)

/-- R445: the header of a resync commit. -/
def resyncHdr (s : Dev) : CommitHdr :=
  { seq := s.par.commitSeq, originB := !s.sideA, proposal := false, resync := true, boundary := none, tag := 0 }

/-- R445: the survivor sends its pair state and queues the copies that are due. -/
def sendResync (s : Dev) : Dev :=
  let s := forL (pairChunks s) (fun op s => emit (.commit (resyncHdr s) op) s) s
  { s with
    kvs.pages := mmap s.kvs.pages fun pg => { pg with mirrored := false }
    tir.objs := mmap s.tir.objs fun o => { o with mirrored := [] }
    par.copies := dueCopies s
    par.resyncOps := [] }

/-- R445: once its copies are complete, the survivor sends the commits applied since the resync began. DEDUCED: log entry 36. -/
def flushResync (s : Dev) : Dev :=
  if s.par.state = .resync ∧ s.par.copies = [] then
    forL s.par.resyncOps (fun op s => emit (.commit (resyncHdr s) op) s) { s with par.resyncOps := [] }
  else s

/-! ## What the joining device makes of it (R445, R504) -/

/-- R504: the running profile comes from the partner. -/
def takeProfile (p : Profile) (s : Dev) : Dev :=
  let v := (s.reg Reg.cfgRunConfig).toNat % 2 ^ 30
  { s with regs := mset s.regs Reg.cfgRunConfig (BitVec.ofNat 64 (v + p.code * 2 ^ 30)) }

/-- R504: the partner's configuration; another config_id leaves the device JOINING. -/
def takeConf (c : ConfRec) (s : Dev) : Dev :=
  let own := s.cfg.image.elim 0 (·.configId)
  let s := { s with par.peerConfig := some c.configId }
  if own ≠ c.configId then
    raise St.cfgImageInvalid deviceWide [own.toNat, c.configId.toNat] { s with par.state := .joining }
  else
    let s := takeProfile c.profile { s with
      cfg.tenants := c.tenants.foldl (fun m t => mset m t.tenant t) []
      pfx.scopes := c.scopes.foldl (fun m r => mset m r.index (scopeOf r)) []
      tir.deadlines := c.streams.foldl (fun m r => mset m r.stream (deadlineRecOf r)) []
      shp.policers := c.policers.foldl (fun m r => mset m r.index (policerOf s.now 0 r)) []
      kvs.gens := c.gens
      kvs.freeNext := c.freeNext
      kvs.freeSkip := c.freeSkip
      kvs.freeQueue := c.freeQueue
      tt.batch := c.batch
      pfx.nodeGen := c.nodeGen
      pfx.cuckooPtr := c.cuckooPtr
      par.takeoverEpoch := c.takeoverEpoch }
    if s.tt.set = c.set ∧ s.tt.profile = c.profile then { s with shp.lists := c.lists }
    else if s.tt.started then
      let due := s.now + BitVec.ofNat 64 s.frameUnits
      { s with tt.pending := some { set := c.set, effective := boundaryAfter s due, lists := c.lists } }
    else { s with tt.set := c.set, tt.profile := c.profile, shp.lists := c.lists }

/-- R445: the record of a model. -/
def takeModel (d : ModelDesc) (tight unloading : Bool) (granted borrowed : Nat) (s : Dev) : Dev :=
  let m : Model := { desc := d, state := if unloading then .unloading else if tight then .tight else .active, granted, borrowed }
  { s with att.models := mset s.att.models d.model m }

/-- R445: the record of a node; its page list is this device's own, and its pages come with their copies. -/
def takeNode (slot : Nat) (r : NodeRec) (s : Dev) : Dev :=
  let (pl, s) := t1Take 260 (plistBytes r.layers) s
  let n : Node := { key := r.key, parent := r.parent, tokens := r.tokens, depth := r.depth, refCount := r.refCount, gen := r.gen,
                    lastHit := r.lastHit, plist := pl, scope := r.scope, model := r.model, format := r.format, mirror := r.mirror,
                    inArray := false, state := .live, saltEpoch := r.saltEpoch, layers := r.layers, children := r.children,
                    pages := [] }
  { s with
    pfx.dir := mset s.pfx.dir slot n
    pfx.plists := mset s.pfx.plists pl (r.gen, (List.range r.layers).map fun l => pl + 16 + 16 * l) }

/-- R445: the match array and its key shadow. -/
def takeArray (entries : Map (List (BitVec 64) × Nat)) (s : Dev) : Dev :=
  let arr : Map ArrEntry := mmap entries fun e => { units := e.1, slot := e.2 }
  forL entries (fun e s => modNode e.2.2 (fun n => { n with inArray := true }) s) { s with pfx.arr := arr, pfx.shadow := arr, pfx.inserts := [] }

/-- R92: the state of a code. -/
def seqStateOf : Nat → SeqState
  | 1 => .seated | 2 => .parking | 3 => .parked | 4 => .resuming | 5 => .closing | _ => .lost

/-- R113, R116: layers that have sealed their page of a block. -/
def sealedCounts (lens : List Nat) (from' : Nat) : Map Nat :=
  let most := lens.foldl max 0 / 16
  ((List.range (most - from')).map fun k =>
    ((from' + k) % 256, (lens.filter fun n => decide (from' + k + 1 ≤ n / 16)).length)).foldl (fun m e => mset m e.1 e.2) []

/-- R421, R445: the record of a sequence; its pending area and tables are this device's own. -/
def takeSeq (r : SeqRec) (s : Dev) : Dev :=
  let i := indexOf r.handle
  let (pend, s) := t1Take 259 20480 s
  let (root, s) := t1Take 258 2048 s
  let entry (n : Nat) : OpenEntry :=
    { pageIndex := n / 16, fill := n % 16, cow := decide (n % 16 ≠ 0), slot := none }
  let lens := if r.mirror = .m2 then r.layerLens else List.replicate r.layers r.sharedTokens
  let records : Map LogRec := (List.range r.log.length).zip (r.log.map fun x => { key := x.1, tokens := x.2 })
  let q : Seq := {
    handle := r.handle, tenant := r.tenant, model := r.model, scope := r.scope, format := r.format, mirror := r.mirror
    state := seqStateOf r.state, length := r.length, sharedTokens := r.sharedTokens, maxLen := r.maxLen, seat := r.seat
    prevSeat := r.prevSeat, ptRoot := root, pendingBase := pend, ptExtent := none, ptSet := [], ptNext := [], pendingExtent := none
    tailKey := r.tailKey, lastFrame := r.lastFrame, layers := r.layers, kvHeads := r.kvHeads, headDim := r.headDim
    openTable := lens.map entry
    ring := r.ring
    blockCount := sealedCounts lens r.log.length
    log := records, logPieces := [], l3 := [], held := [], evictedFor := none, cold := ColdCopy.zero }
  let s := { s with
    kvs.seqs := mset s.kvs.seqs i q
    par.ownerB := s.par.ownerB ++ (if r.ownerB then [i] else []) }
  growLog i (match r.seat with
    | some k => { s with kvs.seats := mset s.kvs.seats k i }
    | none => s)

/-- R445: the record of an object; its blocks come with their copies. -/
def takeObj (r : ObjRec) (s : Dev) : Dev :=
  let o : Obj := newObj { subop := 0, flags := r.flags, tenant := r.tenant, object := r.object, size := r.size, offset := 0, region := 0,
                          regionOffset := 0 }
  let st : ObjState := match r.state with
    | 1 => .opened | 2 => .sealed | 3 => .lost | _ => .deleting
  let (base, s) := t1Take 258 (8 * blockCount o) s
  { s with
    tir.objs := mset s.tir.objs r.object { o with state := st, version := r.version, lostBlocks := r.lostBlocks, mapBase := base }
    par.objOwnerB := s.par.objOwnerB ++ (if r.ownerB then [r.object] else []) }

/-- R445: the context of a channel. -/
def takeChan (r : ChanAdmin) (nextCsn completions : BitVec 32) (s : Dev) : Dev :=
  modChan r.channel (fun c => { c with nextCsn, completions }) (applyChanOpen r s).state

/-- R445: a chunk, a copy or a later commit of the resync is applied. A partner that runs another image is not followed.
DEDUCED: log entry 38. -/
def applyResync (h : CommitHdr) (op : PairOp) (s : Dev) : Dev :=
  match op with
  | .resyncConf c => takeConf c { s with par.commitSeq := h.seq }
  | op =>
    if s.par.peerConfig ≠ s.cfg.image.map (·.configId) then s
    else
      let s := { s with par.commitSeq := h.seq }
      match op with
      | .resyncModel d tight unloading granted borrowed => takeModel d tight unloading granted borrowed s
      | .resyncNode slot r => takeNode slot r s
      | .resyncArray entries => takeArray entries s
      | .resyncSeq r => takeSeq r s
      | .resyncObj r => takeObj r s
      | .resyncChan r nextCsn completions => takeChan r nextCsn completions s
      | op => (wholly (applyPeer h op) s).state

end Sys2Proof.Machine
end

