-- ==== Sys2Proof/Machine/Takeover.lean ====
section
/-! DEFINITION. Takeover (R440 to R443): the sole leader finishes what was under way, tells the fabric, takes the lost side's
sequences and objects over and settles each. -/

namespace Sys2Proof.Machine

/-! ## Commits under way -/

/-- A wait is over. -/
def dropWait (w : CommitWait) (s : Dev) : Dev := { s with par.waits := s.par.waits.filter fun x => !decide (x.tag = w.tag) }

/-- R248, R518: this side's own change at a boundary has no other half any more. -/
def forgetTag (tag : Nat) (s : Dev) : Dev :=
  { s with
    att.modelChanges := s.att.modelChanges.map fun c => if c.tag = some tag then { c with tag := none } else c
    cfg.txn := { s.cfg.txn with tag := if s.cfg.txn.tag = some tag then none else s.cfg.txn.tag } }

/-- R424, R433: a change that was held, or that has not come back, is asked for anew in the present pair state. -/
def redo (w : CommitWait) (s : Dev) : Dev :=
  match w.op with
  | .modelLoad d => changeModel w.rq (some d) 0 s
  | .modelUnload m => changeModel w.rq none m s
  | op => pairChange w.rq op none (applyOwn op w.reply) s

/-- R144: the node of an offer that both sides have, or that one side alone has, is LIVE. -/
def liveNow (op : PairOp) (s : Dev) : Dev :=
  match op with
  | .nodeCreate handle blk _ => liveAfterOffer (indexOf handle) blk s
  | _ => s

/-- R440 step 2: a commit that waited for the lost side is complete on this side. -/
def finishAlone (w : CommitWait) (s : Dev) : Dev :=
  let s := dropWait w s
  if w.applied then liveNow w.op (reply w.rq w.status w.reply s)
  else
    match w.op with
    | .txnCommit _ _ => forgetTag w.tag s
    | .nodeCreate _ _ _ => liveNow w.op (redo w s)
    | op => if atBoundary op ∧ !w.held ∧ !w.proposal then forgetTag w.tag s else redo w s

/-- R440 step 2, R429: nothing waits for the lost side. -/
def finishAll (s : Dev) : Dev :=
  let s := forL s.par.waits finishAlone s
  let s := forL s.par.sealWaits (fun w s => reply w.2 St.ok (objFields s w.1) s) s
  { s with
    par.sealWaits := []
    par.copies := []
    par.appendCopies := []
    par.resyncOps := []
    kvs.pages := mmap s.kvs.pages fun pg => { pg with mirrored := false }
    tir.objs := mmap s.tir.objs fun o => { o with mirrored := [] }
    att.modelChanges := s.att.modelChanges.map fun c => { c with peerTag := none }
    cfg.txn := { s.cfg.txn with peerTag := none } }

/-! ## Telling the fabric (R440 step 3) -/

/-- R440: the devices of the fabric other than this one and its partner. -/
def otherDevices (s : Dev) : List Nat :=
  (List.range 512).filter fun d => inFabric s d && !decide (d = s.par.deviceId) && !decide (d = s.par.partnerId)

/-- R440 step 3: PAR_TAKEOVER to every device, on the management channel. -/
def tellFabric (s : Dev) : Dev :=
  let detail := [s.par.partnerId, s.par.deviceId]
  let e : EventMsg := { status := St.parTakeover, tenant := deviceWide, device := s.par.deviceId, seq := 0, time := s.now, detail }
  forL (otherDevices s) (fun d s => sendMsg (128 * d) 0x0C 6 0 1 0 32 0 false [] (emit (.peerEvent d e) s))
    (raise St.parTakeover deviceWide detail s)

/-! ## What becomes of the lost side's items (R441, R442) -/

/-- R441: the leading blocks whose pages are held on every layer. -/
def heldBlocks (q : Seq) : Nat :=
  (leastFrom (fun b => !decide ((blockPages q b).length = q.layers)) 0 (q.l3.length + 1)).getD 0

/-- R441: PARKING and RESUMING become SEATED. -/
def seatAgain (i : Nat) (s : Dev) : Dev :=
  match mget s.kvs.seqs i with
  | none => s
  | some q =>
    match q.state with
    | .parking => abortPark i s
    | .resuming => modSeq i (fun q => if q.state = .resuming then { q with state := .seated } else q) (resumeComplete i s)
    | _ => s

/-- R441: the class by which a sequence is judged. -/
def judgedAs (s : Dev) (q : Seq) : MirrorClass := if q.mirror = .m2 ∧ s.par.fromPaused then .m1 else q.mirror

/-- R441: a sequence of the lost side. -/
def settleSeq (e : Nat × Seq) (s : Dev) : Dev :=
  if e.2.state = .closing ∨ e.2.state = .lost then s
  else
    match judgedAs s e.2 with
    | .m0 => loseSeq e.1 s
    | .m1 => seatAgain e.1 (truncateSeq e.1 (16 * heldBlocks e.2) s)
    | .m2 => seatAgain e.1 s

/-- R441: an object of the lost side. -/
def settleObj (e : Nat × Obj) (s : Dev) : Dev :=
  if e.2.state = .deleting ∨ (e.2.state = .sealed ∧ e.2.blocks.length = blockCount e.2) then s
  else modObj e.1 (fun o => { o with state := .lost, lostBlocks := blockCount o - o.blocks.length }) s

/-- R441: a node whose pages are not all held here is removed. -/
def purgeNode (slot : Nat) (s : Dev) : Dev :=
  match mget s.pfx.dir slot with
  | none => s
  | some n =>
    if nodeHeld s n then s
    else
      let parts := if n.pages = [] then (List.range n.layers).filterMap (nodePageAt s n) else []
      freeNode slot (forL parts dropRef (invalidateEntry slot s))

/-- R442: one event for each tenant with sequences of an outcome. -/
def tellTenants (w : Status) (tenants : List Nat) (s : Dev) : Dev :=
  forL tenants.eraseDups (fun t s => raise w t [t, (tenants.filter fun x => decide (x = t)).length] s) s

/-- R441, R442: every item of the lost side, and the owner bits. -/
def settleLost (s : Dev) : Dev :=
  let seqs := s.kvs.seqs.filter fun e => !ownsSeq s e.1
  let objs := s.tir.objs.filter fun e => !ownsObj s e.1
  let live := seqs.filter fun e => !decide (e.2.state = .closing) && !decide (e.2.state = .lost)
  let class' (m : MirrorClass) : List Nat := (live.filter fun e => decide (judgedAs s e.2 = m)).map fun e => e.2.tenant
  let lost := class' .m0
  let cut := class' .m1
  let s := { s with
    par.ownerB := if s.sideA then [] else s.kvs.seqs.map (·.1)
    par.objOwnerB := if s.sideA then [] else s.tir.objs.map (·.1) }
  let s := forL objs settleObj (forL seqs settleSeq s)
  let s := forL s.pfx.dir (fun e s => purgeNode e.1 s) s
  tellTenants St.parSeqTruncated cut (tellTenants St.parSeqLost lost s)

/-! ## The takeover (R440, R443) -/

/-- R365, R443: another epoch than the last one drawn. -/
def drawEpoch (s : Dev) : BitVec 8 × Dev :=
  let (k, s) := draw s
  let e := Config.epochPick k
  let e := if s.auv.aonEpoch = some e then e + 1 else e
  (e, { s with auv.aonEpoch := some e })

/-- R443: a new epoch for the lost ID. -/
def lostIdEpoch (s : Dev) : Dev :=
  let (e, s) := drawEpoch s
  { s with auv.lostEpoch := some e, auv.paths := mkeep s.auv.paths fun k _ => decide (k < 1024) }

/-- R514: a transaction whose holder is on the lost side is rolled back while it is OPEN. -/
def expireLost (s : Dev) : Dev := if s.cfg.txn.state = .opened ∧ !s.cfg.txn.mine then expireTxn s else s

/-- R440: the partner is lost: this device takes over. DEDUCED: log entry 38. -/
def takeover (s : Dev) : Dev :=
  let s := count Reg.parTakeoverCount { s with
    par.takeoverEpoch := s.par.takeoverEpoch + 1
    par.tookOver := true
    par.state := .solo
    par.since := s.now }
  let s := tellFabric (finishAll s)
  let s := expireLost (failRefetches (settleLost s))
  finishStartup (declareVariant (lostIdEpoch { s with par.fromPaused := false }))

end Sys2Proof.Machine
end

