-- ==== Sys2Proof/Machine/Pair.lean ====
section
/-! DEFINITION. The pair's supervision and its commits (R418 to R446): heartbeats, probes and witnesses, the pair states and
their timers, commits as they arrive and complete, mirror copies, and the end of a resync. -/

namespace Sys2Proof.Machine

/-! ## States -/

/-- R433: the device is in another pair state from now on. -/
def setPair (st : PairState) (s : Dev) : Dev := { s with par.state := st, par.since := s.now }

/-- R559, R560: the pair's state table stands still while the device is self-fenced, asleep or not yet synchronised.
DEDUCED: log entry 39. -/
def supervised (f : Dev → Dev) (s : Dev) : Dev := if s.ras.selfFenced ∨ s.cfg.phase ≠ .run then s else f s

/-- R433: a port by which the torus is reached. DEDUCED: log entry 39. -/
def torusPort (s : Dev) : Option Nat := [portTorE, portTorW, portTorN, portTorS].find? s.linkUp

/-- R433, R434: the partner probe through the torus, and the witness queries to every torus neighbour. DEDUCED: log entry 39. -/
def probeAround (s : Dev) : Dev :=
  let s := match torusPort s with
    | some p => sendProbe p s.par.partnerId (probeMsg s 3 s.par.partnerId false) s
    | none => s
  forL ([portTorE, portTorW, portTorN, portTorS].filter s.linkUp)
    (fun p s => sendProbe p (s.port p).farDevice (probeMsg s 5 s.par.partnerId false) s) s

/-- R433: 50 µs of silence. -/
def enterSuspect (s : Dev) : Dev :=
  let paused := decide (s.par.state = .paused)
  probeAround (raiseDev St.parSuspect (count Reg.parSuspectCount (setPair .suspect { s with
    par.fromPaused := paused
    par.witness := false })))

/-- R433, R438: the commits held in SUSPECT go on their way in order. -/
def releaseHeld (s : Dev) : Dev :=
  forL (s.par.waits.filter (·.held)) (fun w s =>
    let s := dropWait w s
    if w.applied then tell w.op s
    else
      match w.op with
      | .txnCommit items persistent =>
        let tag := s.par.nextTag
        let s := if s.sideA then { s with par.commitSeq := s.par.commitSeq + 1 } else s
        let boundary := s.cfg.txn.boundary
        let s := await { w with tag, held := false } (emit (.commit (commitHdr s tag (!s.sideA) (some boundary)) (.txnCommit items persistent)) s)
        { s with cfg.txn := { s.cfg.txn with tag := some tag } }
      | _ => redo w s) s

/-- R437: a commit that was held is refused. -/
def refuseHeld (s : Dev) : Dev :=
  forL (s.par.waits.filter fun w => w.held && !w.applied) (fun w s =>
    let s := match w.op with
      | .txnCommit _ _ => { s with cfg.txn := { s.cfg.txn with state := .opened, tag := none } }
      | _ => s
    reply w.rq St.parIsolated [] (dropWait w s)) s

/-- R433, R437: the device is cut off. -/
def enterIsolated (event : Status) (s : Dev) : Dev :=
  raiseDev event (refuseHeld (setPair .isolated { s with par.isolatedSet := true }))

/-- R439: mirroring stops: M2 objects need not wait for their copies. -/
def enterPaused (s : Dev) : Dev :=
  let s := setPair .paused { s with par.pausedSet := true, par.heartbeatsSince := none }
  let s := forL s.par.sealWaits (fun w s => reply w.2 St.ok (objFields s w.1) s) { s with par.sealWaits := [] }
  releaseHeld s

/-- R433: the pair is whole. -/
def enterPaired (s : Dev) : Dev := finishStartup (releaseHeld (setPair .paired { s with par.fromPaused := false }))

/-- R433, R560: the partner has taken over: this device gives its pair state up and joins. DEDUCED: log entry 38. -/
def enterJoining (s : Dev) : Dev :=
  setPair .joining (discardPair { s with par.partnerHeard := true, par.witness := false })

/-- R433: an isolated device finds that it was replaced. -/
def replaced (s : Dev) : Dev := raiseDev St.parReplaced (enterJoining { s with par.replacedSet := true })

/-! ## Hearing the partner -/

/-- R560: the partner holds this device's ID. -/
def takenOver (m : ProbeMsg) (s : Dev) : Bool :=
  m.tookOver && !decide (s.par.state = .isolated) &&
    (decide (s.par.state = .paired) || decide (s.par.state = .suspect) || decide (s.par.state = .paused))

/-- R433: what an isolated device does when it hears its partner, on PAIR or through the torus. -/
def heardIsolated (onPair : Bool) (m : ProbeMsg) (s : Dev) : Dev :=
  if m.tookOver then (if serialLt s.par.takeoverEpoch m.takeoverEpoch then replaced s else s)
  else if onPair then enterPaired s
  else enterPaused s

/-- R446: the state that prevails when both sides start at once: that of the later snapshot, side A's on a tie. -/
def prevails (s : Dev) (theirs : Option Time) : Bool :=
  match (s.fls.roots.head?).map (·.snapTime), theirs with
  | some a, some b => if a = b then s.sideA else serialLt b a
  | some _, none => true
  | none, some _ => false
  | none, none => s.sideA

/-- R433, R446: both sides join at once. DEDUCED: log entry 38. -/
def settleBoth (snap : Option Time) (s : Dev) : Dev :=
  if prevails s snap then enterPaired (sendResync { s with par.discarded := false })
  else enterPaired (discardPair s)

/-- R433: a heartbeat of the partner advances the pair state. -/
def heartbeatState (onPair : Bool) (m : ProbeMsg) (snap : Option Time) (s : Dev) : Dev :=
  if takenOver m s then enterJoining s
  else
    match s.par.state with
    | .joining =>
      if !onPair then s
      else if m.pairState = 0 then settleBoth snap s
      else if (m.pairState = 1 ∨ m.pairState = 4) ∧ !s.par.discarded then discardPair s
      else s
    | .suspect => if onPair then enterPaired s else s
    | .solo => if onPair ∧ m.pairState = 0 then sendResync (setPair .resync s) else s
    | .isolated => heardIsolated onPair m s
    | _ => s

/-- R433, R439: when the heartbeat was heard, and since when heartbeats run on PAIR. -/
def noteHeartbeat (onPair : Bool) (s : Dev) : Dev :=
  let s := { s with par.lastHeartbeat := s.now, par.partnerHeard := true }
  if !onPair then s
  else
    let broken := past s.par.pairHeartbeat (us 50) s.now
    { s with
      par.pairHeartbeat := s.now
      par.heartbeatsSince := if broken then some s.now else some (s.par.heartbeatsSince.getD s.now) }

/-- R432, R433: a heartbeat arrives. -/
def heartbeat (port : Nat) (m : ProbeMsg) (snap : Option Time) (s : Dev) : Dev :=
  if m.device = s.par.partnerId ∧ m.kind = 2 then
    let onPair := decide (port = portPair)
    supervised (heartbeatState onPair m snap) (noteHeartbeat onPair s)
  else s

/-- R433: 10 µs have passed: a heartbeat on PAIR; in PAUSED one through the torus too. DEDUCED: log entry 39. -/
def sendHeartbeat (s : Dev) : Dev :=
  supervised (fun s =>
    let s := { s with par.hbCount := s.par.hbCount + 1 }
    let m := probeMsg s 2 0 false
    let s := if s.linkUp portPair then sendProbe portPair s.par.partnerId m s else s
    match s.par.state, torusPort s with
    | .paused, some p => sendProbe p s.par.partnerId m s
    | _, _ => s) s

/-- R433: a partner probe through the torus is answered on its port; the partner has been heard. -/
def partnerProbe (port : Nat) (m : ProbeMsg) (s : Dev) : Dev :=
  if m.kind = 3 ∧ m.device = s.par.partnerId then
    supervised (fun s =>
      let s := sendProbe port m.device (probeMsg s 4 m.subject false) { s with par.partnerHeard := true }
      if takenOver m s then enterJoining s
      else if s.par.state = .isolated then heardIsolated false m s else s) s
  else s

/-- R433: the partner answers through the torus. -/
def partnerReply (m : ProbeMsg) (s : Dev) : Dev :=
  if m.kind = 4 ∧ m.device = s.par.partnerId then
    supervised (fun s =>
      let s := { s with par.partnerHeard := true, par.lastHeartbeat := s.now }
      if takenOver m s then enterJoining s
      else if s.par.state = .suspect then raiseDev St.parMirrorPaused (enterPaused s)
      else if s.par.state = .isolated then heardIsolated false m s
      else s) s
  else s

/-- R433, R559: a witness query is answered. -/
def witnessQuery (port : Nat) (m : ProbeMsg) (s : Dev) : Dev :=
  if m.kind = 5 ∧ !s.ras.selfFenced then sendProbe port m.device (probeMsg s 6 m.subject false) s else s

/-- R434: a third device has answered. -/
def witnessReply (m : ProbeMsg) (s : Dev) : Dev :=
  if m.kind = 6 ∧ m.subject = s.par.partnerId ∧ m.device ≠ s.par.partnerId ∧ (s.par.state = .suspect ∨ s.par.state = .joining) then
    { s with par.witness := true }
  else s

/-- R433: 20 µs have passed in SUSPECT or JOINING. -/
def repeatProbes (s : Dev) : Dev :=
  supervised (fun s => if s.par.state = .suspect ∨ s.par.state = .joining then probeAround s else s) s

/-! ## Timers (R433 to R436, R439) -/

/-- R433: 50 µs without a heartbeat. -/
def pairSilence (s : Dev) : Dev :=
  supervised (fun s =>
    if !past s.par.lastHeartbeat (us 50) s.now then s
    else
      match s.par.state with
      | .paired => enterSuspect s
      | .paused => enterSuspect s
      | .resync => setPair .solo { s with par.copies := [], par.resyncOps := [] }
      | _ => s) s

/-- R434, R435: this device may declare its partner lost: a witness has answered, or it is side A of a fabric of one pair. -/
def mayTakeOver (s : Dev) : Bool := s.par.witness || (decide (s.par.dimX = 1) && decide (s.par.dimY = 1) && s.sideA)

/-- R434: 200 µs in SUSPECT without an answer of the partner. -/
def pairLoss (s : Dev) : Dev :=
  supervised (fun s =>
    if s.par.state = .suspect ∧ past s.par.since (us 200) s.now then
      if mayTakeOver s then takeover s else enterIsolated St.parIsolated s
    else s) s

/-- R434: 1 s in JOINING without an answer of the partner on any path. -/
def joinTimeout (s : Dev) : Dev :=
  supervised (fun s =>
    if s.par.state = .joining ∧ !s.par.partnerHeard ∧ past s.par.since (ms 1000) s.now then
      if mayTakeOver s then takeover s else finishStartup (enterIsolated St.parJoinTimeout s)
    else s) s

/-- R439: heartbeats have run on a PAIR that is UP for 100 µs. -/
def pausedRestore (s : Dev) : Dev :=
  supervised (fun s =>
    let running : Bool := match s.par.heartbeatsSince with
      | some t => past t (us 100) s.now && !past s.par.pairHeartbeat (us 50) s.now
      | none => false
    if s.par.state = .paused ∧ (s.port portPair).state = .up ∧ running then
      let due := s.par.appendCopies
      let s := raiseDev St.parMirrorResumed (enterPaired { s with par.appendCopies := [] })
      forL due (fun m s => tell (.append m) s) s
    else s) s

/-- R436, R511: a write of 1 to force_takeover. -/
def forceTakeover (rq : Requester) (s : Dev) : Dev :=
  if !isOperator s rq then s
  else if s.par.state = .isolated then reply rq St.ok [] (takeover s)
  else reply rq St.parForceRefused [] s

/-- R443, R433: another device has taken over: its partner's packets go to it; an isolated device that is named as lost joins. -/
def takeoverHeard (lost survivor : Nat) (s : Dev) : Dev :=
  if lost = s.par.deviceId then (if s.par.state = .isolated then replaced s else s)
  else { s with par.reroute := mset s.par.reroute lost survivor }

/-- R383, R443: an EVENT of another device is raised here in turn. -/
def eventHeard (m : EventMsg) (s : Dev) : Dev :=
  let s := raise m.status m.tenant m.detail s
  match m.detail with
  | [lost, survivor] => if m.status = St.parTakeover then takeoverHeard lost survivor s else s
  | _ => s

/-! ## Commits (R423, R424, R426) -/

/-- R423: side A orders a proposal of side B, applies it and returns it. -/
def takeProposal (h : CommitHdr) (op : PairOp) (s : Dev) : Dev :=
  let r := wholly (applyPeer h op) s
  if r.status ≠ St.ok then emit (.commitDone h.tag r.status) r.state
  else
    let n := r.state.par.commitSeq + 1
    emit (.commit { h with seq := n, proposal := false } op) { r.state with par.commitSeq := n }

/-- R248, R518: side B's own change at a boundary has been ordered. -/
def scheduleOwn (w : CommitWait) (h : CommitHdr) (s : Dev) : Dev :=
  let ordered (x : CommitWait) : CommitWait := if x.tag = w.tag then { x with proposal := false } else x
  let s := { s with par.waits := s.par.waits.map ordered }
  let boundary := h.boundary.getD s.now
  match w.op with
  | .modelLoad d => scheduleModel { rq := w.rq, load := some d, unload := d.model, boundary, tag := some w.tag, peerTag := none } s
  | .modelUnload m => scheduleModel { rq := w.rq, load := none, unload := m, boundary, tag := some w.tag, peerTag := none } s
  | _ => s

/-- R423, R424: a change of side B's own comes back ordered: it is applied and answered. -/
def ownReturned (h : CommitHdr) (s : Dev) : Dev :=
  let s := { s with par.commitSeq := h.seq }
  match s.par.waits.find? fun w => decide (w.tag = h.tag) with
  | none => s
  | some w =>
    if w.applied then dropWait w s
    else if atBoundary w.op then scheduleOwn w h s
    else
      let r := wholly (applyOwn w.op w.reply) (dropWait w s)
      reply w.rq r.status r.fields r.state

/-- R423: side B applies a commit of side A, never one that its commit_seq has passed. DEDUCED: log entry 36. -/
def peerCommit (h : CommitHdr) (op : PairOp) (s : Dev) : Dev :=
  if !serialLt s.par.commitSeq h.seq then s
  else
    let r := wholly (applyPeer h op) s
    let s := { r.state with par.commitSeq := h.seq }
    if atBoundary op ∧ r.status = St.ok then s else emit (.commitDone h.tag r.status) s

/-- R423, R445, R559: a commit or proposal arrives. -/
def commitReceived (h : CommitHdr) (op : PairOp) (s : Dev) : Dev :=
  supervised (fun s =>
    let joining := decide (s.par.state = .joining) || (decide (s.par.state = .paired) && s.par.discarded)
    let live := decide (s.par.state = .paired) || decide (s.par.state = .paused) || decide (s.par.state = .suspect)
    if h.resync then (if joining then applyResync h op s else s)
    else if !live then s
    else if s.sideA then (if h.proposal then takeProposal h op s else s)
    else if h.proposal then s
    else if h.originB then ownReturned h s
    else peerCommit h op s) s

/-- R426: what the other side's refusal of a change undoes beside the records: a transaction begun, a removal, an array OFF. -/
def undoRefused (op : PairOp) (s : Dev) : Dev :=
  match op with
  | .txnBegin _ => dropTxn s
  | .nodeRemove slot => modNode slot (fun n => { n with state := .live }) s
  | .arrayClear => refuseEntry 103 St.pwrRefused 12 s
  | .txnCommit _ _ => dropTxn s
  | _ => s

/-- R424, R426: the other side has completed a commit, or refused it. DEDUCED: log entry 36. -/
def commitComplete (tag : Nat) (st : Status) (s : Dev) : Dev :=
  match s.par.waits.find? fun w => decide (w.tag = tag) with
  | none => s
  | some w =>
    if st = St.ok then
      if w.applied then liveNow w.op (finishWait w st s)
      else if atBoundary w.op then
        let answered (x : CommitWait) : CommitWait := if x.tag = tag then { x with answered := some st } else x
        { s with par.waits := s.par.waits.map answered }
      else s
    else if w.applied then undoRefused w.op (finishWait w st s)
    else if atBoundary w.op ∧ !w.proposal then
      let answered (x : CommitWait) : CommitWait := if x.tag = tag then { x with answered := some st } else x
      { s with par.waits := s.par.waits.map answered }
    else undoRefused w.op (finishWait w st s)

/-! ## Mirror copies (R428, R429) -/

/-- R428, R429: the copy of a datum as it travels. -/
def copyOp (s : Dev) : Datum → Option PairOp
  | .page p =>
    match mget s.kvs.pages p with
    | none => none
    | some pg =>
      match pg.owner with
      | some i =>
        (mget s.kvs.seqs i).map fun q => .pageCopy {
          handle := q.handle, layer := pg.layer, index := pg.index, toks := pg.toks
          length := q.length, maxLen := q.maxLen, tailKey := q.tailKey, lastFrame := q.lastFrame
          layerLens := (List.range q.layers).map (layerLen q)
          ring := q.ring
          log := q.log.map fun r => (r.2.key, r.2.tokens) }
      | none => (s.pfx.dir.find? fun n => decide (n.2.gen = pg.nodeGen)).map fun n => .nodePage n.1 pg.layer pg.toks
  | .block obj i =>
    (mget s.tir.objs obj).map fun o => .blockCopy obj i (memReadN s.mem (objVa obj (i * 1048576)) (blockBytes o i))
  | _ => none

/-- R423, R445: the commit that carries a copy. -/
def sendCopy (op : PairOp) (s : Dev) : Dev :=
  if s.par.state = .resync then emit (.commit (resyncHdr s) op) s
  else
    let tag := s.par.nextTag
    let s := { s with par.nextTag := tag + 1, par.commitSeq := if s.sideA then s.par.commitSeq + 1 else s.par.commitSeq }
    emit (.commit (commitHdr s tag (!s.sideA) none) op) s

/-- R429: the datum counts as mirrored. -/
def markMirrored (d : Datum) (s : Dev) : Dev :=
  match d with
  | .page p => modPage p (fun pg => { pg with mirrored := true }) s
  | .block obj i =>
    let s := modObj obj (fun o => { o with mirrored := o.mirrored.filter (fun x => !decide (x = i)) ++ [i] }) s
    match mget s.tir.objs obj with
    | none => s
    | some o =>
      if o.mirrored.length < blockCount o then s
      else
        let mine := s.par.sealWaits.filter fun w => decide (w.1 = obj)
        forL mine (fun w s => reply w.2 St.ok (objFields s obj) s)
          { s with par.sealWaits := s.par.sealWaits.filter fun w => !decide (w.1 = obj) }
  | _ => s

/-- R429, R439: a queued copy is committed on the partner. -/
def copyMirrored (d : Datum) (s : Dev) : Dev :=
  if (s.par.state = .paired ∨ s.par.state = .resync) ∧ s.par.copies.any (fun c => decide (c.1 = d)) then
    let s := match copyOp s d with
      | some op => sendCopy op s
      | none => s
    flushResync (markMirrored d { s with par.copies := s.par.copies.filter fun c => !decide (c.1 = d) })
  else s

/-! ## The end of a resync (R445) -/

/-- R445: the survivor gives the partner's ID back. DEDUCED: log entry 38. -/
def survivorDone (s : Dev) : Dev :=
  let pending (p : Nat) : Bool := s.par.copies.any fun c => decide (c.1 = .page p)
  let mark (e : Nat × Page) : Nat × Page :=
    if e.2.mirror = .m2 ∧ e.2.state = .sealed ∧ !pending e.1 then (e.1, { e.2 with mirrored := true }) else e
  let s := { s with
    kvs.pages := s.kvs.pages.map mark
    par.tookOver := false
    auv.lostEpoch := none
    auv.paths := mkeep s.auv.paths fun k _ => decide (k < 1024) }
  declareVariant (enterPaired s)

/-- R365, R445: the joining device draws a new epoch: every path set is opened anew. -/
def newEpoch (s : Dev) : Dev :=
  let (e, s) := drawEpoch s
  { s with auv.epoch := some e, auv.paths := mmap s.auv.paths fun p => { p with inited := false } }

/-- R445, R504: the joining device has everything; one whose partner runs another image stays JOINING. DEDUCED: log entry 38. -/
def joinerDone (s : Dev) : Dev :=
  if s.par.peerConfig.isSome ∧ s.par.peerConfig = s.cfg.image.map (·.configId) then
    raiseDev St.parRejoined (newEpoch (declareVariant (enterPaired { s with par.discarded := false })))
  else s

/-- R445: every chunk, copy and later commit is applied on the joining side. -/
def resyncComplete (s : Dev) : Dev :=
  supervised (fun s =>
    match s.par.state with
    | .resync => if s.par.copies = [] ∧ s.par.resyncOps = [] then survivorDone s else s
    | .joining => joinerDone s
    | .paired => { s with par.discarded := false }
    | _ => s) s

/-! ## The commands -/

/-- R433: the heartbeat timer. -/
def execHeartbeatTimer (t : Time) (s : State) : Host.Outcome State Fault Refusal := run (awake t sendHeartbeat) s

/-- R433: a heartbeat; `snap` is the snap_time of the checkpoint root that a joining partner recovered from (R446). -/
def execHeartbeat (t : Time) (port : Nat) (m : ProbeMsg) (snap : Option Time) (s : State) : Host.Outcome State Fault Refusal :=
  run (awake t (heartbeat port m snap)) s

/-- R433: a partner probe. -/
def execPartnerProbe (t : Time) (port : Nat) (m : ProbeMsg) (s : State) : Host.Outcome State Fault Refusal :=
  run (awake t (partnerProbe port m)) s

/-- R433: a partner reply. -/
def execPartnerReply (t : Time) (_ : Nat) (m : ProbeMsg) (s : State) : Host.Outcome State Fault Refusal :=
  run (awake t (partnerReply m)) s

/-- R433: a witness query. -/
def execWitnessQuery (t : Time) (port : Nat) (m : ProbeMsg) (s : State) : Host.Outcome State Fault Refusal :=
  run (awake t (witnessQuery port m)) s

/-- R434: a witness reply. -/
def execWitnessReply (t : Time) (_ : Nat) (m : ProbeMsg) (s : State) : Host.Outcome State Fault Refusal :=
  run (awake t (witnessReply m)) s

/-- R433: the partner probe is repeated. -/
def execPartnerProbeRepeat (t : Time) (s : State) : Host.Outcome State Fault Refusal := run (awake t repeatProbes) s

/-- R433: 50 µs of silence. -/
def execPairSilenceTimeout (t : Time) (s : State) : Host.Outcome State Fault Refusal := run (awake t pairSilence) s

/-- R434: 200 µs in SUSPECT. -/
def execPairLossTimeout (t : Time) (s : State) : Host.Outcome State Fault Refusal := run (awake t pairLoss) s

/-- R434: 1 s in JOINING. -/
def execJoinTimeout (t : Time) (s : State) : Host.Outcome State Fault Refusal := run (awake t joinTimeout) s

/-- R439: PAIR is back. -/
def execPausedRestore (t : Time) (s : State) : Host.Outcome State Fault Refusal := run (awake t pausedRestore) s

/-- R436: force_takeover. -/
def execForceTakeover (t : Time) (rq : Requester) (s : State) : Host.Outcome State Fault Refusal :=
  run (awake t (forceTakeover rq)) s

/-- R443: PAR_TAKEOVER of another pair. -/
def execParTakeoverReceived (t : Time) (lost survivor : Nat) (s : State) : Host.Outcome State Fault Refusal :=
  run (awake t (takeoverHeard lost survivor)) s

/-- R383: an EVENT of another device. -/
def execEventReceived (t : Time) (_ : Nat) (m : EventMsg) (s : State) : Host.Outcome State Fault Refusal :=
  run (awake t (eventHeard m)) s

/-- R423: a pair commit or proposal. -/
def execPairCommitReceived (t : Time) (h : CommitHdr) (op : PairOp) (s : State) : Host.Outcome State Fault Refusal :=
  run (awake t (commitReceived h op)) s

/-- R424: the completion of a pair commit. -/
def execPairCommitComplete (t : Time) (tag : Nat) (status : Status) (s : State) : Host.Outcome State Fault Refusal :=
  run (awake t (commitComplete tag status)) s

/-- R429: a mirror copy is committed. -/
def execMirrorCopyComplete (t : Time) (d : Datum) (s : State) : Host.Outcome State Fault Refusal :=
  run (awake t (copyMirrored d)) s

/-- R445: the end of a resync. -/
def execResyncComplete (t : Time) (s : State) : Host.Outcome State Fault Refusal := run (awake t resyncComplete) s

end Sys2Proof.Machine
end

