-- ==== Sys2Proof/Machine/Frame.lean ====
section
/-! DEFINITION. The frame boundary (R49 to R79, R601, R602): what changes there and in which order (R65), the activation of a
pending timetable, and the timetable-distribution channel. -/

namespace Sys2Proof.Machine

/-! ## Timetables and variants (R69 to R75) -/

/-- R75, R79: number of the frame that starts at `b`: one more than the last; at the start of service 0, or the count of the
fabric that was adopted. -/
def frameNumberAt (s : Dev) (b : Time) : Frame :=
  if s.tt.started then s.tt.frame + 1
  else
    match s.tt.adopted with
    | some (_, f, next) =>
      let units := (s.runsOf s.tt.set s.tt.profile).elim s.frameUnits (·.frameUnits)
      f + 1 + BitVec.ofNat 32 (elapsed next b / max 1 units)
    | none => 0

/-- R29, R71: the profile that a set is run in: the one that the configuration asks for, where the set has it. -/
def targetProfile (s : Dev) (set : List Timetable) : Profile :=
  if (s.runsOf set (profileOf s.profileCode)).isSome then profileOf s.profileCode else s.tt.profile

/-- R71, R73, R601, R401: the pending set is in force from its effective time on. DEDUCED: log entry 47. -/
def activatePending (p : PendingTt) (s : Dev) : Dev :=
  let had := s.tt.running.isNone || (s.fitting s.tt.set s.tt.profile).isSome
  let s := { s with
    tt.set := p.set
    tt.pending := none
    shp.lists := p.lists.foldl putList s.shp.lists }
  match s.runsOf p.set (targetProfile s p.set) with
  | some t => reviewVariant had p.effective (switchTo t p.effective s)
  | none => s

/-- R69, R70: a declared switch is due one frame after its declaration; without a fitting variant the last one runs on and service
is answered with IAT_VARIANT_ABSENT. -/
def variantBoundary (b : Time) (s : Dev) : Dev :=
  match s.fitting s.tt.set s.tt.profile, s.tt.running with
  | some t, some r =>
    let due := match s.tt.switchAt with
      | some at' => serialLe (at' + BitVec.ofNat 64 s.frameUnits) b
      | none => false
    let s := { s with tt.absentService := false }
    if t.variant = r.variant then { s with tt.switchAt := none }
    else if due then switchTo t b { s with tt.switchAt := none }
    else s
  | none, some _ => { s with tt.absentService := s.tt.absentService || s.tt.switchAt.all (fun at' => serialLt at' b) }
  | _, _ => s

/-! ## Batch positions (R64) -/

/-- R64: the changes accepted strictly before the boundary are in force. -/
def batchBoundary (b : Time) (s : Dev) : Dev :=
  let due := s.tt.batchChanges.filter fun c => serialLt c.since b
  let later := s.tt.batchChanges.filter fun c => !serialLt c.since b
  let batch := batchAfter { s with tt.batchChanges := due }
  { s with tt.batch := batch, tt.batchChanges := later }

/-! ## Slots that vanish (R63, R74) -/

/-- R63: the slot still stands in the frames to come. -/
def slotStands (s : Dev) (stream : Nat) (x : SlotRef) : Bool :=
  match s.frameNo x.frame with
  | some f => f.slots.any fun e => decide (e.slot = x.slot) && decide (e.stream = stream) && decide (slotStart f.start e = x.start)
  | none => false

/-- R63: a late notice for a request whose result slot has vanished, and other slots for what it was to be given later. -/
def removedSlot (b : Time) (id : Nat) (s : Dev) : Dev :=
  match mget s.att.reqs id with
  | none => s
  | some r =>
    if serialLt r.due.start b then s
    else if !slotStands s r.resStream r.due then
      let s := modReq id (fun r => { r with
        due := { r.due with start := b }
        named := none
        delays := r.delays ++ [{ cause := St.iatSlotRemoved, bound := b }] }) s
      answerLate id s
    else
      let s := match r.follow with
        | some x =>
          if r.inFollowup ∨ slotStands s r.resStream x then s
          else
            match s.freeSlot r.resStream (rowsDue { r with inFollowup := true }) r.due.start with
            | some f => modReq id (fun r => { r with follow := some { frame := f.1.frame, slot := f.2.slot, start := slotStart f.1.start f.2 } }) s
            | none => s
        | none => s
      match r.named with
      | some x => if slotStands s r.resStream x then s else nameSlot id s
      | none => s

/-- R63, R65: the late notices of a boundary at which a timetable or variant has taken over. DEDUCED: log entry 47. -/
def removedSlots (b : Time) (s : Dev) : Dev := forL (s.att.reqs.map (·.1)) (removedSlot b) s

/-! ## What else a boundary does -/

/-- R56, R59: what concerns frames that have passed is forgotten. -/
def forgetFrames (s : Dev) : Dev :=
  { s with
    tt.charges := s.tt.charges.filter fun c => serialLe (s.tt.frame - 1) c.frame
    tt.uses := s.tt.uses.filter fun u => serialLe s.tt.frame u.frame || mhas s.att.reqs u.request }

/-- R429: M1 page copies whose frame f + 2 begins. -/
def mirrorLag (s : Dev) : Dev :=
  let late (c : Datum × Frame) : Bool := decide (c.2 + 2 = s.tt.frame) && (match c.1 with
    | .page p => (mget s.kvs.pages p).any fun pg => decide (pg.mirror = .m1)
    | _ => false)
  let n := (s.par.copies.filter late).length
  if n = 0 ∨ s.par.state = .resync then s
  else
    let s := countBy Reg.parLagCount n { s with par.lagSet := true }
    match s.par.lagEvent with
    | some f => if (s.tt.frame - f).toNat < 1024 then s else raiseDev St.parMirrorLag { s with par.lagEvent := some s.tt.frame }
    | none => raiseDev St.parMirrorLag { s with par.lagEvent := some s.tt.frame }

/-- R503: the slot claims of the loaded models are checked again when a fabric's timetable was adopted outside a pair. -/
def adoptedClaims (s : Dev) : Dev :=
  if s.tt.adopted.isSome ∧ s.par.state ≠ .paired then recheckSlots s else s

/-! ## The boundary (R65) -/

/-- R49, R50: frame number, start and position of the frame that starts at `b`. -/
def advanceFrame (b : Time) (s : Dev) : Dev :=
  { s with
    tt.frame := frameNumberAt s b
    tt.frameStart := b
    tt.framePos := (s.tt.framePos + 1) % s.tt.running.elim 1 (fun t => max 1 t.cycleFrames)
    tt.started := true }

/-- R65: a frame starts at `b`: the switch of timetable or variant, commits, batch changes, late notices; then what else goes by
frames. -/
def startFrame (b : Time) (act : Option PendingTt) (s : Dev) : Dev :=
  let first := !s.tt.started
  let before := s.tt.running
  let s := advanceFrame b s
  let s := match act with
    | some p => activatePending p s
    | none => s
  let s := modelBoundary (txnBoundary b (variantBoundary b s))
  let s := batchBoundary b s
  let s := if s.tt.running = before then s else removedSlots b s
  let s := mirrorLag (forgetFrames s)
  let s := if first then finishStartup (adoptedClaims s) else s
  flashStep (ckptBoundary (flushResync s))

/-- R65, R74: the frame that runs has ended, or a pending timetable takes over at or before its end. DEDUCED: log entry 47. -/
def frameBoundary (s : Dev) : Dev :=
  match s.tt.pending with
  | some p =>
    if serialLe p.effective s.now && (!s.tt.started || serialLe p.effective s.nextBoundary) then startFrame p.effective (some p) s
    else if s.tt.started && serialLe s.nextBoundary s.now then startFrame s.nextBoundary none s
    else s
  | none => if s.tt.started && serialLe s.nextBoundary s.now then startFrame s.nextBoundary none s else s

/-- R73: the pending timetable's effective time has come. DEDUCED: log entry 47. -/
def timetableDue (s : Dev) : Dev :=
  match s.tt.pending with
  | some p => if serialLe p.effective s.now then startFrame p.effective (some p) s else s
  | none => s

/-! ## The distribution channel (R77 to R79) -/

/-- R67, R68, R72, R76, R78: the status with which a distributed set is refused. -/
def distributionFault (s : Dev) (set : List Timetable) (effective : Time) : Status :=
  if serialLt effective (s.now + BitVec.ofNat 64 s.frameUnits) then St.iatDistLate
  else if !ttSetOk set s.cfg.permitted then St.iatTtInvalid
  else if !s.onBoundary effective then St.iatBaseMisaligned
  else if !s.timeInHorizon effective then St.iatActivationHorizon
  else St.ok

/-- R78: a distributed set becomes the pending one, or is refused and reported to its sender. -/
def distributed (sender : Nat) (set : List Timetable) (effective : Time) (s : Dev) : Dev :=
  let st := distributionFault s set effective
  if st = St.ok then tell (.timetable set effective) (setPending set effective s)
  else
    let s := if st = St.iatDistLate then raiseDev st s else s
    let e : EventMsg := { status := st, tenant := deviceWide, device := s.par.deviceId, seq := 0, time := s.now, detail := [] }
    sendMsg (128 * sender) 0x0C 6 0 1 0 32 0 false [] (emit (.peerEvent sender e) s)

/-- R79: a device that has not started its timetabled service adopts a running fabric's. -/
def adoptRunning (id : BitVec 16) (frame : Frame) (next : Time) (s : Dev) : Dev :=
  if s.tt.started then s
  else
    let s := match s.tt.set.find? fun t => decide (t.id = id) with
      | some t => takeProfile t.profile { s with tt.profile := t.profile }
      | none => s
    let s := { s with tt.adopted := some (id, frame, next) }
    if s.cfg.phase = .run then startImageTimetable { s with tt.pending := none } else s

/-- R78, R79: what arrives on the timetable-distribution channel. DEDUCED: log entry 47. -/
def distribution (sender : Nat) (d : Distribution) (s : Dev) : Dev :=
  match d with
  | .activation set effective => if s.serving ∧ s.tt.started then distributed sender set effective s else s
  | .running id frame next => adoptRunning id frame next s

/-! ## The commands -/

/-- R65: a frame boundary. -/
def execFrameBoundary (t : Time) (s : State) : Host.Outcome State Fault Refusal := run (awake t frameBoundary) s

/-- R73: the effective time of the pending timetable. -/
def execTimetableActivate (t : Time) (s : State) : Host.Outcome State Fault Refusal := run (awake t timetableDue) s

/-- R78: a message on the timetable-distribution channel. -/
def execTimetableDistribution (t : Time) (sender : Nat) (d : Distribution) (s : State) : Host.Outcome State Fault Refusal :=
  run (awake t (distribution sender d)) s

end Sys2Proof.Machine
end

