-- ==== Sys2Proof/Machine/Ras.lean ====
section
/-! DEFINITION. Faults: DRAM reads, retired frames and lost channels (R545 to R552), the handshake of a crossing (R555), and the
supervision of the management cores (R558 to R560). -/

namespace Sys2Proof.Machine

/-! ## What a T1 address holds (R546) -/

/-- R546: what a T1 address holds. -/
inductive DramUse
  | datum (d : Datum)
  /-- A token-log piece of a sequence. -/
  | seqPart (i : Nat)
  /-- The page list of a node, by directory slot. -/
  | pageList (slot : Nat)
  /-- The block map of an object. -/
  | blockMap (obj : Nat)
  | seqRecord (i : Nat)
  | nodeRecord (slot : Nat)
  | objRecord (obj : Nat)
  | regionLine (region line : Nat)
  | channelContext (ch : Nat)
  | snapshotBuffer
  | other
  deriving DecidableEq, Repr

/-- The T1 home that covers an address. -/
def homeAt (s : Dev) (addr : Nat) : Option Nat :=
  (s.tir.t1Homes.find? fun e => decide (e.1 ≤ addr) && decide (addr < e.1 + e.2.1)).map (·.1)

/-- The page whose home is `h`. -/
def pageAt (s : Dev) (h : Home → Bool) : Option Nat := (s.kvs.pages.find? fun e => h e.2.home).map (·.1)

/-- The block of an object whose home is the T1 address `a`. -/
def blockAt (s : Dev) (a : Nat) : Option (Nat × Nat) :=
  s.tir.objs.findSome? fun o => (o.2.blocks.find? fun b => decide (b.2 = .t1 a)).map fun b => (o.1, b.1)

/-- The sequence structure that lies at the T1 address `a`. -/
def seqUseAt (s : Dev) (a : Nat) : Option DramUse :=
  s.kvs.seqs.findSome? fun e =>
    if e.2.ptExtent.isNone ∧ e.2.ptRoot = a then some (.datum (.tables e.1))
    else if e.2.pendingExtent.isNone ∧ e.2.pendingBase = a then some (.datum (.pendingArea e.1))
    else if e.2.logPieces.any fun x => decide (x.2 = a) then some (.seqPart e.1)
    else none

/-- What the home that begins at `a` holds. -/
def useOfHome (s : Dev) (a : Nat) : DramUse :=
  match pageAt s fun h => decide (h = .t1 a) with
  | some p => .datum (.page p)
  | none =>
    match blockAt s a with
    | some (o, i) => .datum (.block o i)
    | none =>
      match seqUseAt s a with
      | some u => u
      | none =>
        match s.pfx.dir.find? fun n => decide (n.2.plist = a) with
        | some n => .pageList n.1
        | none =>
          match s.tir.objs.find? fun o => decide (o.2.mapBase = a) with
          | some o => .blockMap o.1
          | none => .other

/-- R255: the fixed structures, whose places in T1 the manual leaves open. -/
def fixedUse (s : Dev) (addr : Nat) : Option DramUse :=
  let (k, b, c) := Config.fixedUse (addr / 64)
  match k with
  | 0 => none
  | 1 =>
    (pageAt s fun h => match h with
      | .staging q => decide (q ≤ b) && decide (b < q + (mgetD s.kvs.staging q (0, false)).1)
      | _ => false).map fun p => .datum (.page p)
  | 2 => some (.seqRecord b)
  | 3 => some (.nodeRecord b)
  | 4 => some (.objRecord b)
  | 5 => some (.regionLine b c)
  | 6 => some (.channelContext b)
  | 7 => some .snapshotBuffer
  | _ => some .other

/-- R546: what a T1 address holds; none for an address that holds nothing. -/
def dramUse (s : Dev) (addr : Nat) : Option DramUse :=
  match homeAt s addr with
  | some a => some (useOfHome s a)
  | none => fixedUse s addr

/-! ## The event of an uncorrectable read (R546) -/

/-- The directory slot of a shared page's node. -/
def nodeSlotOf (s : Dev) (p : Nat) : Nat := ((s.pfx.dir.find? fun n => n.2.pages.contains p).map (·.1)).getD 0xFFFFFFFF

/-- The tenant of a live sequence, of an object, of a region, of a channel. -/
def seqTenant (s : Dev) (i : Nat) : Nat := (mget s.kvs.seqs i).elim deviceWide (·.tenant)
def objTenant (s : Dev) (o : Nat) : Nat := (mget s.tir.objs o).elim deviceWide (·.tenant)

/-- R546: kind of datum, the index that names it, and its owner. -/
def ueDetail (s : Dev) : Option DramUse → Nat × Nat × Nat
  | none => (0, 0xFFFFFFFF, deviceWide)
  | some (.datum (.page p)) =>
    match mget s.kvs.pages p with
    | none => (0, 0xFFFFFFFF, deviceWide)
    | some pg =>
      match pg.owner with
      | some i => (1, i, pg.tenant)
      | none => (2, nodeSlotOf s p, deviceWide)
  | some (.datum (.block o _)) => (3, o, objTenant s o)
  | some (.datum (.pendingArea i)) | some (.datum (.tables i)) | some (.seqPart i) | some (.seqRecord i) => (1, i, seqTenant s i)
  | some (.pageList n) | some (.nodeRecord n) => (6, n, deviceWide)
  | some (.blockMap o) | some (.objRecord o) => (6, o, objTenant s o)
  | some (.regionLine r _) => (4, r, (mget s.cxl.regions r).elim deviceWide (·.tenant))
  | some (.channelContext c) => (5, c, (mget s.auv.chans c).elim deviceWide (·.tenant))
  | some .snapshotBuffer | some .other => (6, 0xFFFFFFFF, deviceWide)

/-! ## The outcome (R546) -/

/-- R546: a pair-state record is replaced from the partner while the pair is PAIRED or PAUSED; otherwise its item is lost. -/
def unlessPaired (f : Dev → Dev) (s : Dev) : Dev := if s.mirrored then s else f s

/-- R546: an object's record or block map is lost with the object. -/
def loseObject (o : Nat) (s : Dev) : Dev :=
  match mget s.tir.objs o with
  | none => s
  | some x =>
    if x.state = .deleting ∨ x.state = .lost then s
    else
      let s := { s with tir.objs := mset s.tir.objs o { x with state := .lost }, tir.objectLost := true }
      raise St.tirObjectLost x.tenant [o] (tell (.objLost o x.lostBlocks) s)

/-- R546, R388: a channel is closed as by CLOSE. DEDUCED: log entry 80. -/
def loseChannel (ch : Nat) (s : Dev) : Dev :=
  if mhas s.auv.chans ch then tell (.chanClose ch) (applyChanClose ch s).state else s

/-- R546: what becomes of the datum that an uncorrectable read touches. DEDUCED: log entry 81. -/
def ueOutcome (u : DramUse) (s : Dev) : Dev :=
  match u with
  | .datum d => uncorrectable d s
  | .seqPart i => loseTables i false s
  | .pageList n => unlessPaired (removeNode 1 n) s
  | .nodeRecord n => unlessPaired (removeNode 1 n) s
  | .blockMap o => unlessPaired (loseObject o) s
  | .objRecord o => unlessPaired (loseObject o) s
  | .seqRecord i => unlessPaired (loseTables i false) s
  | .regionLine r k => modRegion r (fun g => { g with poison := if g.poison.contains k then g.poison else g.poison ++ [k] }) s
  | .channelContext c =>
    match mget s.auv.chans c with
    | none => s
    | some x => if tenantMirror s x.tenant = .m0 then loseChannel c s else unlessPaired (loseChannel c) s
  | .snapshotBuffer =>
    if s.fls.ckpt.isSome then raiseDev St.flsCkptAbort { s with fls.ckpt := none, fls.ckptAbort := true } else s
  | .other => s

/-- R546: an uncorrectable DRAM read: counted, reported, and the datum takes its outcome. -/
def ueRead (addr : Nat) (s : Dev) : Dev :=
  let u := dramUse s addr
  let (kind, index, tenant) := ueDetail s u
  let s := count Reg.rasDramUeCount { s with ras.dramUe := true }
  let s := raise St.rasDramUncorrectable tenant [addr, kind, index] s
  match u with
  | some u => ueOutcome u s
  | none => s

/-! ## Retired frames (R545) -/

/-- R550: frame, stack and channel of a T1 address. -/
def frameOf (addr : Nat) : Nat := addr / 4096 % 2 ^ 26
def stackOf (frame : Nat) : Nat := frame % 8
def channelOf (frame : Nat) : Nat := frame / 8 % 32

/-- A channel's place in the list of lost channels. -/
def lostKey (frame : Nat) : Nat := 32 * stackOf frame + channelOf frame

/-- The data homed in a frame. -/
def frameData (s : Dev) (f : Nat) : List Datum :=
  (s.tir.t1Homes.filter fun e => decide (e.1 < 4096 * (f + 1)) && decide (4096 * f < e.1 + e.2.1)).filterMap fun e =>
    match useOfHome s e.1 with
    | .datum d => some d
    | _ => none

/-- R545, R263: a datum moves to a new T1 home; one that waits for its copy moves when that comes. DEDUCED: log entry 80. -/
def moveAway (d : Datum) (s : Dev) : Dev :=
  if s.tir.refetches.any fun r => decide (r.datum = d) then s
  else
    match t1Home d (poolsOf s d) (cancelMoves d s) with
    | some (h, s) => switchHome d h s
    | none => s

/-- R545: a frame is retired: its data move, and it leaves every allocator; a full table leaves it in service. DEDUCED: log entry 80. -/
def retireFrame (f : Nat) (s : Dev) : Dev :=
  if s.ras.retired.contains f then s
  else if 4096 ≤ s.ras.retired.length then raiseDev St.rasRetireTableFull s
  else
    let data := frameData s f
    let s := { s with ras.retired := s.ras.retired ++ [f] }
    raiseDev St.rasFrameRetired (forL data moveAway s)

/-! ## Lost channels (R551, R552) -/

/-- R552: every pool loses 1/256 of its size. DEDUCED: log entry 80. -/
def shrinkPools (s : Dev) : Dev :=
  let n := 256 - s.ras.lostChannels.length
  let cut (x : Nat) : Nat := x - x / (n + 1)
  { s with
    tir.stagingUnits := cut s.tir.stagingUnits
    tir.regionPool := cut s.tir.regionPool
    tir.weightPool := cut s.tir.weightPool
    tir.reservePool := cut s.tir.reservePool
    tir.coldPool := cut s.tir.coldPool
    tir.tablePool := cut s.tir.tablePool
    tir.plistPool := cut s.tir.plistPool }

/-- R552: the frames of a channel that hold something, by the address of their first byte. -/
def channelFrames (s : Dev) (stack ch : Nat) : List Nat :=
  let total := (if s.pwr.part = 1 then 192 else 96) * 262144
  (List.range (total / 256)).map fun k => 4096 * (256 * k + 8 * ch + stack)

/-- R552: a lost channel: its bit, its event, and an uncorrectable read of what each of its frames holds. -/
def loseFrames (stack ch : Nat) (s : Dev) : Dev :=
  forL (channelFrames s stack ch) (fun a s => if (dramUse s a).isSome then ueRead a s else s) s

/-- R552, R604: the requests in work may be delayed by the reduced bandwidth. -/
def delayAllWork (cause : Status) (s : Dev) : Dev :=
  forL (s.att.reqs.filter fun r => r.2.slices.any fun x => !x.done) (fun r s => delayed cause r.1 s) s

/-- R552: a channel is marked lost. -/
def markChannel (stack ch : Nat) (s : Dev) : Dev :=
  let s := shrinkPools { s with ras.lostChannels := s.ras.lostChannels ++ [32 * stack + ch], ras.channelLost := true }
  raise St.rasDramChannelLost deviceWide [stack, ch] s

/-- R551, R552: a DRAM channel is lost. -/
def channelLost (stack ch : Nat) (s : Dev) : Dev :=
  if s.ras.lostChannels.contains (32 * stack + ch) then s
  else delayAllWork St.rasDramChannelLost (loseFrames stack ch (markChannel stack ch s))

/-! ## Patrol of T1 (R545, R551) -/

/-- R545: a new scrub cycle begins every 24 hours. DEDUCED: log entry 80. -/
def scrubCycle (s : Dev) : Dev :=
  if past s.ras.scrubAt (ms 86400000) s.now then { s with ras.corrections := [], ras.scrubAt := s.now } else s

/-- R541: the source number of a corrected DRAM location, beside the one of R512. -/
def dramSource (addr : Nat) : Nat := 1 + addr / 64

/-- R545: a corrected location. DEDUCED: log entry 80. -/
def corrected (addr : Nat) (s : Dev) : Dev :=
  let k := addr / 64
  let n := mgetD s.ras.corrections k 0 + 1
  let s := count Reg.rasDramCeCount { s with ras.corrections := mset s.ras.corrections k n }
  let s := raiseLimited (dramSource addr) St.rasDramCorrected deviceWide [] s
  if n = s.ceRetire then retireFrame (frameOf addr) s else s

/-- R551: the frames of the same channel with uncorrectable errors within 1 s. -/
def recentFrames (s : Dev) (f : Nat) : List (Nat × Nat × Time) :=
  s.ras.recentUe.filter fun e => !past e.2.2 (ms 1000) s.now && !(decide (e.1 = lostKey f) && decide (e.2.1 = f))

/-- R545, R546, R551: an uncorrectable location: its datum's outcome, its frame retired, and the channel lost at the sixteenth
frame. -/
def uncorrected (addr : Nat) (s : Dev) : Dev :=
  let f := frameOf addr
  let s := retireFrame f (ueRead addr s)
  let s := { s with ras.recentUe := recentFrames s f ++ [(lostKey f, f, s.now)] }
  if 16 ≤ (s.ras.recentUe.filter fun e => decide (e.1 = lostKey f)).length then channelLost (stackOf f) (channelOf f) s else s

/-- R545: the Pouncer reads a 64-byte location of T1. -/
def dramPatrol (addr : Nat) (found : DramRead) (s : Dev) : Dev :=
  let s := scrubCycle s
  if s.ras.retired.contains (frameOf addr) || s.ras.lostChannels.contains (lostKey (frameOf addr)) then s
  else
    match found with
    | .clean => s
    | .corrected => corrected addr s
    | .uncorrectable => uncorrected addr s

/-! ## Supervision (R555, R558 to R560) -/

/-- R559: the device self-fences. -/
def selfFence (s : Dev) : Dev :=
  if s.ras.selfFenced then s else raiseDev St.rasSelfFence { s with ras.selfFenced := true }

/-- R558, R559: the management complex is reset. DEDUCED: log entry 81. -/
def mgmtReset (s : Dev) : Dev := selfFence (raiseDev St.rasMgmtReset { s with ras.mgmtReset := true, ras.running := [] })

/-- R558: a management core's watchdog has expired. DEDUCED: log entry 81. -/
def coreWatchdog (s : Dev) : Dev :=
  let recent := s.ras.resetTimes.filter fun t => !past t (ms 1000) s.now
  let s := { s with ras.coreResets := min 0xFFFF (s.ras.coreResets + 1), ras.resetTimes := recent ++ [s.now] }
  let s := raiseDev St.rasMgmtWatchdog s
  if 2 ≤ recent.length then mgmtReset s else s

/-- R555: a NAND island fails: every die of its channel. -/
def failChannelDies (c : Nat) (s : Dev) : Dev :=
  forN 16 (fun k s => if (mget s.fls.dies (16 * c + k)).any fun d => decide (d.state = .active) then dieFails (16 * c + k) s else s) s

/-- R555, R235: an attention core is fenced. -/
def failCore (p : Nat) (s : Dev) : Dev :=
  match mget s.att.pcores p with
  | none => s
  | some c =>
    if c.state = .active then fenceCore p c.lcore s
    else if c.state = .spare then
      match s.att.takeovers.find? fun t => decide (t.spare = p) with
      | some t => substitute t.lcore (fencePCore p { s with att.takeovers := s.att.takeovers.filter fun x => !decide (x.spare = p) })
      | none => fencePCore p s
    else s

/-- R555: the destination island of a crossing fails. -/
def failIsland (i : Island) (s : Dev) : Dev :=
  match i with
  | .core p => failCore p s
  | .link p => retrain p s
  | .dram st ch => channelLost st ch s
  | .nand c => failChannelDies c s
  | .mgmt => mgmtReset s

/-- R555: a crossing's watchdog expires: the first time the transfer is repeated, the second time its island fails. -/
def handshake (i : Island) (s : Dev) : Dev :=
  let s := count Reg.rasHandshakeCount s
  if s.ras.expired.contains i then
    let s := { s with ras.expired := s.ras.expired.filter fun x => !decide (x = i), ras.handshake := true }
    goOn (failIsland i (raiseDev St.rasHandshake s))
  else { s with ras.expired := s.ras.expired ++ [i] }

/-- R559: no liveness write has come for 40 µs. DEDUCED: log entry 81. -/
def livenessLost (s : Dev) : Dev :=
  if s.cfg.phase = .run ∧ past s.ras.lastLive (us 40) s.now then selfFence s else s

/-- R558, R560: a liveness write: the complex runs again, and the fence ends. DEDUCED: log entry 81. -/
def livenessWrite (core : Nat) (s : Dev) : Dev :=
  let running := if s.ras.running = [] then [0, 1, 2, 3] else if s.ras.running.contains core then s.ras.running else s.ras.running ++ [core]
  { s with ras.lastLive := s.now, ras.selfFenced := false, ras.running := running }

/-! ## Meanings -/

/-- DRAM_PATROL. -/
def execDramPatrol (t : Time) (addr : Nat) (found : DramRead) (s : State) : Host.Outcome State Fault Refusal :=
  run (awake t fun s => goOn (dramPatrol addr found s)) s

/-- HANDSHAKE_TIMEOUT. -/
def execHandshakeTimeout (t : Time) (island : Island) (s : State) : Host.Outcome State Fault Refusal :=
  run (awake t (handshake island)) s

/-- MGMT_WATCHDOG_TIMEOUT. -/
def execMgmtWatchdogTimeout (t : Time) (_ : Nat) (s : State) : Host.Outcome State Fault Refusal := run (awake t coreWatchdog) s

/-- LIVENESS_TIMEOUT. -/
def execLivenessTimeout (t : Time) (s : State) : Host.Outcome State Fault Refusal := run (awake t livenessLost) s

/-- LIVENESS_WRITE. -/
def execLivenessWrite (t : Time) (core : Nat) (s : State) : Host.Outcome State Fault Refusal := run (awake t (livenessWrite core)) s

end Sys2Proof.Machine
end

