-- ==== Sys2Proof/Machine/Spdm.lean ====
section
/-! DEFINITION. SPDM (R535 to R539): the connection state of each transport, the measurements, and the one signature at a time. -/

namespace Sys2Proof.Machine

/-! ## Measurements (R538) -/

/-- R66: class code of a slot entry. -/
def slotClassCode : SlotClass → Nat
  | .attend => 0 | .result => 1 | .wstream => 2 | .promote => 3 | .mirror => 4 | .transit => 5

/-- R66: the bytes of a slot entry. -/
def slotBytes (e : SlotEntry) : List Byte :=
  layoutBytes [(1, e.framePos), (1, e.slot), (2, e.startNs), (2, e.lengthNs), (1, slotClassCode e.cls), (1, e.port), (2, e.stream),
    (1, e.resultDframes), (1, e.resultSlot), (2, e.maxRows), (2, e.budgetQ)]

/-- R66: the bytes of a timetable: header and slot entries. -/
def timetableBytes (t : Timetable) : List Byte :=
  layoutBytes [(2, t.id.toNat), (1, t.variant.code), (1, t.profile.code), (2, t.frameLenQ), (2, t.cycleFrames),
    (8, t.baseTime.toNat), (4, t.slotCount), (1, t.maxAbsent), (1, t.slackPct), (2, t.distLead), (8, t.hyperId.toNat), (32, 0)]
    ++ t.slots.flatMap slotBytes

/-- A hash as a number, its first byte lowest. DESIGN CHOICE: log entry 43. -/
def hashOf (m : List Byte) : BitVec 256 := BitVec.ofNat 256 (ofLeBytes (sha256 m))

/-- R538: the five blocks, from one snapshot. -/
def measurements (s : Dev) : List (BitVec 256) :=
  [Config.romDigest,
   (match s.cfg.image with | some i => i.digest | none => Config.noMeasurement 2),
   (match s.cfg.image with | some i => i.microcode | none => Config.noMeasurement 3),
   (match s.tt.running with | some t => hashOf (timetableBytes t) | none => Config.noMeasurement 4),
   BitVec.ofNat 256 (s.cfg.image.elim 0 (fun i => cut i.secVersion 32) + 2 ^ 32 * cut s.cfg.floor 32)]

/-! ## Answers -/

/-- R535: a response is an ERROR. -/
def SpdmResp.isError : SpdmResp → Bool
  | .notReady _ | .errorUnspecified | .errorInvalid | .errorUnexpected => true
  | _ => false

/-- R535: a request is answered. -/
def spdmAnswer (tr : Nat) (r : SpdmResp) (s : Dev) : Dev :=
  let s := emit (.spdm tr r) (count Reg.secSpdmCount s)
  if r.isError then count Reg.secSpdmErrorCount s else s

/-- R536: stage of a transport's connection. -/
def spdmStage (s : Dev) (tr : Nat) : Nat := (mgetD s.sec.conns tr { stage := 0 }).stage

/-- The state with the stage of a transport's connection set. -/
def setStage (tr n : Nat) (s : Dev) : Dev := { s with sec.conns := mset s.sec.conns tr { stage := n } }

/-- R506, R536: an SPDM request meets a device whose management complex runs, in recovery too. PRESUMED: log entry 79. -/
def spdm (t : Time) (f : Dev → Dev) : Dev → Dev := awake t fun s =>
  if (s.cfg.phase = .run ∧ !s.ras.selfFenced) ∨ s.cfg.phase = .recovery then f s else s

/-- A request that needs a negotiated connection. PRESUMED: log entry 79. -/
def negotiated (tr : Nat) (f : Dev → Dev) (s : Dev) : Dev := if spdmStage s tr = 3 then f s else spdmAnswer tr .errorUnexpected s

/-- R526: the device has an identity: its copy in use. -/
def identityCopy (s : Dev) : Option IdentityCopy :=
  if s.sec.identity = .valid then (if s.sec.inUse then s.sec.copy1 else s.sec.copy0) else none

/-! ## Requests -/

/-- R535: GET_VERSION opens the connection anew. PRESUMED: log entry 79. -/
def spdmVersion (tr : Nat) (s : Dev) : Dev :=
  spdmAnswer tr .version (setStage tr 1 { s with sec.jobs := s.sec.jobs.filter fun j => !decide (j.transport = tr) })

/-- R535: GET_CAPABILITIES. -/
def spdmCapabilities (tr : Nat) (s : Dev) : Dev :=
  if spdmStage s tr = 1 ∨ spdmStage s tr = 2 then spdmAnswer tr .capabilities (setStage tr 2 s)
  else spdmAnswer tr .errorUnexpected s

/-- R535: NEGOTIATE_ALGORITHMS selects P-256 and SHA-256. -/
def spdmAlgorithms (tr : Nat) (p256 sha dmtf : Bool) (s : Dev) : Dev :=
  if spdmStage s tr < 2 then spdmAnswer tr .errorUnexpected s
  else if !p256 || !sha then spdmAnswer tr .errorInvalid s
  else spdmAnswer tr (.algorithms p256 sha dmtf) (setStage tr 3 s)

/-- R537: GET_DIGESTS. -/
def spdmDigests (tr : Nat) : Dev → Dev := negotiated tr fun s =>
  match identityCopy s with
  | some c => spdmAnswer tr (.digests c.chainDigest) s
  | none => spdmAnswer tr .errorUnspecified s

/-- R537: GET_CERTIFICATE of slot 0. -/
def spdmCertificate (tr slot off len : Nat) : Dev → Dev := negotiated tr fun s =>
  match identityCopy s with
  | none => spdmAnswer tr .errorUnspecified s
  | some c =>
    if slot ≠ 0 ∨ c.chain.length ≤ off then spdmAnswer tr .errorInvalid s
    else
      let portion := (c.chain.drop off).take len
      spdmAnswer tr (.certificate portion (c.chain.length - off - portion.length)) s

/-- R536: 4,096 µs, the CTExponent time, and 2 ms for each signature. -/
def ctTime : Time := us 4096

/-- R536: a request that needs a signature joins the engine's queue; one that cannot be answered in time is told so.
PRESUMED: log entry 79. -/
def signLater (tr : Nat) (req : SpdmSigned) (snap : List (BitVec 256)) (s : Dev) : Dev :=
  let ahead := (s.sec.jobs.filter fun j => !j.ready).length
  let job : SpdmJob := { transport := tr, req, snapshot := snap, since := s.now, token := none, ready := false }
  if ahead < 2 then { s with sec.jobs := s.sec.jobs ++ [job] }
  else
    let token := s.sec.nextToken % 256
    spdmAnswer tr (.notReady token)
      { s with sec.jobs := s.sec.jobs ++ [{ job with token := some token }], sec.nextToken := s.sec.nextToken + 1 }

/-- R537, R539: CHALLENGE. -/
def spdmChallenge (tr slot : Nat) (nonce : BitVec 256) (summary : Nat) : Dev → Dev := negotiated tr fun s =>
  if (identityCopy s).isNone then spdmAnswer tr .errorUnspecified s
  else if slot ≠ 0 then spdmAnswer tr .errorInvalid s
  else signLater tr (.challenge slot nonce summary) (if summary = 0 then [] else measurements s) s

/-- R538: the blocks that an index names: 0 their number, 0xFF all. -/
def blocksOf (index : Nat) (all : List (BitVec 256)) : Option (List (BitVec 256)) :=
  if index = 0 then some [5]
  else if index = 0xFF then some all
  else (all[index - 1]?).map fun b => [b]

/-- R537 to R539: GET_MEASUREMENTS. -/
def spdmMeasurements (tr index : Nat) (signed : Bool) (nonce : BitVec 256) : Dev → Dev := negotiated tr fun s =>
  match blocksOf index (measurements s) with
  | none => spdmAnswer tr .errorInvalid s
  | some b =>
    if !signed then spdmAnswer tr (.measurements b none) s
    else if (identityCopy s).isNone then spdmAnswer tr .errorUnspecified s
    else signLater tr (.measurements index nonce) b s

/-- R536: the signed response of a job. -/
def signedResp (s : Dev) (j : SpdmJob) (sig : BitVec 512) : SpdmResp :=
  match j.req with
  | .challenge _ _ _ => .challengeAuth ((identityCopy s).elim 0 (·.chainDigest)) j.snapshot sig
  | .measurements _ _ => .measurements j.snapshot (some sig)

/-- A job leaves the list. -/
def dropJob (j : SpdmJob) (s : Dev) : Dev := { s with sec.jobs := s.sec.jobs.erase j }

/-- R536: RESPOND_IF_READY. PRESUMED: log entry 79. -/
def spdmRespond (tr token : Nat) : Dev → Dev := negotiated tr fun s =>
  match s.sec.jobs.find? fun j => decide (j.transport = tr) && decide (j.token = some token) with
  | none => spdmAnswer tr .errorInvalid s
  | some j =>
    if !j.ready then spdmAnswer tr (.notReady token) s
    else
      let (k, s) := draw s
      spdmAnswer tr (signedResp s j (Config.signature k)) (dropJob j s)

/-- R536: the engine finishes the oldest signature: its response leaves, unless the requester has been told to come back. -/
def signatureDone (s : Dev) : Dev :=
  match s.sec.jobs.find? fun j => !j.ready with
  | none => s
  | some j =>
    if j.token.isSome then { s with sec.jobs := s.sec.jobs.map fun x => if x = j then { x with ready := true } else x }
    else if past j.since (ctTime + 1) s.now then
      let token := s.sec.nextToken % 256
      let late : SpdmJob := { j with token := some token, ready := true }
      spdmAnswer j.transport (.notReady token)
        { s with sec.jobs := s.sec.jobs.map (fun x => if x = j then late else x), sec.nextToken := s.sec.nextToken + 1 }
    else
      let (k, s) := draw s
      spdmAnswer j.transport (signedResp s j (Config.signature k)) (dropJob j s)

/-! ## Meanings -/

/-- GET_VERSION. -/
def execGetVersion (t : Time) (transport : Nat) (s : State) : Host.Outcome State Fault Refusal := run (spdm t (spdmVersion transport)) s

/-- GET_CAPABILITIES. -/
def execGetCapabilities (t : Time) (transport : Nat) (s : State) : Host.Outcome State Fault Refusal :=
  run (spdm t (spdmCapabilities transport)) s

/-- NEGOTIATE_ALGORITHMS. -/
def execNegotiateAlgorithms (t : Time) (transport : Nat) (p256 sha256 dmtf : Bool) (s : State) :
    Host.Outcome State Fault Refusal :=
  run (spdm t (spdmAlgorithms transport p256 sha256 dmtf)) s

/-- GET_DIGESTS. -/
def execGetDigests (t : Time) (transport : Nat) (s : State) : Host.Outcome State Fault Refusal := run (spdm t (spdmDigests transport)) s

/-- GET_CERTIFICATE. -/
def execGetCertificate (t : Time) (transport slot offset length : Nat) (s : State) : Host.Outcome State Fault Refusal :=
  run (spdm t (spdmCertificate transport slot offset length)) s

/-- CHALLENGE. -/
def execChallenge (t : Time) (transport slot : Nat) (nonce : BitVec 256) (summary : Nat) (s : State) :
    Host.Outcome State Fault Refusal :=
  run (spdm t (spdmChallenge transport slot nonce summary)) s

/-- GET_MEASUREMENTS. -/
def execGetMeasurements (t : Time) (transport index : Nat) (signed : Bool) (nonce : BitVec 256) (s : State) :
    Host.Outcome State Fault Refusal :=
  run (spdm t (spdmMeasurements transport index signed nonce)) s

/-- RESPOND_IF_READY. -/
def execRespondIfReady (t : Time) (transport token : Nat) (s : State) : Host.Outcome State Fault Refusal :=
  run (spdm t (spdmRespond transport token)) s

/-- SPDM_SIGNATURE_COMPLETE. -/
def execSpdmSignatureComplete (t : Time) (s : State) : Host.Outcome State Fault Refusal := run (spdm t signatureDone) s

end Sys2Proof.Machine
end

