-- ==== Sys2Proof/Machine/Startup.lean ====
section
/-! DEFINITION. Start-up (R489 to R506): the steps with their limits, the choice of a bank, the image's tables, T1 and its cores,
NAND discovery, and the recovery of the directory (R334 to R338). -/

namespace Sys2Proof.Machine

/-! ## Recovery and bank failure (R502, R506) -/

/-- R506: the device enters recovery; its Auvas ports train no more. -/
def enterRecovery (s : Dev) : Dev :=
  raiseDev St.cfgRecovery { s with cfg.phase := .recovery, cfg.step := 0, cfg.stepAt := s.now, auv.ports := [] }

/-- R502: a recovery cause. -/
def recoverFrom (cause : Status) (s : Dev) : Dev := enterRecovery (raiseDev cause s)

/-- R502: a bank fails: start-up goes back to step 2 without it, or to recovery when no bank is left. DEDUCED: log entry 28. -/
def bankFails (b : Bool) (s : Dev) : Dev :=
  let s := { s with cfg.excluded := s.cfg.excluded ++ [b] }
  if s.cfg.excluded.contains !b then enterRecovery s
  else
    raiseDev St.cfgBankFallback { s with
      cfg.fallback := true
      cfg.phase := .verify
      cfg.step := 2
      cfg.stepAt := s.now
      auv.ports := [] }

/-- The next step begins. -/
def toStep (p : Phase) (n : Nat) (s : Dev) : Dev := { s with cfg.phase := p, cfg.step := n, cfg.stepAt := s.now }

/-! ## Step 1: self-test and identity (R525, R526, R531) -/

/-- R531: the identity copy that the device uses (true is copy 1). -/
def pickCopy (s : Dev) : Option Bool :=
  let ok (c : Option IdentityCopy) : Bool := c.any fun c => c.formatOk && c.chainOk
  match s.sec.copy0, s.sec.copy1 with
  | some a, some b =>
    if ok (some a) && ok (some b) then some (serialLt a.storeSeq b.storeSeq)
    else if ok (some a) then some false
    else if ok (some b) then some true
    else none
  | some a, none => if ok (some a) then some false else none
  | none, some b => if ok (some b) then some true else none
  | none, none => none

/-- A copy of the identity store. -/
def Sec.copyAt (x : Sec) (one : Bool) : Option IdentityCopy := if one then x.copy1 else x.copy0

/-- R531: only the older of the two copies is valid. -/
def olderCopy (s : Dev) (one : Bool) : Bool :=
  match s.sec.copyAt one, s.sec.copyAt !one with
  | some a, some b => serialLt a.storeSeq b.storeSeq
  | _, _ => false

/-- R526, R531: the identity; `derived` is the SHA-256 of the public key that the security engine derived. -/
def takeIdentity (derived : BitVec 256) (s : Dev) : Dev :=
  match pickCopy s with
  | none => raiseDev St.secNoIdentity s
  | some one =>
    match s.sec.copyAt one with
    | none => s
    | some c =>
      let s := if olderCopy s one then raiseDev St.secStoreFallback { s with sec.fallback := true } else s
      let s := { s with sec.inUse := one, sec.signers := c.signers, sec.pubHash := c.pubHash, sec.storeSeq := c.storeSeq }
      if derived = c.pubHash then { s with sec.identity := .valid }
      else raiseDev St.secIdentityMismatch { s with sec.identity := .mismatch }

/-- R365: the device draws its epoch. -/
def firstEpoch (s : Dev) : Dev :=
  let (e, s) := drawEpoch s
  { s with auv.epoch := some e }

/-- R502: step 1 fails: once more after an internal reset, then the device halts. -/
def romFails (s : Dev) : Dev :=
  if s.cfg.romFailed then raiseDev St.cfgRomFail { s with cfg.phase := .halted, cfg.step := 0 }
  else
    let s := internalReset s
    { s with cfg.romFailed := true }

/-- R502, R526, R554: step 1 ends; with RCV_STRAP high the device goes to recovery. -/
def romDone (pass : Bool) (derived : BitVec 256) (s : Dev) : Dev :=
  if s.cfg.phase ≠ .boot then s
  else if !pass then romFails s
  else
    let s := firstEpoch (takeIdentity derived { s with ras.running := [0, 1, 2, 3] })
    if s.pwr.straps.rcv then enterRecovery s else toStep .verify 2 s

/-! ## Step 2: the bank (R492 to R494) -/

/-- R491, R527, R530: the signature of a bank verifies. -/
def signedOk (s : Dev) (i : Image) : Bool :=
  i.sigOk && (if i.signer = 0 then s.sec.signers.contains i.signerId
    else decide (i.signer = 1) && decide (s.sec.identity = .valid) && decide (i.signerId = keyId s.sec.pubHash))

/-- R492: a bank is valid. -/
def bankValid (s : Dev) (b : Option Image) : Bool :=
  b.any fun i => i.magicOk && decide (4096 ≤ i.bodyLen) && decide (i.bodyLen ≤ 50331648) && i.crcOk && signedOk s i
    && decide (i.secFloor ≤ i.secVersion)

/-- The image of a bank (true is B). -/
def bankAt (s : Dev) (b : Bool) : Option Image := if b then s.cfg.bankB else s.cfg.bankA

/-- R493: the valid banks that are not excluded. DEDUCED: log entry 28. -/
def goodBanks (s : Dev) : List (Bool × Image) :=
  ([false, true].filter fun b => !s.cfg.excluded.contains b && bankValid s (bankAt s b)).filterMap fun b =>
    (bankAt s b).map fun i => (b, i)

/-- R493: the floor among those banks. DEDUCED: log entry 28. -/
def floorOf (l : List (Bool × Image)) : Nat := l.foldl (fun f b => max f b.2.secFloor) 0

/-- R493: the bank that boots; none where no bank can. DEDUCED: log entry 28. -/
def selectBank (s : Dev) : Option (Bool × Image) :=
  let good := goodBanks s
  match good.filter fun b => decide (floorOf good ≤ b.2.secVersion) with
  | [] => none
  | [b] => some b
  | a :: b :: _ => if serialLt a.2.seq b.2.seq then some b else some a

/-- R530: a signer-0 bank whose signer_id names no certificate. -/
def unknownSigner (s : Dev) (b : Option Image) : Bool := b.any fun i => decide (i.signer = 0) && !s.sec.signers.contains i.signerId

/-- R492, R530: the banks are checked: what each contributes, and the events of refused ones. -/
def checkBanks (s : Dev) : Dev :=
  let s := { s with cfg.validA := bankValid s s.cfg.bankA, cfg.validB := bankValid s s.cfg.bankB }
  let s := { s with cfg.floor := deviceFloor s }
  let look := [false, true].filter fun b => !s.cfg.excluded.contains b
  let s := forL (look.filter fun b => unknownSigner s (bankAt s b)) (fun _ s => raiseDev St.secSignerUnknown s) s
  let good := goodBanks s
  forL (good.filter fun b => decide (b.2.secVersion < floorOf good)) (fun _ s => raiseDev St.cfgSecurityVersion s) s

/-- R498, R510: the registers that hold a field whose reset is img beside those with RWL fields. DEDUCED: log entry 32. -/
def imgOnly : List Nat := [Reg.iatStatus, Reg.iatTtActive, Reg.flsDieGeometry, Reg.parConfig, Reg.parStatus]

/-- R498: the registers that section 0x0E holds. DEDUCED: log entry 32. -/
def imgRegs : List Nat := (rwlFields.flatMap fun f => (List.range f.count).map fun k => f.first + k) ++ imgOnly

/-- R498: the register values of an image as a map; fields that are not RWL are left out where the register has RWL fields.
DEDUCED: log entry 32. -/
def imageRegs (l : List (BitVec 16 × BitVec 64)) : Map (BitVec 64) :=
  l.foldl (fun m e =>
    let v := if rwlMask e.1.toNat = 0 then e.2 else e.2 &&& rwlMask e.1.toNat
    mset m e.1.toNat v) []

/-- R498: section 0x0E holds every register it has to, with every field in range. DEDUCED: log entry 32. -/
def registersOk (l : List (BitVec 16 × BitVec 64)) : Bool :=
  let m := imageRegs l
  imgRegs.all (fun r => mhas m r) && m.all (fun e => (fieldFault e.1 (rwlMask e.1) e.2).isNone) && (combinedFault m).isNone

/-- R352, R418: the position section: the device lies in its torus, and its partner differs from it in bit 0 alone. DEDUCED: log entry 32. -/
def positionOk (b : ImageBody) : Bool :=
  decide (1 ≤ b.posX) && decide (b.posX ≤ 16) && decide (1 ≤ b.posY) && decide (b.posY ≤ 16) && decide (b.deviceId < 512)
    && decide (deviceX b.deviceId < b.posX) && decide (deviceY b.deviceId < b.posY)
    && decide (bitsOf (mgetD (imageRegs b.registers) Reg.parStatus 0) 28 20 = b.deviceId ^^^ 1)

/-- R575: the power policy names 106 domains and only states that they offer. -/
def powerOk (b : ImageBody) : Bool :=
  decide (b.powerCount = 106) && decide (b.powerStart.length = 106)
    && (List.range 106).all fun d => match b.powerStart.getD d 0 with
      | 0 => true
      | 1 => !onOnly d
      | 2 => offersOff d
      | _ => false

/-- Every element of a list occurs once. -/
def allDistinct (l : List Nat) : Bool := decide (l.eraseDups.length = l.length)

/-- R498: the checks of the image's sections that need no hardware. -/
def sectionsHold (b : ImageBody) : Bool :=
  b.sectionsOk && b.permitted.getLsbD b.startProfile.code && decide (b.part ≤ 2) && decide (1 ≤ b.minDies) && decide (b.minDies ≤ 16)
    && decide (b.models.length ≤ 256)
    && allDistinct (b.tenants.map (·.tenant)) && b.tenants.all (fun r => tenantRecOk r.tenant r)
    && allDistinct (b.scopes.map (·.index)) && b.scopes.all scopeRecOk
    && allDistinct (b.streams.map (·.stream)) && b.streams.all (streamRecOk b.timetables)
    && streamsCovered b.timetables (fun x => b.streams.any fun r => decide (r.stream = x))
    && ttSetOk b.timetables b.permitted && b.gateLists.all (fun g => (listFault b.timetables g).isNone)
    && b.policers.all policerRecOk && powerOk b && positionOk b && registersOk b.registers

/-! ## What the image gives (R498 to R501) -/

/-- R498: the records of the image are in force. -/
def loadRecords (b : ImageBody) (s : Dev) : Dev :=
  { s with
    cfg.permitted := b.permitted
    cfg.tenants := b.tenants.foldl (fun m r => mset m r.tenant r) []
    pfx.scopes := b.scopes.foldl (fun m r => mset m r.index (scopeOf r)) []
    tir.deadlines := b.streams.foldl (fun m r => mset m r.stream (deadlineRecOf r)) []
    shp.policers := b.policers.foldl (fun m r => mset m r.index (policerOf s.now 0 r)) []
    shp.lists := b.gateLists
    tt.set := b.timetables
    tt.profile := b.startProfile
    fls.spareBlocks := b.spareBlocks
    par.deviceId := b.deviceId
    par.dimX := b.posX
    par.dimY := b.posY
    par.partnerId := b.deviceId ^^^ 1
    regs := imageRegs b.registers }

/-- R502 step 6: every port whose start state is not OFF begins to train. -/
def trainPorts (s : Dev) : Dev := forN 13 (fun p s => if startStateOf s (87 + p) = 2 then s else tryTrain p s) s

/-! ## Step 3: T1 and the cores (R13, R16, R255, R499, R548, R551) -/

/-- R255: the division of T1; every lost channel takes its part of each pool. -/
def divideT1 (p : PoolSizes) (s : Dev) : Dev :=
  let lost := s.ras.lostChannels
  let s := { s with
    tir.stagingUnits := 256 * p.staging
    tir.regionPool := 1048576 * p.region
    tir.weightPool := 1048576 * p.weight
    tir.reservePool := 1048576 * p.reserve
    tir.tablePool := 1048576 * p.table
    tir.plistPool := 1048576 * p.plist
    tir.coldPool := coldRemainder s.pwr.part p
    ras.lostChannels := [] }
  forL lost (fun c s => shrinkPools { s with ras.lostChannels := s.ras.lostChannels ++ [c] }) s

/-- R255, R499, R502: the pool and part checks, which a fallback repeats. DEDUCED: log entry 28. -/
def poolAndPart (s : Dev) : Dev :=
  match s.cfg.image with
  | none => s
  | some i =>
    if i.body.part ≠ 0 ∧ i.body.part ≠ s.pwr.part then bankFails s.cfg.bootBank s
    else if !poolsOk s.pwr.part i.body.pools then bankFails s.cfg.bootBank (raiseDev St.cfgImageInvalid s)
    else
      let s := divideT1 i.body.pools s
      toStep .nand 4 { s with pwr.nandWpLow := false, ras.scrubAt := s.now }

/-- R16, R548: the logical cores of the two halves, as logical index and physical core. -/
def assignCores (healthy : List Nat) : List (Nat × Nat) :=
  let h := (List.range 68).filter fun p => healthy.contains p
  let east := h.filter pcoreEast
  let west := h.filter fun p => !pcoreEast p
  let fill (own other : List Nat) : List Nat := own.take 32 ++ (other.drop 32).take (32 - (own.take 32).length)
  ((List.range 32).zip (fill east west)) ++ ((List.range 32).map (· + 32)).zip (fill west east)

/-- R16, R237, R575: one physical core: ACTIVE, SPARE and in RET, or FAILED and OFF. -/
def placeCore (healthy : List Nat) (assigned : List (Nat × Nat)) (p : Nat) (s : Dev) : Dev :=
  let put (st : CoreState) (l : Nat) (s : Dev) : Dev :=
    { s with att.pcores := mset s.att.pcores p { state := st, lcore := l, mismatches := 0, lastMismatch := none } }
  match assigned.find? fun e => decide (e.2 = p) with
  | some (l, _) => put .active l { s with att.lmap := mset s.att.lmap l p }
  | none =>
    if healthy.contains p then put .spare 0 (modDomain (2 + p) (fun d => { d with state := .ret, target := 1 }) s)
    else put .failed 0 (modDomain (2 + p) (fun d => { d with state := .off, target := 2 }) s)

/-- R16, R548, R549: the cores are assigned; an index without one is absent. -/
def placeCores (healthy : List Nat) (s : Dev) : Dev :=
  let assigned := assignCores healthy
  let s := forN 68 (placeCore healthy assigned) s
  forL ((List.range 64).filter fun l => !mhas s.att.lmap l) (fun l s => raise St.rasCoreAbsent deviceWide [l] s) s

/-- R551, R502: step 3 ends. `lost` lists the channels that did not train, as stack × 32 + channel. -/
def dramDone (part : Nat) (lost healthy : List Nat) (s : Dev) : Dev :=
  if s.cfg.phase ≠ .train then s
  else if (List.range 8).any (fun k => (List.range 32).all fun c => lost.contains (32 * k + c)) then recoverFrom St.cfgDramTrain s
  else
    let bad := (List.range 256).filter fun k => lost.contains k
    let s := forL bad (fun k s => markChannel (k / 32) (k % 32) s) { s with pwr.part := part }
    poolAndPart (placeCores healthy s)

/-! ## The end of step 2 -/

/-- R495, R502, R504: the chosen bank boots. -/
def bootImage (b : Bool) (img : Image) (s : Dev) : Dev :=
  let s := loadRecords img.body (toStep .train 3 { s with cfg.image := some img, cfg.bootBank := b, cfg.wp := true })
  let s := trainPorts (clockForProfile (bindLds (takeProfile img.body.startProfile s)))
  if s.pwr.part = 0 then s else poolAndPart s

/-- R489, R494, R502, R561: step 2 ends: the discovery of the NVM and the verdicts of the two cores on the chosen bank. -/
def verifyDone (nvmFound v1 v2 : Bool) (s : Dev) : Dev :=
  if s.cfg.phase ≠ .verify then s
  else if !nvmFound then enterRecovery s
  else
    let s := checkBanks s
    match selectBank s with
    | none => enterRecovery s
    | some (b, img) =>
      if v1 ≠ v2 then bankFails b (raise St.rasVerifyDisagree deviceWide [b.toNat] s)
      else if !v1 then bankFails b s
      else if !sectionsHold img.body then bankFails b (raiseDev St.cfgImageInvalid s)
      else bootImage b img s

/-- R502: step 2's limit passes. DEDUCED: log entry 29. -/
def verifyTimeout (s : Dev) : Dev :=
  match selectBank s with
  | none => enterRecovery s
  | some (b, _) => bankFails b s

/-! ## Step 4: the dies (R306 to R310) -/

/-- R307: the device accepts a die. -/
def dieOk (s : Dev) (d : DieFound) : Bool :=
  let p := d.params
  decide (p.dataBytes = 16384) && decide (2048 ≤ p.spareBytes)
    && (decide (p.planes = 1) || decide (p.planes = 2) || decide (p.planes = 4))
    && decide (64 ≤ p.pagesPerBlock * p.planes) && decide (p.pagesPerBlock * p.planes ≤ 17476)
    && decide (s.fls.spareBlocks + 2 ≤ p.blocksPerPlane) && decide (p.blocksPerPlane ≤ 65535) && p.suspend

/-- Number of a die: channel × 16 + slot. -/
def dieNumber (d : DieFound) : Nat := 16 * d.channel + d.slot

/-- R308: the fitted count: the most slots, from 0 on, at which every channel has an accepted die. -/
def fittedCount (accepted : List Nat) : Nat :=
  ((List.range 16).takeWhile fun k => (List.range 64).all fun c => accepted.contains (16 * c + k)).length

/-- R330, R308: the factory's bad block sets of a die are replaced by spares that are not bad themselves. DEDUCED: log entry 31. -/
def factorySpare (d : DieFound) (block : Nat) (s : Dev) : Dev :=
  let n := s.fls.blocksPerPlane - s.fls.spareBlocks
  let die := dieNumber d
  let free (p : Nat) : Option Nat :=
    let used := mgetD s.fls.sparesUsed (4 * die + p) 0
    leastFrom (fun k => !d.bad.contains (p, n + k)) used (s.fls.spareBlocks - used)
  let picks := (List.range s.fls.planes).map free
  if picks.all Option.isSome then
    forN s.fls.planes (fun p s =>
      let k := (free p).getD 0
      { s with
        fls.remap := mset s.fls.remap (remapKey die p block) (k + 1)
        fls.sparesUsed := mset s.fls.sparesUsed (4 * die + p) (k + 1) }) s
  else
    let g := groupOfDie die
    modBand (bandKey g block) (fun b => { b with state := .retired }) s

/-- R308: a first start: the factory's marking of every block of the fitted dies. DEDUCED: log entry 31. -/
def factoryMarks (dies : List DieFound) (s : Dev) : Dev :=
  forL dies (fun d s =>
    forL ((d.bad.filter fun x => decide (x.1 < s.fls.planes) && decide (x.2 < bandsPerGroup s)).map (·.2)).eraseDups
      (factorySpare d) s) s

/-- R330: spares in use, as the remap table shows them. -/
def sparesOf (remap : Map Nat) : Map Nat :=
  remap.foldl (fun m e =>
    let k := 4 * (e.1 / 262144) + e.1 / 65536 % 4
    mset m k (max e.2 (mgetD m k 0))) []

/-- R308: the remap table of the newest checkpoint, or of the factory. DEDUCED: log entry 31. -/
def loadRemap (dies : List DieFound) (s : Dev) : Dev :=
  match s.fls.roots.head? with
  | some r => { s with fls.remap := r.tables.remap, fls.sparesUsed := sparesOf r.tables.remap }
  | none => factoryMarks dies s

/-- R307: the event of the dies that were refused. -/
def tellRefused (l : List Nat) (s : Dev) : Dev :=
  match l with
  | [] => s
  | d :: _ => raise St.flsDieUnsupported deviceWide [l.length, d / 16, d % 16] s

/-- R502, R306 to R308: step 4 ends. DEDUCED: log entry 31. -/
def discoveryDone (found : List DieFound) (s : Dev) : Dev :=
  if s.cfg.phase ≠ .nand then s
  else
    let numbers (l : List DieFound) : List Nat := (List.range 1024).filter fun k => l.any fun d => decide (dieNumber d = k)
    let good := found.filter (dieOk s)
    let accepted := numbers good
    let refused := numbers (found.filter fun d => !dieOk s d)
    let n := fittedCount accepted
    let fresh : Map Die := accepted.map fun k => (k, { state := .active, timeouts := 0 })
    let s := tellRefused refused { s with fls.refused := refused, fls.dies := fresh, fls.diesPerChannel := n, fls.groups := 4 * n }
    match (good.find? fun d => decide (dieNumber d = 0)), n with
    | some d, k + 1 =>
      let s := { s with
        fls.planes := d.params.planes
        fls.blocksPerPlane := d.params.blocksPerPlane
        fls.pagesPerBlock := d.params.pagesPerBlock
        fls.tReadMaxNs := d.params.tReadMaxNs
        fls.dieRetryLevels := d.params.retryLevels }
      let s := if accepted.any fun x => decide (k + 1 ≤ x % 16) then raiseDev St.flsGeometry s else s
      let s := if s.cfg.image.any fun i => decide (k + 1 < i.body.minDies) then raiseDev St.flsGeometry s else s
      toStep .restore 5 (loadRemap (good.filter fun d => decide (d.slot ≤ k)) s)
    | _, _ => recoverFrom St.cfgNoFlash s

/-! ## Step 5: the directory (R337, R338) -/

/-- An address that no T1 home has: what lay in T1 is gone. -/
def nowhere : Nat := 2 ^ 38

/-- R338: a sequence as recovery leaves it: PARKED as it was, LOST otherwise. What lay in T1 of a lost one is gone. DEDUCED: log entry 30. -/
def restoredSeq (q : Seq) : Seq :=
  if q.state = .parked then
    { q with seat := none, ptRoot := nowhere, pendingBase := nowhere, ptNext := [], logPieces := [], held := [], evictedFor := none }
  else
    { q with
      state := .lost, seat := none, ptRoot := nowhere, pendingBase := nowhere, ptExtent := none, ptSet := [], ptNext := []
      pendingExtent := none, openTable := [], ring := [], blockCount := [], log := [], logPieces := [], l3 := [], held := []
      evictedFor := none, length := q.cold.length, sharedTokens := q.cold.sharedTokens, tailKey := q.cold.tailKey
      lastFrame := q.cold.lastFrame }

/-- The page's home at the snapshot lay in T2. -/
def pageInT2 (x : Snapshot) (p : Nat) : Bool := (mget x.pages p).any fun pg => !pg.home.inT1

/-- R338: the nodes that stay, LIVE and without an entry in the array; their counts are made anew. -/
def restoredNodes (x : Snapshot) : Map Node :=
  mmap (mkeep x.nodes fun _ n => decide (n.pages.length = n.layers) && n.pages.all (pageInT2 x))
    fun n => { n with state := .live, inArray := false, refCount := 0, children := 0 }

/-- The pages that the restored sequences name, once for every entry. -/
def namedPages (seqs : Map Seq) : List Nat := seqs.flatMap fun e => e.2.l3.map fun l => l.2.page

/-- R338: the pages that something restored names, with their references counted anew. One without a T2 home has no home left. -/
def restoredPages (x : Snapshot) (seqs : Map Seq) (nodes : Map Node) : Map Page :=
  let named := namedPages seqs
  let refs (p : Nat) : Nat :=
    (nodes.filter fun n => n.2.pages.contains p).length + (named.filter fun k => decide (k = p)).length
  let stays := mkeep x.pages fun p pg => !decide (pg.state = .retiring) && decide (0 < refs p)
  stays.map fun e =>
    let pg := e.2
    (e.1, { pg with
      refs := if pg.owner.isSome then 1 else refs e.1
      mirrored := false
      home := if pg.home.inT1 then .t2 { unit := 0, len4k := 0, codec := 0 } else pg.home })

/-- R303, R338: the lost-page table after recovery: what it held of the pages that stay, and the pages whose home is gone. -/
def restoredLost (x : Snapshot) (pages : Map Page) : List (BitVec 64) :=
  let keys := pages.map fun e => lossKey e.2
  let gone := (pages.filter fun e => !pageInT2 x e.1).map fun e => lossKey e.2
  ((x.lost.filter fun k => keys.contains k) ++ gone).eraseDups

/-- R338: an object: SEALED with every block in T2 it stays, otherwise it is LOST. -/
def restoredObj (o : Obj) : Obj :=
  let here := mkeep o.blocks fun _ h => !h.inT1
  let whole := decide (o.state = .sealed) && decide (o.blocks.length = blockCount o) && decide (here.length = o.blocks.length)
  if whole then { o with readers := 0, mirrored := [] }
  else { o with state := .lost, readers := 0, mirrored := [], lostBlocks := o.blocks.length - here.length, blocks := here }

/-- R338, R330: a band: an OPEN one is closed; an erase starts again; rows that were being programmed hold nothing. DEDUCED: log entry 30. -/
def restoredBand (s : Dev) (b : Band) : Band :=
  let still := { b with extents := b.extents.filter (·.good), goodRows := bandRows s }
  match b.state with
  | .opened => { still with state := .closed, summaryUnit := bandUnits s - summaryUnits b.extents.length, writePoint := bandUnits s }
  | .erasing => { b with eraseLeft := List.range 16 }
  | _ => still

/-- R337: the band of an area with the roots that it holds, in the order they were written. -/
def areaWith (roots : List Root) (west : Bool) : Band :=
  let sizes := ((roots.filter fun r => r.area == west).reverse).map fun r => ceilDiv (36 + 8 * r.ptrs.length) 4096
  sizes.foldl (fun b n =>
    let x : BandExt := { first := b.writePoint, len := n, kind := .checkpoint, owner := none, good := true }
    let next := 60 * ceilDiv (b.writePoint + n) 60
    { b with writePoint := next, goodRows := next / 60, extents := b.extents ++ [x] }) Band.fresh

/-- R334: the sequence number after the greatest of the bands. DESIGN CHOICE: log entry 63. -/
def seqAfter (bands : Map Band) : BitVec 32 :=
  bands.foldl (fun n e => if serialLt n (e.2.seq + 1) then e.2.seq + 1 else n) 0

/-- R338: the tables of the chosen root are in force. DEDUCED: log entry 30. -/
def restoreTables (all : List Root) (x : Snapshot) (s : Dev) : Dev :=
  let seqs := mmap x.seqs restoredSeq
  let nodes := restoredNodes x
  let pages := restoredPages x seqs nodes
  let bands := mmap (mkeep x.bands fun k _ => !isRootArea (k / 4096) (k % 4096)) (restoredBand s)
  let bands := mset (mset bands (areaBand false) (areaWith all false)) (areaBand true) (areaWith all true)
  let lists := mkeep x.plists fun base _ => nodes.any (fun n => decide (n.2.plist = base))
    || x.plists.any fun l => decide (l.1 = base) && pages.any fun e => e.2.owner.isNone && l.2.2.contains e.2.plEntry
  let lost := (restoredLost x pages).take 65536
  let live (l : BitVec 32 × List Nat) : BitVec 32 × List Nat :=
    (l.1, l.2.filter fun a => pages.any fun e => e.2.owner.isNone && decide (e.2.plEntry = a))
  { s with
    kvs.seqs := seqs
    kvs.gens := x.gens
    kvs.freeNext := 0
    kvs.freeSkip := seqs.map (·.1)
    kvs.freeQueue := []
    kvs.pages := pages
    kvs.nextPage := x.pages.foldl (fun n e => max n (e.1 + 1)) 0
    pfx.dir := nodes
    pfx.nodeGen := nodes.foldl (fun g n => if g.toNat < n.2.gen.toNat then n.2.gen else g) 0
    pfx.plists := mmap lists live
    tir.objs := mmap x.objs restoredObj
    tir.lostPages := lost
    tir.lostUnlisted := (pages.filter fun e => !pageInT2 x e.1 && !lost.contains (lossKey e.2)).map (·.1)
    fls.bands := bands
    fls.nextSeq := seqAfter x.bands
    fls.remap := x.remap
    fls.sparesUsed := sparesOf x.remap
    par.ownerB := x.ownerB
    par.objOwnerB := x.objOwnerB
    mem := x.bytes.foldl (fun m e => memWrite m e.1 e.2) s.mem }

/-- R96, R140, R288: the T1 space of the page lists and block maps. DEDUCED: log entry 30. -/
def placeTables (s : Dev) : Dev :=
  let s := forL s.pfx.dir (fun e s =>
    { s with tir.t1Homes := mset s.tir.t1Homes e.2.plist (plistBytes e.2.layers, 260) }) s
  forL s.tir.objs (fun e s =>
    let (base, s) := t1Take 258 (8 * blockCount e.2) s
    modObj e.1 (fun o => { o with mapBase := base }) s) s

/-- R142, R338: the counts of the nodes: children among the nodes, references of the restored sequences. -/
def recountNodes (s : Dev) : Dev :=
  let s := forL s.pfx.dir (fun e s =>
    if e.2.depth = 1 then s
    else
      match dirProbe s e.2.parent with
      | some (p, _) => modNode p (fun n => { n with children := n.children + 1 }) s
      | none => s) s
  forL s.kvs.seqs (fun e s =>
    match attachedAt s e.2 with
    | some slot => modNode slot (fun n => { n with refCount := n.refCount + 1 }) s
    | none => s) s

/-- R338: the units of the last 16 rows that an OPEN band's write point had reached. -/
def rereadUnit (x : Snapshot) (u : Nat) : Bool :=
  (mget x.bands (bandOfUnit u)).any fun b =>
    let w := ceilDiv b.writePoint 60
    decide (b.state = .opened) && decide (w - 16 ≤ unitInBand u / 60) && decide (unitInBand u / 60 < w)

/-- R316: the data whose home covers a log address. -/
def dataAt (s : Dev) (u : Nat) : List Datum :=
  (s.band (bandOfUnit u)).extents.filterMap fun x =>
    if x.first ≤ unitInBand u ∧ unitInBand u < x.first + x.len then
      x.owner.bind fun d => if namesUnit s d (logAddress (bandOfUnit u) x.first) then some d else none
    else none

/-- R338: the uncorrectable units among those read again are lost. -/
def loseUnits (x : Snapshot) (units : List Nat) (s : Dev) : Dev :=
  forL ((units.filter (rereadUnit x)).flatMap (dataAt s)).eraseDups loseDatum s

/-- R338: sequences and objects that are LOST, and nodes, by number. -/
def lostCount (seqs : Map Seq) (objs : Map Obj) : Nat :=
  (seqs.filter fun e => decide (e.2.state = .lost)).length + (objs.filter fun e => decide (e.2.state = .lost)).length

/-- R338: what recovery set LOST or removed. DEDUCED: log entry 31. -/
def recoveryLoss (x : Snapshot) (s : Dev) : Nat :=
  (lostCount s.kvs.seqs s.tir.objs - lostCount x.seqs x.objs) + (x.nodes.length - s.pfx.dir.length)

/-- R330: the erases that power loss cut short begin again. -/
def eraseAgain (s : Dev) : Dev :=
  forL (s.fls.bands.filter fun e => decide (e.2.state = .erasing)) (fun e s => emit (.flashErase (e.1 / 4096) (e.1 % 4096)) s) s

/-- The roots from the one with number `seq` on, newest first. -/
def rootsFrom (seq : BitVec 32) : List Root → List Root
  | [] => []
  | r :: rest => if r.seq = seq then r :: rest else rootsFrom seq rest

/-- R337: the root with the serially highest number among those that `readable` lists. -/
def chosenRoot (roots : List Root) (readable : List (BitVec 32)) : Option Root :=
  firstBy (fun a b => serialLt b.seq a.seq) (roots.filter fun r => readable.contains r.seq)

/-- R337, R338: the directory is recovered from the chosen root, or starts empty. -/
def recoverDirectory (readable : List (BitVec 32)) (lostUnits : List Nat) (s : Dev) : Dev :=
  let all := s.fls.roots
  match chosenRoot all readable with
  | none => raiseDev St.flsCkptLost { s with fls.ckptLost := true, fls.roots := [] }
  | some r =>
    let older := all.any fun x => serialLt r.seq x.seq
    let s := if older then raiseDev St.flsCkptFallback { s with fls.ckptFallback := true } else s
    let x := r.tables
    let s := restoreTables all x { s with fls.roots := rootsFrom r.seq all }
    let s := eraseAgain (loseUnits x lostUnits (recountNodes (placeTables s)))
    raise St.flsRecoveryLoss deviceWide [recoveryLoss x s] s

/-- R503: the image's models, against the NORMAL timetable of the start profile. -/
def loadModels (s : Dev) : Dev :=
  match s.cfg.image with
  | none => s
  | some i => loadImageModels ((pickTt i.body.timetables i.body.startProfile .normal).elim [] (·.slots)) i.body.models s

/-- R502 step 7: the time to lock begins; a device that is LOCKED already goes on at once. -/
def toSync (s : Dev) : Dev :=
  let s := toStep .sync 7 { s with sync.since := if s.sync.state = .acquire then s.now else s.sync.since, fls.ckptAt := s.now }
  if s.sync.state = .locked then enterRun s else s

/-- R502, R338, R503: step 5 ends. `readable` lists the roots whose chunks all read; `lostUnits` the units that recovery could not
read. -/
def recoveryDone (readable : List (BitVec 32)) (lostUnits : List Nat) (s : Dev) : Dev :=
  if s.cfg.phase ≠ .restore then s else toSync (loadModels (recoverDirectory readable lostUnits s))

/-! ## The limits (R502, R557) -/

/-- R502: the limit of a step, in ms. -/
def stepLimit : Nat → Nat
  | 1 => 50
  | 2 => 400
  | 3 => 300
  | 4 => 500
  | 5 => 5000
  | 6 => 200
  | 7 => 1000
  | _ => 0

/-- R502: the step is in progress and its limit has passed; step 6 runs while a port trains. DEDUCED: log entry 29. -/
def stepDue (step : Nat) (s : Dev) : Bool :=
  if step = 6 then
    decide (3 ≤ s.cfg.step) && s.auv.ports.any fun p =>
      decide (p.2.state = .training) && past p.2.trainedAt (ms (stepLimit 6)) s.now
  else decide (1 ≤ step) && decide (step ≤ 7) && decide (s.cfg.step = step) && past s.cfg.stepAt (ms (stepLimit step)) s.now

/-- R43, R502: 1 s has passed since the end of step 5. DEDUCED: log entry 29. -/
def lockTimeout (s : Dev) : Dev :=
  if s.sync.state = .acquire ∧ s.sync.starting then acquireTimeout s
  else enterRun (raiseDev St.iatLockTimeout (raise St.cfgStepTimeout deviceWide [7] s))

/-- R502: a step's limit has passed. Step 4 goes on with the dies that have answered, which NAND_DISCOVERY_DONE lists.
DEDUCED: log entry 29. -/
def stepTimeout (step : Nat) (s : Dev) : Dev :=
  if !stepDue step s then s
  else if step = 7 then lockTimeout s
  else
    let s := raise St.cfgStepTimeout deviceWide [step] s
    match step with
    | 1 => romFails s
    | 2 => verifyTimeout s
    | 3 => recoverFrom St.cfgDramTrain s
    | 5 => recoveryDone [] [] s
    | _ => s

/-! ## Meanings -/

/-- ROM_SELFTEST_DONE. -/
def execRomSelftestDone (t : Time) (pass : Bool) (derived : BitVec 256) (s : State) : Host.Outcome State Fault Refusal :=
  run (awake t (romDone pass derived)) s

/-- BANK_VERIFY_DONE. -/
def execBankVerifyDone (t : Time) (nvmFound verdict1 verdict2 : Bool) (s : State) : Host.Outcome State Fault Refusal :=
  run (awake t (verifyDone nvmFound verdict1 verdict2)) s

/-- DRAM_TRAINING_DONE. -/
def execDramTrainingDone (t : Time) (part : Nat) (lostChannels healthyCores : List Nat) (s : State) :
    Host.Outcome State Fault Refusal :=
  run (awake t (dramDone part lostChannels healthyCores)) s

/-- NAND_DISCOVERY_DONE. -/
def execNandDiscoveryDone (t : Time) (found : List DieFound) (s : State) : Host.Outcome State Fault Refusal :=
  run (awake t (discoveryDone found)) s

/-- DIRECTORY_RECOVERY_DONE. -/
def execDirectoryRecoveryDone (t : Time) (readable : List (BitVec 32)) (lostUnits : List Nat) (s : State) :
    Host.Outcome State Fault Refusal :=
  run (awake t (recoveryDone readable lostUnits)) s

/-- STARTUP_STEP_TIMEOUT. -/
def execStartupStepTimeout (t : Time) (step : Nat) (s : State) : Host.Outcome State Fault Refusal :=
  run (awake t (stepTimeout step)) s

end Sys2Proof.Machine
end

