-- ==== Sys2Proof/Machine/Transport.lean ====
section
/-! DEFINITION. The transport (R353 to R377): path sets and selective repeat, the receive checks of a packet, reassembly, contexts
that are fetched, RNR, and what arrives for the device's own messages. -/

namespace Sys2Proof.Machine

/-! ## Opcodes (R356) -/

/-- R356: the opcodes. -/
def opcodeKnown (o : Nat) : Bool := (decide (1 ≤ o) && decide (o ≤ 0x0D)) || (decide (0x20 ≤ o) && decide (o ≤ 0x24))

/-- R356: the opcode is sequenced. -/
def sequenced (o : Nat) : Bool := (decide (1 ≤ o) && decide (o ≤ 0x0C)) || decide (o = 0x21) || decide (o = 0x22)

/-- R355, R357 step 1: header CRC, reserved fields, length and fragment fields. -/
def headerWhole (k : Packet) : Bool :=
  k.headerOk && decide (k.fragIndex < 4096) && decide (k.fragCount ≤ 4096)
    && (if k.fragCount = 0 then decide (k.length = 4096) else decide (k.length ≤ 4096) && decide (k.fragCount = k.fragIndex + 1))

/-- R355: the header of the message that a packet belongs to. -/
def hdrOf (port : Nat) (k : Packet) : MsgHdr :=
  { src := k.src, dst := k.dst, port, tc := k.tc, cmplReq := k.cmplReq, tenant := k.tenant, channel := k.channel, csn := k.csn,
    msgId := k.msgId }

/-! ## The sender's side (R360 to R366) -/

/-- R448: the first hops of a path set, up or not. -/
def routesOf (s : Dev) (peer : Nat) : List Nat :=
  if 512 ≤ peer then [peer - 512] else minimalHops s (s.standIn peer)

/-- R365, R366, R385: a message ends at this device as its sender: one of its own is reported, one that it relays for a partner is
answered with a CMPL. -/
def failMessage (k : Packet) (st : Status) (s : Dev) : Dev :=
  if endpointDevice k.src = s.par.deviceId ∧ 64 ≤ endpointNumber k.src then complete (hdrOf (peerOf s k.src - 512) k) st 0 s
  else emit (.report (endpointDevice k.dst) st) s

/-- Two packets belong to one message. -/
def sameMessage (a b : Packet) : Bool := decide (a.src = b.src) && decide (a.dst = b.dst) && decide (a.msgId = b.msgId)

/-- One packet of each message. -/
def onePerMessage : List Packet → List Packet
  | [] => []
  | k :: rest => k :: (onePerMessage rest).filter fun x => !sameMessage k x

/-- The messages of a path set that `p` picks by one of their packets end with a status; their packets are dropped. -/
def failMessages (peer : Nat) (st : Status) (p : Packet → Bool) (s : Dev) : Dev :=
  let ps := s.path peer
  let hit := onePerMessage ((ps.unacked.map (·.packet)).filter p)
  let gone (k : Packet) : Bool := hit.any (sameMessage k)
  let s := modPath peer (fun ps => { ps with
    unacked := ps.unacked.filter fun u => !gone u.packet
    waiting := ps.waiting.filter fun k => !gone k
    rnrWaits := ps.rnrWaits.filter fun w => !gone w.packet }) s
  forL hit (fun k s => failMessage k st s) s

/-- R387: the head of a subscription's queue has been delivered; room may bring AUV_EVENT_LOST. DEDUCED: log entry 84. -/
def eventDelivered (k : Packet) (s : Dev) : Dev :=
  let mine (u : Subscription) : Bool := decide (u.dst = k.dst) && decide (u.channel = k.channel) && decide (u.tenant = k.tenant)
  match s.auv.subs.find? mine with
  | none => s
  | some u =>
    let u' := { u with queue := u.queue.filter fun e => !decide (e.seq = k.msgId) }
    let lost : EventMsg := { status := St.auvEventLost, tenant := deviceWide, device := s.par.deviceId, seq := u.seq.toNat,
                             time := s.now, detail := [u.lost] }
    let owed := decide (0 < u.lost) && decide (u'.queue.length < 64)
    let u'' := if owed then { u' with queue := u'.queue ++ [lost], seq := u'.seq + 1, lost := 0 } else u'
    let swap (x : Subscription) : Subscription := if mine x then u'' else x
    let s := { s with auv.subs := s.auv.subs.map swap }
    if owed then sendMsg u.dst 0x0C 6 u.tenant u.channel u.seq.toNat 32 0 false [] s else s

/-- R360, R364: packets acknowledged: they leave the link buffers, and their last paths have no strike any more. -/
def release (peer : Nat) (acked : Packet → Bool) (s : Dev) : Dev :=
  let ps := s.path peer
  let hit := ps.unacked.filter fun u => acked u.packet
  let s := modPath peer (fun ps => { ps with
    unacked := ps.unacked.filter fun u => !acked u.packet
    strikes := hit.foldl (fun m u => mdel m u.path) ps.strikes }) s
  let s := forL (hit.filter fun u => decide (u.packet.opcode = 0x0C)) (fun u s => eventDelivered u.packet s) s
  releaseWaiting peer ((s.path peer).waiting.length) s

/-- R365: the receiver has lost this device's epoch: every message under way ends, and psn starts anew. -/
def peerReset (peer : Nat) (s : Dev) : Dev :=
  let owed := (s.path peer).awaiting
  let asked (k : Packet) : Bool := owed.any fun a => decide (a = (k.dst, k.msgId))
  let sent := (s.path peer).unacked.map (·.packet)
  let s := failMessages peer St.auvPeerReset (fun _ => true) s
  let left := owed.filter fun a => !(sent.any fun k => decide (a = (k.dst, k.msgId)))
  let s := forL left (fun a s => emit (.report (endpointDevice a.1) St.auvPeerReset) s) s
  let s := modPath peer (fun ps => { ps with
    awaiting := []
    inited := false
    nextPsn := 0
    waiting := ps.waiting.filter fun k => !asked k }) s
  let s := initPath peer s
  releaseWaiting peer ((s.path peer).waiting.length) s

/-- R361, R362, R365: an ACK. DEDUCED: log entry 70. -/
def ackArrives (peer : Nat) (m : AckMsg) (s : Dev) : Dev :=
  if m.reinit then peerReset peer s
  else
    release peer (fun k => (serialLe k.psn m.cum && decide (k.psn ≠ m.cum)) || m.sacked.contains k.psn) s

/-- R364: the device that a path set's failed path is probed towards, on the path's port. -/
def probePath (peer path : Nat) (s : Dev) : Dev := sendProbe path (peerDevice s peer) (probeMsg s 0 0 false) s

/-- R364: a path has failed; where every path has, the messages under way cannot be delivered. -/
def pathFails (peer path : Nat) (s : Dev) : Dev :=
  let s := modPath peer (fun ps => { ps with failed := if ps.failed.contains path then ps.failed else ps.failed ++ [path] }) s
  let s := probePath peer path (raiseDev St.auvPathFailed s)
  if (routesOf s peer).all fun p => (s.path peer).failed.contains p then
    raiseDev St.auvUnreachable (failMessages peer St.auvUnreachable (fun _ => true) s)
  else s

/-- R363: the live path that comes after `path` in path_id order, or the only one. -/
def nextPath (s : Dev) (peer path : Nat) : Option Nat :=
  let live := sortBy (fun a b => decide (a ≤ b)) (peerHops s peer)
  match live.find? fun p => decide (path < p) with
  | some p => some p
  | none => live.head?

/-- R567, R573, R576: a path set without a live path has traffic: its ports wake, and far ends that sleep are woken. -/
def wakeRoutes (peer : Nat) (s : Dev) : Dev :=
  forL (routesOf s peer) (fun p s =>
    if (s.domain (87 + p)).state ≠ .on then needDomain (87 + p) s
    else if (s.port p).slept ∧ (s.port p).state = .down then trainPort p (emit (.wakeSet p) s)
    else s) s

/-- R363: retransmission time-out in fabric-time units. -/
def rto (s : Dev) : Time := ns (100 * s.rtoQ)

/-- R363: the packet is sent again on the next live path. -/
def resend (peer : Nat) (u : Unacked) (s : Dev) : Dev :=
  let hop := nextPath s peer u.path
  let k := { u.packet with resend := true, pathId := hop.getD 255 }
  let again (x : Unacked) : Unacked :=
    if x.packet.psn = u.packet.psn then { packet := k, path := hop.getD 255, sentAt := s.now } else x
  let s := count Reg.auvRetxCount (modPath peer (fun ps => { ps with unacked := ps.unacked.map again }) s)
  match hop with
  | some p => enqueue p k.tc k s
  | none => wakeRoutes peer s

/-- R363, R364: the timer of a path set expires for a packet. -/
def retransmit (peer : Nat) (psn : BitVec 24) (s : Dev) : Dev :=
  match (s.path peer).unacked.find? fun u => decide (u.packet.psn = psn) with
  | none => s
  | some u =>
    if !past u.sentAt (rto s) s.now then s
    else
      let n := mgetD (s.path peer).strikes u.path 0 + 1
      let s := modPath peer (fun ps => { ps with strikes := mset ps.strikes u.path n }) s
      let s := if 16 ≤ n ∧ !(s.path peer).failed.contains u.path then pathFails peer u.path s else s
      match (s.path peer).unacked.find? fun x => decide (x.packet.psn = psn) with
      | some x => resend peer x s
      | none => s

/-- R364: a failed path is probed. -/
def probeFailed (peer path : Nat) (s : Dev) : Dev := if (s.path peer).failed.contains path then probePath peer path s else s

/-- R432: a path PROBE is answered on the port on which it came; one with init opens the sender's epoch (R365) by the row of its
own. -/
def answerProbe (port : Nat) (m : ProbeMsg) (s : Dev) : Dev :=
  if m.kind = 0 then sendProbe port m.device (probeMsg s 1 0 false) s else s

/-- R364: a PROBE on a failed path is answered: the path is restored. -/
def pathRestored (peer path : Nat) (m : ProbeMsg) (s : Dev) : Dev :=
  if m.kind = 1 ∧ (s.path peer).failed.contains path then
    let s := modPath peer (fun ps => { ps with failed := ps.failed.erase path, strikes := mdel ps.strikes path }) s
    let s := raiseDev St.auvPathRestored s
    releaseWaiting peer ((s.path peer).waiting.length) s
  else s

/-! ## RNR at the sender (R377) -/

/-- R377: an RNR: the psn is acknowledged, the fragment waits; the 64th ends the message. -/
def rnrArrives (peer : Nat) (m : RnrMsg) (s : Dev) : Dev :=
  match (s.path peer).unacked.find? fun u => decide (u.packet.psn = m.psn) && decide (u.packet.msgId = m.msgId) with
  | none => s
  | some u =>
    let n := mgetD (s.path peer).rnrCounts m.msgId 0 + 1
    if 64 ≤ n then
      failMessages peer St.auvRnrLimit (sameMessage u.packet)
        (modPath peer (fun ps => { ps with rnrCounts := mdel ps.rnrCounts m.msgId }) s)
    else
      let w : RnrWait := { packet := u.packet, notBefore := s.now + ns m.retryAfterNs }
      let s := modPath peer (fun ps => { ps with
        unacked := ps.unacked.filter fun x => !decide (x.packet.psn = m.psn)
        rnrWaits := ps.rnrWaits ++ [w]
        rnrCounts := mset ps.rnrCounts m.msgId n }) s
      releaseWaiting peer ((s.path peer).waiting.length) s

/-- R356, R377: the packet as it is sent again: RESULT and WSTREAM data in TC4. -/
def againAfterRnr (k : Packet) : Packet := if k.opcode = 0x05 ∨ k.opcode = 0x0A then { k with tc := 4 } else k

/-- R377: retry_after has elapsed: the fragment, or the whole READ, is sent again with a new psn. -/
def rnrRetry (peer msgId frag : Nat) (s : Dev) : Dev :=
  let due (w : RnrWait) : Bool := decide (w.packet.msgId = msgId) && (decide (w.packet.fragIndex = frag) || decide (frag = 0xFFFF))
    && serialLe w.notBefore s.now
  match (s.path peer).rnrWaits.find? due with
  | none => s
  | some w => sendPacket peer (againAfterRnr w.packet) (modPath peer (fun ps => { ps with rnrWaits := ps.rnrWaits.erase w }) s)

/-! ## The receiver's side (R361, R362, R365) -/

/-- R361: an ACK leaves. -/
def sendAck (peer : Nat) (reinit : Bool) (s : Dev) : Dev :=
  let ps := s.path peer
  let m : AckMsg := { cum := ps.cum, epoch := ps.peerEpoch.getD 0, reinit, sacked := ps.accepted }
  let s := modPath peer (fun ps => { ps with unackedRx := 0, ackSince := none }) (emit (.ackOut peer m) s)
  let dev := if 1024 ≤ peer then peer - 1024 else peer
  match peerHop s 6 dev with
  | some p => sendControl p 0x20 (128 * peerDevice s dev) s
  | none => s

/-- R362: cum moves past what has been accepted. -/
def advanceCum (cum : BitVec 24) (acc : List (BitVec 24)) : Nat → BitVec 24 × List (BitVec 24)
  | 0 => (cum, acc)
  | n + 1 => if acc.contains cum then advanceCum (cum + 1) (acc.erase cum) n else (cum, acc)

/-- R362: a psn counts as accepted. -/
def notePsn (peer : Nat) (psn : BitVec 24) (s : Dev) : Dev :=
  modPath peer (fun ps =>
    let r := advanceCum ps.cum (ps.accepted ++ [psn]) (ps.accepted.length + 1)
    { ps with cum := r.1, accepted := r.2 }) s

/-- R361, R362: a sequenced packet has been accepted; the fourth since the last ACK brings one. -/
def acceptPsn (peer : Nat) (psn : BitVec 24) (s : Dev) : Dev :=
  let s := modPath peer (fun ps => { ps with
    unackedRx := ps.unackedRx + 1
    ackSince := some (ps.ackSince.getD s.now) }) (notePsn peer psn s)
  if 4 ≤ (s.path peer).unackedRx then sendAck peer false s else s

/-- R361: 1 µs after the first acceptance that no ACK has covered. -/
def ackDelay (peer : Nat) (s : Dev) : Dev :=
  match (s.path peer).ackSince with
  | some t => if past t (us 1) s.now then sendAck peer false s else s
  | none => s

/-- R362, R365: what the epoch and psn of a packet say. -/
inductive PsnCheck
  | fresh | duplicate | beyond | reinit
  deriving DecidableEq, Repr

/-- R357 step 4: epoch and psn. DEDUCED: log entry 70. -/
def checkPsn (s : Dev) (peer : Nat) (k : Packet) : PsnCheck :=
  let ps := s.path peer
  if ps.peerEpoch ≠ some k.epoch then .reinit
  else
    let d := (k.psn - ps.cum).toNat
    if 2 ^ 23 ≤ d then .duplicate
    else if 4096 ≤ d then .beyond
    else if ps.accepted.contains k.psn then .duplicate
    else .fresh

/-- R354, R443: the path set by which a packet arrives; packets to the lost partner's ID have one of their own. -/
def rxPeer (s : Dev) (port src dst : Nat) : Nat :=
  if port < 8 then 512 + port
  else endpointDevice src + (if endpointDevice dst = s.par.deviceId then 0 else 1024)

/-- R365: a PROBE with init: the sender's epoch, cum 0, its reassembly records discarded. -/
def probeInit (peer : Nat) (epoch : BitVec 8) (s : Dev) : Dev :=
  let s := modPath peer (fun ps => { ps with cum := 0, accepted := [], peerEpoch := some epoch, unackedRx := 0, ackSince := none }) s
  { s with auv.reasm := s.auv.reasm.filter fun r => !decide (rxPeer s r.hdr.port r.src r.dst = peer) }

/-! ## Reassembly (R367 to R369) -/

/-- R369: the record of a packet's message. -/
def findReasm (s : Dev) (k : Packet) : Option Reasm :=
  s.auv.reasm.find? fun r => decide (r.src = k.src) && decide (r.dst = k.dst) && decide (r.msgId = k.msgId) && decide (r.epoch = k.epoch)
    && decide (r.hdr.csn = k.csn)

/-- The state with a message's record replaced, or removed. -/
def putReasm (k : Packet) (r : Option Reasm) (s : Dev) : Dev :=
  let other (x : Reasm) : Bool :=
    !(decide (x.src = k.src) && decide (x.dst = k.dst) && decide (x.msgId = k.msgId) && decide (x.epoch = k.epoch))
  { s with auv.reasm := s.auv.reasm.filter other ++ r.toList }

/-- R369: records that hold an incomplete message. -/
def reasmUsed (s : Dev) : Nat := (s.auv.reasm.filter fun r => r.dead.isNone).length

/-- R369: the record of a message's first fragment to arrive. -/
def newReasm (port : Nat) (k : Packet) (s : Dev) : Reasm :=
  { src := k.src, dst := k.dst, msgId := k.msgId, epoch := k.epoch, channel := k.channel, hdr := hdrOf port k, count := none, got := [],
    body := k.body, addr := k.addr, opWord := k.opWord, since := s.now, arrived := s.now, dead := none }

/-- R368: the fragment contradicts the count that another has fixed. -/
def misshapen (r : Reasm) (k : Packet) : Bool :=
  match r.count with
  | some n => decide (n ≤ k.fragIndex) || (decide (0 < k.fragCount) && decide (k.fragCount ≠ n))
  | none => decide (0 < k.fragCount) && r.got.any fun i => decide (k.fragCount ≤ i)

/-- R367: the record with a fragment in. -/
def addFragment (r : Reasm) (k : Packet) (now : Time) : Reasm :=
  { r with
    count := if 0 < k.fragCount then some k.fragCount else r.count
    got := if r.got.contains k.fragIndex then r.got else r.got ++ [k.fragIndex]
    body := if k.body = .data then r.body else k.body
    since := now
    arrived := now
    hdr := { r.hdr with cmplReq := r.hdr.cmplReq || k.cmplReq } }

/-- R367: every fragment has been accepted. DEDUCED: log entry 41. -/
def wholeMessage (r : Reasm) : Bool :=
  match r.count with
  | some n => decide (r.got.length = n)
  | none => false

/-- R368, R383, R385: the message of a packet is refused with one completion; the rest of its fragments are acknowledged only. -/
def refusePacket (port : Nat) (k : Packet) (st : Status) (own violation : Bool) (s : Dev) : Dev :=
  let dead : Reasm := { newReasm port k s with dead := some st }
  let s := if k.fragCount = 1 then putReasm k none s else putReasm k (some dead) s
  refuseMsg (hdrOf port k) k.body k.opcode k.addr st own violation s

/-- R370, R376: a message is whole. -/
def messageWhole (r : Reasm) (k : Packet) (s : Dev) : Dev :=
  let s := putReasm k none s
  if k.opcode = 0x02 then takeRead r.hdr r.addr r.opWord k.psn s else addDone r.hdr r.body r.addr r.opWord r.arrived none s

/-- R367: a fragment of a message that the channel takes: whether it is accepted, and the state. -/
def placeFragment (peer port : Nat) (k : Packet) (r : Reasm) (s : Dev) : Bool × Dev :=
  let h := r.hdr
  let len := if k.opcode = 0x02 then k.opWord else k.length
  let va := targetVa s h (k.addr + 4096 * k.fragIndex)
  let st := if k.opcode = 0x01 ∨ k.opcode = 0x02 then targetStatus s h.tenant va len (decide (k.opcode = 0x01)) else St.ok
  if misshapen r k then (true, refusePacket port k St.auvMalformed true false s)
  else if st ≠ St.ok then (true, refusePacket port k st true false s)
  else if k.opcode = 0x01 && !targetPresent s va len then (false, notReady h va k.fragIndex k.psn (notePsn peer k.psn s))
  else
    let s := if k.opcode = 0x01 then placeWrite h va k.payload s else s
    let r := addFragment r k s.now
    (true, if wholeMessage r then messageWhole r k s else putReasm k (some r) s)

/-- R357 steps 11 and 12, R369: a packet of a channel that has passed the checks of its message. -/
def channelPacket (peer port : Nat) (k : Packet) (c : Chan) (s : Dev) : Bool × Dev :=
  let old := findReasm s k
  let late := old.bind (·.dead)
  if csnPassed c k.csn then
    (true, if late = some St.auvReasmTimeout then complete (hdrOf port k) St.auvReasmTimeout 0 s else s)
  else if 64 ≤ csnAhead c k.csn then (false, s)
  else if !k.payloadOk then (false, count Reg.auvMalformedCount s)
  else if late.isSome then (true, s)
  else
    match old with
    | some r => placeFragment peer port k r s
    | none =>
      if k.fragCount ≠ 1 ∧ 16384 ≤ reasmUsed s then (false, s) else placeFragment peer port k (newReasm port k s) s

/-- R373: a packet waits in its port's miss buffer for its context, or is dropped when the buffer is full. -/
def missBuffer (port : Nat) (k : Packet) (s : Dev) : Dev :=
  let mine := s.auv.misses.filter fun m => decide (m.port = port)
  if mine.length < 64 ∧ sumBy (fun m => streamBytes m.packet) mine + streamBytes k ≤ 262144 then
    { s with auv.misses := s.auv.misses ++ [{ port, packet := k, since := s.now }] }
  else count Reg.auvMissDropCount s

/-- R357 steps 6 to 12: a packet for this device on a channel: whether it is accepted. -/
def checkedPacket (peer port : Nat) (k : Packet) (s : Dev) : Bool × Dev :=
  let h := hdrOf port k
  let off := if k.opcode = 0x01 then k.addr + 4096 * k.fragIndex else k.addr
  let len := if k.opcode = 0x02 then k.opWord else k.length
  match checkMsg s h k.opcode off len with
  | .privileged => (true, privViolation h k.opcode k.addr s)
  | .refuse st own =>
    if (findReasm s k).any (·.dead.isSome) || (mget s.auv.chans (chanKey h)).any (fun c => own && csnPassed c k.csn) then (true, s)
    else (true, refusePacket port k st own true s)
  | .pass =>
    let s := if h.channel < 256 ∧ !mhas s.auv.chans (chanKey h) then
        { s with auv.chans := mset s.auv.chans (chanKey h) (privChan h) }
      else s
    match mget s.auv.chans (chanKey h) with
    | some c => channelPacket peer port k c s
    | none => (false, s)

/-- R357 steps 5 to 12: a sequenced packet for this device, its epoch and psn found good. An EVENT keeps the rules of a privileged
channel; completions and read data answer the device's own messages. -/
def localPacket (peer port : Nat) (k : Packet) (s : Dev) : Dev :=
  let h := hdrOf port k
  if !s.serving then s
  else if k.opcode = 0x21 ∨ k.opcode = 0x22 then
    (if k.payloadOk then acceptPsn peer k.psn s else count Reg.auvMalformedCount s)
  else if k.opcode = 0x0C then
    (if !privAllowed s h then acceptPsn peer k.psn (privViolation h k.opcode k.addr s)
    else if k.payloadOk then acceptPsn peer k.psn s else count Reg.auvMalformedCount s)
  else if 256 ≤ k.channel && (mget s.auv.chans k.channel).any (fun c => !c.cached) then missBuffer port k s
  else
    let (ok, s) := checkedPacket peer port k s
    goOn (if ok then acceptPsn peer k.psn s else s)

/-- R354, R366: a packet between a partner of this device and another device goes on from one path set to the other; it is
acknowledged once it is in the transmit window. -/
def relay (peer : Nat) (k : Packet) (s : Dev) : Dev :=
  let out := peerOf s k.dst
  if windowOpen s out k && (s.path out).waiting.isEmpty then acceptPsn peer k.psn (sendPacket out k s) else s

/-- R357 step 4 and on: a sequenced packet that ends on this device or at one of its partners. -/
def endPacket (peer port : Nat) (k : Packet) (s : Dev) : Dev :=
  match checkPsn s peer k with
  | .reinit => sendAck peer true s
  | .duplicate => sendAck peer false s
  | .beyond => count Reg.auvPsnRangeCount s
  | .fresh =>
    if s.isMine (endpointDevice k.dst) ∧ endpointNumber k.dst < 64 then localPacket peer port k s else relay peer k s

/-- R353: the source endpoint is allowed on its arrival port. -/
def sourceOk (s : Dev) (port : Nat) (k : Packet) : Bool :=
  decide (8 ≤ port) || (decide (endpointDevice k.src = s.par.deviceId) && decide (endpointNumber k.src / 8 = 8 + port))

/-- R353: a packet from an endpoint that its port does not hold. DEDUCED: log entry 70. -/
def spoofed (port : Nat) (k : Packet) (s : Dev) : Dev :=
  raiseDev St.auvSpoof (logViolation (hdrOf port k) k.opcode k.addr St.auvSpoof s)

/-- R351: room that a packet will leave in the receive buffer. -/
def freeRoom (port : Nat) (k : Packet) (s : Dev) : Dev :=
  modPort port (fun q => { q with freed := setAt q.freed k.tc (q.freed.getD k.tc 0 + creditUnits k) }) s

/-- R353, R357, R358, R412: a packet arrives. The contents of unsequenced packets come by the rows of their own. DEDUCED: log entry 41. -/
def packetArrives (port : Nat) (k : Packet) (s : Dev) : Dev :=
  if !s.linkUp port || decide ((s.port port).rxDropped.length = 32) then s
  else
    let s := freeRoom port k s
    if !headerWhole k || !opcodeKnown k.opcode then count Reg.auvMalformedCount s
    else if 8 ≤ port ∧ !s.isMine (endpointDevice k.dst) then forward k s
    else if !sourceOk s port k then spoofed port k s
    else if !sequenced k.opcode then s
    else
      let peer := rxPeer s port k.src k.dst
      let (ok, s) := if port < 8 then police port k s else (true, s)
      if ok then endPacket peer port k s
      else if checkPsn s peer k = .fresh then notePsn peer k.psn s
      else s

/-! ## Timers and contexts (R369, R373, R376, R380) -/

/-- R380: a WAIT's time has run out. -/
def waitTimeout (ch : Nat) (s : Dev) : Dev :=
  match (mget s.auv.chans ch).bind (·.waiting) with
  | none => s
  | some w =>
    if past w.since (waitLimit w.msg) s.now then
      let s := modChan ch (fun c => { c with aborting := w.msg.abortChain }) s
      goOn (endWaitMsg ch w.hdr St.auvWaitTimeout s)
    else s

/-- R376: the bytes of a READ have not come within 200 µs. -/
def readTimeout (ch msgId : Nat) (s : Dev) : Dev :=
  let hit (x : ReadStall) : Bool := decide (x.hdr.channel = ch) && decide (x.hdr.msgId = msgId) && past x.since (us 200) s.now
  match s.auv.stalls.find? hit with
  | none => s
  | some x => notReady x.hdr (targetVa s x.hdr x.addr) 0xFFFF x.psn { s with auv.stalls := s.auv.stalls.filter fun y => !hit y }

/-- R372, R373: a context enters the cache; where the cache is full another, which no packet in flight holds, leaves it.
DEDUCED: log entry 70. -/
def cacheContext (ch : Nat) (s : Dev) : Dev :=
  let held (k : Nat) : Bool := s.auv.misses.any fun m => decide (m.packet.channel = k)
  let free := (s.auv.chans.filter fun e => e.2.cached && !e.2.privileged && !held e.1).map (·.1)
  if cachedCount s < 524288 then modChan ch (fun c => { c with cached := true }) s
  else
    let (n, s) := draw s
    match free[Config.evictPick n % max 1 free.length]? with
    | some v => modChan ch (fun c => { c with cached := true }) (modChan v (fun c => { c with cached := false }) s)
    | none => s

/-- R373: a context has been fetched: its packets leave the miss buffers in their order. -/
def contextFetched (ch : Nat) (s : Dev) : Dev :=
  let mine (m : Miss) : Bool := decide (m.packet.channel = ch)
  let go := s.auv.misses.filter mine
  if go.isEmpty then s
  else
    let s := cacheContext ch { s with auv.misses := s.auv.misses.filter fun m => !mine m }
    forL go (fun m s =>
      endPacket (rxPeer s m.port m.packet.src m.packet.dst) m.port m.packet s) s

/-- R373: a fetch has not completed in 1.5 µs. -/
def contextTimeout (ch : Nat) (s : Dev) : Dev :=
  let hit (m : Miss) : Bool := decide (m.packet.channel = ch) && past m.since (ns 1500) s.now
  let n := (s.auv.misses.filter hit).length
  if n = 0 then s
  else raiseDev St.auvCtxFetch (countBy Reg.auvMissDropCount n { s with auv.misses := s.auv.misses.filter fun m => !hit m })

/-- R369: no fragment of a message has come for reasm_ms. DEDUCED: log entry 70. -/
def reasmTimeout (src dst msgId : Nat) (s : Dev) : Dev :=
  let hit (r : Reasm) : Bool := decide (r.src = src) && decide (r.dst = dst) && decide (r.msgId = msgId) && past r.since (ms s.reasmMs) s.now
  match s.auv.reasm.find? hit with
  | none => s
  | some r =>
    match r.dead with
    | some _ => { s with auv.reasm := s.auv.reasm.filter fun x => !hit x }
    | none =>
      let dead (x : Reasm) : Reasm := if hit x then { x with dead := some St.auvReasmTimeout } else x
      let s := { s with auv.reasm := s.auv.reasm.map dead }
      goOn (addDone r.hdr r.body r.addr 0 s.now (some St.auvReasmTimeout) (complete r.hdr St.auvReasmTimeout 0 s))

/-! ## Completions for the device's own messages (R354, R385) -/

/-- R385: a CMPL completes the message it answers; one for a partner goes on to it. -/
def cmplArrives (src dst : Nat) (m : CmplMsg) (s : Dev) : Dev :=
  if endpointDevice dst = s.par.deviceId ∧ 64 ≤ endpointNumber dst then
    sendPacket (peerOf s dst) (fragment src dst 0x21 (if m.status = 0 then 1 else 0) 0 0 m.csn m.msgId 16 0 0 0 false []) s
  else
    modPath (peerOf s src) (fun ps => { ps with awaiting := ps.awaiting.filter fun a => !decide (a = (src, m.msgId)) }) s

/-! ## The commands -/

/-- R357: a packet. -/
def execPacketReceived (t : Time) (port : Nat) (p : Packet) (s : State) : Host.Outcome State Fault Refusal :=
  run (awake t (packetArrives port p)) s

/-- R376: a WRITE. -/
def execWrite (t : Time) (h : MsgHdr) (addr : Nat) (data : List Byte) (s : State) : Host.Outcome State Fault Refusal :=
  run (service t fun s => goOn (takeMsg h .write addr data.length data s)) s

/-- R376: a READ. -/
def execRead (t : Time) (h : MsgHdr) (addr bytes : Nat) (s : State) : Host.Outcome State Fault Refusal :=
  run (service t fun s => goOn (takeMsg h .read addr bytes [] s)) s

/-- R370: a SEND. -/
def execSend (t : Time) (h : MsgHdr) (b : SendBody) (s : State) : Host.Outcome State Fault Refusal :=
  run (service t fun s => goOn (takeMsg h (.send b) 0 0 [] s)) s

/-- R378: a WAIT. -/
def execWait (t : Time) (h : MsgHdr) (m : WaitMsg) (s : State) : Host.Outcome State Fault Refusal :=
  run (service t fun s => goOn (takeMsg h (.wait m) 0 0 [] s)) s

/-- R380: a WAIT times out. -/
def execWaitTimeout (t : Time) (channel : Nat) (s : State) : Host.Outcome State Fault Refusal :=
  run (service t (waitTimeout channel)) s

/-- R362: an ACK. -/
def execAck (t : Time) (peer : Nat) (m : AckMsg) (s : State) : Host.Outcome State Fault Refusal := run (awake t (ackArrives peer m)) s

/-- R361: the ACK delay ends. -/
def execAckDelayTimeout (t : Time) (peer : Nat) (s : State) : Host.Outcome State Fault Refusal := run (awake t (ackDelay peer)) s

/-- R363: the retransmission timer expires. -/
def execRetransmitTimeout (t : Time) (peer : Nat) (psn : BitVec 24) (s : State) : Host.Outcome State Fault Refusal :=
  run (awake t (retransmit peer psn)) s

/-- R364: a failed path is probed. -/
def execFailedPathProbe (t : Time) (peer path : Nat) (s : State) : Host.Outcome State Fault Refusal :=
  run (awake t (probeFailed peer path)) s

/-- R432: a path PROBE. -/
def execPathProbe (t : Time) (port : Nat) (m : ProbeMsg) (s : State) : Host.Outcome State Fault Refusal :=
  run (awake t (answerProbe port m)) s

/-- R364: a path reply. -/
def execPathReply (t : Time) (peer path : Nat) (m : ProbeMsg) (s : State) : Host.Outcome State Fault Refusal :=
  run (awake t (pathRestored peer path m)) s

/-- R365: a PROBE with init. -/
def execProbeInit (t : Time) (peer : Nat) (epoch : BitVec 8) (s : State) : Host.Outcome State Fault Refusal :=
  run (awake t (probeInit peer epoch)) s

/-- R377: an RNR. -/
def execRnr (t : Time) (peer : Nat) (m : RnrMsg) (s : State) : Host.Outcome State Fault Refusal := run (awake t (rnrArrives peer m)) s

/-- R377: retry_after elapses. -/
def execRnrRetry (t : Time) (peer msgId fragIndex : Nat) (s : State) : Host.Outcome State Fault Refusal :=
  run (awake t (rnrRetry peer msgId fragIndex)) s

/-- R376: a READ's bytes do not come. -/
def execReadNotPresentTimeout (t : Time) (channel msgId : Nat) (s : State) : Host.Outcome State Fault Refusal :=
  run (awake t (readTimeout channel msgId)) s

/-- R373: a context has been fetched. -/
def execContextFetchComplete (t : Time) (channel : Nat) (s : State) : Host.Outcome State Fault Refusal :=
  run (awake t (contextFetched channel)) s

/-- R373: a fetch takes too long. -/
def execContextFetchTimeout (t : Time) (channel : Nat) (s : State) : Host.Outcome State Fault Refusal :=
  run (awake t (contextTimeout channel)) s

/-- R369: a reassembly record has been idle. -/
def execReassemblyTimeout (t : Time) (src dst msgId : Nat) (s : State) : Host.Outcome State Fault Refusal :=
  run (awake t (reasmTimeout src dst msgId)) s

/-- R385: a CMPL. -/
def execCmplReceived (t : Time) (src dst : Nat) (m : CmplMsg) (s : State) : Host.Outcome State Fault Refusal :=
  run (awake t (cmplArrives src dst m)) s

/-- R388: CHAN_ADMIN OPEN. -/
def execChanAdminOpen (t : Time) (rq : Requester) (r : ChanAdmin) (s : State) : Host.Outcome State Fault Refusal :=
  run (vendor t rq false (chanOpenCmd rq r)) s

/-- R388: CHAN_ADMIN CLOSE. -/
def execChanAdminClose (t : Time) (rq : Requester) (tenant channel : Nat) (s : State) : Host.Outcome State Fault Refusal :=
  run (vendor t rq false fun s => goOn (chanCloseCmd rq tenant channel s)) s

/-- R386: CHAN_ADMIN SUBSCRIBE. -/
def execChanAdminSubscribe (t : Time) (rq : Requester) (r : ChanAdmin) (s : State) : Host.Outcome State Fault Refusal :=
  run (vendor t rq false (subscribeCmd rq r)) s

/-- R386: CHAN_ADMIN UNSUBSCRIBE. -/
def execChanAdminUnsubscribe (t : Time) (rq : Requester) (r : ChanAdmin) (s : State) : Host.Outcome State Fault Refusal :=
  run (vendor t rq false (unsubscribeCmd rq r)) s

/-- R388: CHAN_ADMIN QUERY. -/
def execChanAdminQuery (t : Time) (rq : Requester) (tenant channel : Nat) (s : State) : Host.Outcome State Fault Refusal :=
  run (vendor t rq false (chanQueryCmd rq tenant channel)) s

end Sys2Proof.Machine
end

