-- ==== Sys2Proof/Machine/Dispatch.lean ====
section
/-! DEFINITION. The dispatch of commands to their meanings, one arm per row of spec/opcode_table.json. -/

namespace Sys2Proof.Machine

/-- The effect of a command on everything but the queue. -/
def exec (i : Instr) (s : State) : Host.Outcome State Fault Refusal :=
  match i with
  | .resetRelease t straps => Sys2Proof.Machine.execResetRelease t straps s
  | .porstLow t heldNs => Sys2Proof.Machine.execPorstLow t heldNs s
  | .resetGlitchFiltered t pin heldNs => Sys2Proof.Machine.execResetGlitchFiltered t pin heldNs s
  | .clk25Stop t stoppedNs => Sys2Proof.Machine.execClk25Stop t stoppedNs s
  | .railMonitorTrip t rail outsideNs => Sys2Proof.Machine.execRailMonitorTrip t rail outsideNs s
  | .thermalTrip t sensor celsius heldNs => Sys2Proof.Machine.execThermalTrip t sensor celsius heldNs s
  | .sensorSample t celsius => Sys2Proof.Machine.execSensorSample t celsius s
  | .powerBudgetTick t milliwatts => Sys2Proof.Machine.execPowerBudgetTick t milliwatts s
  | .romSelftestDone t pass derived => Sys2Proof.Machine.execRomSelftestDone t pass derived s
  | .bankVerifyDone t nvmFound verdict1 verdict2 => Sys2Proof.Machine.execBankVerifyDone t nvmFound verdict1 verdict2 s
  | .dramTrainingDone t part lostChannels healthyCores => Sys2Proof.Machine.execDramTrainingDone t part lostChannels healthyCores s
  | .nandDiscoveryDone t found => Sys2Proof.Machine.execNandDiscoveryDone t found s
  | .directoryRecoveryDone t readable lostUnits => Sys2Proof.Machine.execDirectoryRecoveryDone t readable lostUnits s
  | .startupStepTimeout t step => Sys2Proof.Machine.execStartupStepTimeout t step s
  | .sync t port m => Sys2Proof.Machine.execSync t port m s
  | .syncInterval t => Sys2Proof.Machine.execSyncInterval t s
  | .syncSilenceTimeout t => Sys2Proof.Machine.execSyncSilenceTimeout t s
  | .gmAnnounceTimeout t => Sys2Proof.Machine.execGmAnnounceTimeout t s
  | .acquireTimeout t => Sys2Proof.Machine.execAcquireTimeout t s
  | .holdoverTimeout t => Sys2Proof.Machine.execHoldoverTimeout t s
  | .gmReturn t => Sys2Proof.Machine.execGmReturn t s
  | .ppsInEdge t highNs => Sys2Proof.Machine.execPpsInEdge t highNs s
  | .ppsMissingTimeout t => Sys2Proof.Machine.execPpsMissingTimeout t s
  | .fabricTimeReadLow t rq => Sys2Proof.Machine.execFabricTimeReadLow t rq s
  | .frameBoundary t => Sys2Proof.Machine.execFrameBoundary t s
  | .timetableActivate t => Sys2Proof.Machine.execTimetableActivate t s
  | .timetableDistribution t sender d => Sys2Proof.Machine.execTimetableDistribution t sender d s
  | .resultSlotStart t slot => Sys2Proof.Machine.execResultSlotStart t slot s
  | .wstreamSlotStart t slot => Sys2Proof.Machine.execWstreamSlotStart t slot s
  | .append t rq m => Sys2Proof.Machine.execAppend t rq m s
  | .seqAdminOpen t rq tenant model format scope => Sys2Proof.Machine.execSeqAdminOpen t rq tenant model format scope s
  | .seqAdminClose t rq tenant handle => Sys2Proof.Machine.execSeqAdminClose t rq tenant handle s
  | .seqAdminPark t rq tenant handle => Sys2Proof.Machine.execSeqAdminPark t rq tenant handle s
  | .seqAdminResume t rq tenant handle => Sys2Proof.Machine.execSeqAdminResume t rq tenant handle s
  | .seqAdminTruncate t rq tenant handle length => Sys2Proof.Machine.execSeqAdminTruncate t rq tenant handle length s
  | .seqAdminQuery t rq tenant handle => Sys2Proof.Machine.execSeqAdminQuery t rq tenant handle s
  | .seqAdminJoin t rq tenant handle stream position => Sys2Proof.Machine.execSeqAdminJoin t rq tenant handle stream position s
  | .seqAdminLeave t rq tenant handle stream => Sys2Proof.Machine.execSeqAdminLeave t rq tenant handle stream s
  | .idlePark t index => Sys2Proof.Machine.execIdlePark t index s
  | .parkComplete t index => Sys2Proof.Machine.execParkComplete t index s
  | .resumeComplete t index => Sys2Proof.Machine.execResumeComplete t index s
  | .closeComplete t index => Sys2Proof.Machine.execCloseComplete t index s
  | .appendHoldTimeout t index => Sys2Proof.Machine.execAppendHoldTimeout t index s
  | .evictionParkTimeout t wait => Sys2Proof.Machine.execEvictionParkTimeout t wait s
  | .lookup t rq m upsets => Sys2Proof.Machine.execLookup t rq m upsets s
  | .attach t rq m => Sys2Proof.Machine.execAttach t rq m s
  | .nodeRetentionExpired t slot => Sys2Proof.Machine.execNodeRetentionExpired t slot s
  | .arrayBlockMoveComplete t bank => Sys2Proof.Machine.execArrayBlockMoveComplete t bank s
  | .shadowSweepRead t flips => Sys2Proof.Machine.execShadowSweepRead t flips s
  | .dirProbeWaitTimeout t probe => Sys2Proof.Machine.execDirProbeWaitTimeout t probe s
  | .pinGranted t op page => Sys2Proof.Machine.execPinGranted t op page s
  | .pinWaitTimeout t op => Sys2Proof.Machine.execPinWaitTimeout t op s
  | .pinRelease t op page => Sys2Proof.Machine.execPinRelease t op page s
  | .pageReclaim t page => Sys2Proof.Machine.execPageReclaim t page s
  | .attend t rq port m => Sys2Proof.Machine.execAttend t rq port m s
  | .tileComplete t req slice mismatch => Sys2Proof.Machine.execTileComplete t req slice mismatch s
  | .mergeStep t req seg kvHead level index mismatch => Sys2Proof.Machine.execMergeStep t req seg kvHead level index mismatch s
  | .spareTakeover t lcore pass => Sys2Proof.Machine.execSpareTakeover t lcore pass s
  | .modelLoad t rq d => Sys2Proof.Machine.execModelLoad t rq d s
  | .modelUnload t rq model => Sys2Proof.Machine.execModelUnload t rq model s
  | .modelUnloadComplete t model => Sys2Proof.Machine.execModelUnloadComplete t model s
  | .promote t rq m => Sys2Proof.Machine.execPromote t rq m s
  | .moveStart t move => Sys2Proof.Machine.execMoveStart t move s
  | .moveCopyComplete t move sourceOk => Sys2Proof.Machine.execMoveCopyComplete t move sourceOk s
  | .pinGrantHoldTimeout t move => Sys2Proof.Machine.execPinGrantHoldTimeout t move s
  | .drainFree t d => Sys2Proof.Machine.execDrainFree t d s
  | .drainWaitTimeout t move => Sys2Proof.Machine.execDrainWaitTimeout t move s
  | .t1AllocGranted t move => Sys2Proof.Machine.execT1AllocGranted t move s
  | .t1AllocTimeout t move => Sys2Proof.Machine.execT1AllocTimeout t move s
  | .heatAgeTick t => Sys2Proof.Machine.execHeatAgeTick t s
  | .refetchArrived t d => Sys2Proof.Machine.execRefetchArrived t d s
  | .refetchTimeout t d => Sys2Proof.Machine.execRefetchTimeout t d s
  | .objAdminCreate t rq r => Sys2Proof.Machine.execObjAdminCreate t rq r s
  | .objAdminSeal t rq tenant object => Sys2Proof.Machine.execObjAdminSeal t rq tenant object s
  | .objAdminDelete t rq tenant object => Sys2Proof.Machine.execObjAdminDelete t rq tenant object s
  | .objAdminQuery t rq tenant object => Sys2Proof.Machine.execObjAdminQuery t rq tenant object s
  | .objAdminReopen t rq tenant object => Sys2Proof.Machine.execObjAdminReopen t rq tenant object s
  | .objAdminCopyIn t rq r => Sys2Proof.Machine.execObjAdminCopyIn t rq r s
  | .objectDeleteComplete t object => Sys2Proof.Machine.execObjectDeleteComplete t object s
  | .wstream t rq port m => Sys2Proof.Machine.execWstream t rq port m s
  | .nandReadComplete t id l => Sys2Proof.Machine.execNandReadComplete t id l s
  | .nandProgramComplete t group reloc failed => Sys2Proof.Machine.execNandProgramComplete t group reloc failed s
  | .nandEraseComplete t group band position pass => Sys2Proof.Machine.execNandEraseComplete t group band position pass s
  | .nandOpTimeout t channel slot op => Sys2Proof.Machine.execNandOpTimeout t channel slot op s
  | .rowFillTimeout t group reloc => Sys2Proof.Machine.execRowFillTimeout t group reloc s
  | .patrolRead t unit overHalf l => Sys2Proof.Machine.execPatrolRead t unit overHalf l s
  | .checkpointStart t => Sys2Proof.Machine.execCheckpointStart t s
  | .dramPatrol t addr found => Sys2Proof.Machine.execDramPatrol t addr found s
  | .portSignalDetect t port => Sys2Proof.Machine.execPortSignalDetect t port s
  | .portRetrainTimer t port => Sys2Proof.Machine.execPortRetrainTimer t port s
  | .portTrainingComplete t port id lanes foreign => Sys2Proof.Machine.execPortTrainingComplete t port id lanes foreign s
  | .portTrainingTimeout t port => Sys2Proof.Machine.execPortTrainingTimeout t port s
  | .laneFault t port lane codewords => Sys2Proof.Machine.execLaneFault t port lane codewords s
  | .lossOfSignal t port allLanes => Sys2Proof.Machine.execLossOfSignal t port allLanes s
  | .retrainBackoffExpiry t port => Sys2Proof.Machine.execRetrainBackoffExpiry t port s
  | .sleepOrderedSet t port => Sys2Proof.Machine.execSleepOrderedSet t port s
  | .wakeOrderedSet t port => Sys2Proof.Machine.execWakeOrderedSet t port s
  | .flitReceived t port crcOk f => Sys2Proof.Machine.execFlitReceived t port crcOk f s
  | .packetReceived t port p => Sys2Proof.Machine.execPacketReceived t port p s
  | .write t h addr data => Sys2Proof.Machine.execWrite t h addr data s
  | .read t h addr bytes => Sys2Proof.Machine.execRead t h addr bytes s
  | .send t h b => Sys2Proof.Machine.execSend t h b s
  | .wait t h m => Sys2Proof.Machine.execWait t h m s
  | .waitTimeout t channel => Sys2Proof.Machine.execWaitTimeout t channel s
  | .ack t peer m => Sys2Proof.Machine.execAck t peer m s
  | .ackDelayTimeout t peer => Sys2Proof.Machine.execAckDelayTimeout t peer s
  | .retransmitTimeout t peer psn => Sys2Proof.Machine.execRetransmitTimeout t peer psn s
  | .failedPathProbe t peer path => Sys2Proof.Machine.execFailedPathProbe t peer path s
  | .pathProbe t port m => Sys2Proof.Machine.execPathProbe t port m s
  | .pathReply t peer path m => Sys2Proof.Machine.execPathReply t peer path m s
  | .probeInit t peer epoch => Sys2Proof.Machine.execProbeInit t peer epoch s
  | .rnr t peer m => Sys2Proof.Machine.execRnr t peer m s
  | .rnrRetry t peer msgId fragIndex => Sys2Proof.Machine.execRnrRetry t peer msgId fragIndex s
  | .readNotPresentTimeout t channel msgId => Sys2Proof.Machine.execReadNotPresentTimeout t channel msgId s
  | .contextFetchComplete t channel => Sys2Proof.Machine.execContextFetchComplete t channel s
  | .contextFetchTimeout t channel => Sys2Proof.Machine.execContextFetchTimeout t channel s
  | .reassemblyTimeout t src dst msgId => Sys2Proof.Machine.execReassemblyTimeout t src dst msgId s
  | .eventReceived t src m => Sys2Proof.Machine.execEventReceived t src m s
  | .cmplReceived t src dst m => Sys2Proof.Machine.execCmplReceived t src dst m s
  | .chanAdminOpen t rq r => Sys2Proof.Machine.execChanAdminOpen t rq r s
  | .chanAdminClose t rq tenant channel => Sys2Proof.Machine.execChanAdminClose t rq tenant channel s
  | .chanAdminSubscribe t rq r => Sys2Proof.Machine.execChanAdminSubscribe t rq r s
  | .chanAdminUnsubscribe t rq r => Sys2Proof.Machine.execChanAdminUnsubscribe t rq r s
  | .chanAdminQuery t rq tenant channel => Sys2Proof.Machine.execChanAdminQuery t rq tenant channel s
  | .transmitChoice t port => Sys2Proof.Machine.execTransmitChoice t port s
  | .gateEntryChange t port => Sys2Proof.Machine.execGateEntryChange t port s
  | .gateListActivate t port => Sys2Proof.Machine.execGateListActivate t port s
  | .bucketCreditTick t => Sys2Proof.Machine.execBucketCreditTick t s
  | .heartbeatTimer t => Sys2Proof.Machine.execHeartbeatTimer t s
  | .heartbeat t port m snap => Sys2Proof.Machine.execHeartbeat t port m snap s
  | .partnerProbe t port m => Sys2Proof.Machine.execPartnerProbe t port m s
  | .partnerReply t port m => Sys2Proof.Machine.execPartnerReply t port m s
  | .witnessQuery t port m => Sys2Proof.Machine.execWitnessQuery t port m s
  | .witnessReply t port m => Sys2Proof.Machine.execWitnessReply t port m s
  | .partnerProbeRepeat t => Sys2Proof.Machine.execPartnerProbeRepeat t s
  | .pairSilenceTimeout t => Sys2Proof.Machine.execPairSilenceTimeout t s
  | .pairLossTimeout t => Sys2Proof.Machine.execPairLossTimeout t s
  | .joinTimeout t => Sys2Proof.Machine.execJoinTimeout t s
  | .pausedRestore t => Sys2Proof.Machine.execPausedRestore t s
  | .forceTakeover t rq => Sys2Proof.Machine.execForceTakeover t rq s
  | .parTakeoverReceived t lost survivor => Sys2Proof.Machine.execParTakeoverReceived t lost survivor s
  | .pairCommitReceived t h op => Sys2Proof.Machine.execPairCommitReceived t h op s
  | .pairCommitComplete t tag status => Sys2Proof.Machine.execPairCommitComplete t tag status s
  | .mirrorCopyComplete t d => Sys2Proof.Machine.execMirrorCopyComplete t d s
  | .resyncComplete t => Sys2Proof.Machine.execResyncComplete t s
  | .cxlMemRead t port ld dpa hold => Sys2Proof.Machine.execCxlMemRead t port ld dpa hold s
  | .cxlMemWrite t port ld dpa data => Sys2Proof.Machine.execCxlMemWrite t port ld dpa data s
  | .bisnpResponse t port ld line data => Sys2Proof.Machine.execBisnpResponse t port ld line data s
  | .bisnpTimeout t port ld line => Sys2Proof.Machine.execBisnpTimeout t port ld line s
  | .cxlLinkDown t port viral => Sys2Proof.Machine.execCxlLinkDown t port viral s
  | .cxlLinkUp t port => Sys2Proof.Machine.execCxlLinkUp t port s
  | .ldReset t port ld => Sys2Proof.Machine.execLdReset t port ld s
  | .cxlPerst t port heldNs => Sys2Proof.Machine.execCxlPerst t port heldNs s
  | .hostFail t rq port ld => Sys2Proof.Machine.execHostFail t rq port ld s
  | .regionCreate t rq r => Sys2Proof.Machine.execRegionCreate t rq r s
  | .regionDelete t rq region => Sys2Proof.Machine.execRegionDelete t rq region s
  | .regionReset t rq region => Sys2Proof.Machine.execRegionReset t rq region s
  | .regionMap t rq r => Sys2Proof.Machine.execRegionMap t rq r s
  | .regionPublish t rq r => Sys2Proof.Machine.execRegionPublish t rq r s
  | .publishCrcComplete t port ld => Sys2Proof.Machine.execPublishCrcComplete t port ld s
  | .regionRetire t rq region version => Sys2Proof.Machine.execRegionRetire t rq region version s
  | .regionHint t rq r => Sys2Proof.Machine.execRegionHint t rq r s
  | .regionExport t rq r => Sys2Proof.Machine.execRegionExport t rq r s
  | .exportCopyComplete t port ld => Sys2Proof.Machine.execExportCopyComplete t port ld s
  | .regionQuery t rq region => Sys2Proof.Machine.execRegionQuery t rq region s
  | .statusSnapshot t rq cls index => Sys2Proof.Machine.execStatusSnapshot t rq cls index s
  | .identifyMemoryDevice t rq => Sys2Proof.Machine.execIdentifyMemoryDevice t rq s
  | .getTimestamp t rq => Sys2Proof.Machine.execGetTimestamp t rq s
  | .setTimestamp t rq value => Sys2Proof.Machine.execSetTimestamp t rq value s
  | .getSupportedLogs t rq => Sys2Proof.Machine.execGetSupportedLogs t rq s
  | .getLog t rq uuid offset length => Sys2Proof.Machine.execGetLog t rq uuid offset length s
  | .getEventRecords t rq log => Sys2Proof.Machine.execGetEventRecords t rq log s
  | .clearEventRecords t rq log handles => Sys2Proof.Machine.execClearEventRecords t rq log handles s
  | .getEventInterruptPolicy t rq => Sys2Proof.Machine.execGetEventInterruptPolicy t rq s
  | .setEventInterruptPolicy t rq policy => Sys2Proof.Machine.execSetEventInterruptPolicy t rq policy s
  | .getPoisonList t rq dpa length => Sys2Proof.Machine.execGetPoisonList t rq dpa length s
  | .injectPoison t rq dpa => Sys2Proof.Machine.execInjectPoison t rq dpa s
  | .clearPoison t rq dpa data => Sys2Proof.Machine.execClearPoison t rq dpa data s
  | .getFwInfo t rq => Sys2Proof.Machine.execGetFwInfo t rq s
  | .transferFw t rq img => Sys2Proof.Machine.execTransferFw t rq img s
  | .transferFwIdentity t rq bundle derived => Sys2Proof.Machine.execTransferFwIdentity t rq bundle derived s
  | .activateFw t rq slot online => Sys2Proof.Machine.execActivateFw t rq slot online s
  | .getLdInfo t port => Sys2Proof.Machine.execGetLdInfo t port s
  | .getLdAllocations t port => Sys2Proof.Machine.execGetLdAllocations t port s
  | .setLdAllocations t port first allocs => Sys2Proof.Machine.execSetLdAllocations t port first allocs s
  | .cdatRead t port entry => Sys2Proof.Machine.execCdatRead t port entry s
  | .getVersion t transport => Sys2Proof.Machine.execGetVersion t transport s
  | .getCapabilities t transport => Sys2Proof.Machine.execGetCapabilities t transport s
  | .negotiateAlgorithms t transport p256 sha256 dmtf => Sys2Proof.Machine.execNegotiateAlgorithms t transport p256 sha256 dmtf s
  | .getDigests t transport => Sys2Proof.Machine.execGetDigests t transport s
  | .getCertificate t transport slot offset length => Sys2Proof.Machine.execGetCertificate t transport slot offset length s
  | .challenge t transport slot nonce summary => Sys2Proof.Machine.execChallenge t transport slot nonce summary s
  | .getMeasurements t transport index signed nonce => Sys2Proof.Machine.execGetMeasurements t transport index signed nonce s
  | .respondIfReady t transport token => Sys2Proof.Machine.execRespondIfReady t transport token s
  | .spdmSignatureComplete t => Sys2Proof.Machine.execSpdmSignatureComplete t s
  | .cfgTxnBegin t rq => Sys2Proof.Machine.execCfgTxnBegin t rq s
  | .cfgTxnWrite t rq id items => Sys2Proof.Machine.execCfgTxnWrite t rq id items s
  | .cfgTxnCommit t rq id persistent activation => Sys2Proof.Machine.execCfgTxnCommit t rq id persistent activation s
  | .cfgTxnRollback t rq id => Sys2Proof.Machine.execCfgTxnRollback t rq id s
  | .txnIdleTimeout t => Sys2Proof.Machine.execTxnIdleTimeout t s
  | .nvmWriteComplete t ok => Sys2Proof.Machine.execNvmWriteComplete t ok s
  | .rwlWrite t rq reg mask value => Sys2Proof.Machine.execRwlWrite t rq reg mask value s
  | .registerWrite t rq reg value => Sys2Proof.Machine.execRegisterWrite t rq reg value s
  | .handshakeTimeout t island => Sys2Proof.Machine.execHandshakeTimeout t island s
  | .mgmtWatchdogTimeout t core => Sys2Proof.Machine.execMgmtWatchdogTimeout t core s
  | .livenessTimeout t => Sys2Proof.Machine.execLivenessTimeout t s
  | .livenessWrite t core => Sys2Proof.Machine.execLivenessWrite t core s
  | .powerRequest t rq first count target => Sys2Proof.Machine.execPowerRequest t rq first count target s
  | .ownerAnswer t domain v => Sys2Proof.Machine.execOwnerAnswer t domain v s
  | .drainEnd t domain => Sys2Proof.Machine.execDrainEnd t domain s
  | .drainTimeout t domain => Sys2Proof.Machine.execDrainTimeout t domain s
  | .quiesceComplete t domain => Sys2Proof.Machine.execQuiesceComplete t domain s
  | .clampComplete t domain => Sys2Proof.Machine.execClampComplete t domain s
  | .lowerComplete t domain => Sys2Proof.Machine.execLowerComplete t domain s
  | .domainWake t domain source => Sys2Proof.Machine.execDomainWake t domain source s
  | .wakeComplete t domain => Sys2Proof.Machine.execWakeComplete t domain s
  | .idlePolicyTimeout t domain => Sys2Proof.Machine.execIdlePolicyTimeout t domain s
  | .timetableLeadWake t slot => Sys2Proof.Machine.execTimetableLeadWake t slot s
  | .vddAonRemoval t => Sys2Proof.Machine.execVddAonRemoval t s
  | .portWakeTimeout t port => Sys2Proof.Machine.execPortWakeTimeout t port s

end Sys2Proof.Machine
end

