-- ==== Sys2Proof/Safety.lean ====
section
/-! DEFINITION. The conditions that the statements are made under: what a device must be for a command to have its effect. -/

namespace Sys2Proof.Machine

/-- The device runs: no internal reset, no trip, no halted start-up, no vendor test mode (R588 to R597). -/
def Awake (s : State) : Prop := s.dev.asleep = false

/-- The device as the command that arrives at `t` finds it: fabric time stands at `t` unless it was later already (R36). -/
def State.at (s : State) (t : Time) : Dev := arrive t s.dev

/-- The device serves requests when the command arrives (R505, R506, R559, R433). -/
def Serves (s : State) (t : Time) : Prop := Awake s ∧ (s.at t).serving = true

/-- The device admits a vendor command of `rq`: it serves, the logical device is enabled, and the requester is an operator where
the command asks for one (R452, R453). -/
def Admits (s : State) (t : Time) (rq : Requester) (operator : Bool) : Prop :=
  Serves s t ∧ ldDisabled (s.at t) rq = false ∧ (operator = true → isOperator (s.at t) rq = true)

/-- The device decides alone: it has no pair partner (R433). -/
def Alone (s : State) (t : Time) : Prop := (s.at t).par.state = .solo

/-- A pin, clock or rail event, or the release of reset: what reaches a device that is asleep (R554, R586 to R597). -/
def isPinEvent : Instr → Bool
  | .resetRelease _ _ => true
  | .porstLow _ _ => true
  | .resetGlitchFiltered _ _ _ => true
  | .clk25Stop _ _ => true
  | .railMonitorTrip _ _ _ => true
  | .thermalTrip _ _ _ _ => true
  | .vddAonRemoval _ => true
  | _ => false

/-- A sleeping device to which only other commands are sent. -/
def Dormant (s : State) : Prop := s.dev.asleep = true ∧ ∀ c ∈ s.pending, isPinEvent c = false

end Sys2Proof.Machine
end

