-- ==== Sys2Proof/Certificates/Slice0/Obligations.lean ====
section
/-! DEFINITION. The statements about the PK-7. Every one that names a time `t` of arrival speaks of the device as the command finds it
(`State.at`), of a device that is awake, serves or admits the command (`Awake`, `Serves`, `Admits`): the model's reading of when a command
has an effect (log entries 5, 6 and 8). Where a statement rests on another reading of the model's, its text names the log entry. -/

open Sys2Proof Sys2Proof.Machine

/-- A step takes the command at the front of the queue and runs it with the queue's rest. On an empty queue the block idles: that is the model's
choice (log entry 2), for the spec gives the block no clock of its own among its commands. The model's readings in it: log entries 1 and 2. -/
def Obligations.StepTakesTheFront : Prop :=
  (∀ (c : Instr) (rest : List Instr) (d : Dev), step ⟨c :: rest, d⟩ = exec c ⟨rest, d⟩)
  ∧ ∀ d : Dev, step ⟨[], d⟩ = .next ⟨[], d⟩

/-- Every command has a next state in every state of the device and leaves the queue's rest alone, so that `n` steps take the `n` commands at
the front, in their order, and none of them stops the block: nothing in the manual gives a command no effect at all. The model's readings in
it: log entries 1 and 2. -/
def Obligations.QueueDrains : Prop :=
  (∀ (c : Instr) (s : State), ∃ d : Dev, exec c s = .next ⟨s.pending, d⟩)
  ∧ ∀ (s : State) (n : Nat), ∃ d : Dev, Host.Core.run core n s = .next ⟨s.pending.drop n, d⟩

/-- R554, R588 to R597: a sleeping device to which only commands are sent that are no pin, clock or rail event stays asleep, whatever they are:
a step changes nothing but the queue. The model's readings in it: log entries 2 and 8. -/
def Obligations.SleepIsKept : Prop :=
  ∀ s t : State, Dormant s → step s = .next t → Dormant t ∧ t.dev = s.dev

/-- R597: a tripped device stays tripped, and runs nothing, through every step but `PORST_n` low for 200 ns or more and the removal of
`VDD_AON`: no other command, and no other reset, ends the trip, and one that is no pin event changes nothing of the device. The model's
readings in it: log entries 8 and 34. -/
def Obligations.TripIsKept : Prop :=
  ∀ (s t : State) (c : Instr) (rest : List Instr), s.pending = c :: rest → s.dev.pwr.tripped = true → step s = .next t →
    (∀ a n, c = .porstLow a n → n < 200) → (∀ a, c ≠ .vddAonRemoval a) →
    t.dev.pwr.tripped = true ∧ t.dev.pwr.thermtripPin = s.dev.pwr.thermtripPin ∧ ¬ Awake t ∧ t.pending = rest
      ∧ (isPinEvent c = false → t.dev = s.dev)

/-- Reset: the device is in internal reset with an empty queue and empty memory, start-up step and every counter zero, and each register of the
list reads the reset values that its field map gives. The RWL fields whose reset is the image read as zero (log entry 4). The model's
readings in it: log entries 3 and 4. -/
def Obligations.ResetState : Prop :=
  Dormant State.reset ∧ State.reset.pending = [] ∧ State.reset.dev.mem = [] ∧ Memory.wf State.reset.dev.mem = true
  ∧ State.reset.dev.cfg.internalReset = true
  ∧ State.reset.dev.view Reg.cfgStatus = 0x10000000
  ∧ (∀ p, p < 13 → State.reset.dev.view (Reg.shpGateStatus + p) = 0xFF)
  ∧ (∀ id ∈ counterRegs, State.reset.dev.view id = 0)
  ∧ ∀ id ∈ [Reg.kvsOccupancy, Reg.kvsBattStatus, Reg.pfxStatus, Reg.attStatus, Reg.tirStatus, Reg.iatFabricTime, Reg.iatOffset,
      Reg.iatFrame, Reg.auvCtxStatus, Reg.auvVlogHead, Reg.shpStatus, Reg.parMirrorBacklog, Reg.cfgTxnStatus, Reg.rasLastEvent,
      Reg.pwrTripRecord], State.reset.dev.view id = 0

/-- R11: serial comparison at every width. -/
def Obligations.SerialOrder : Prop :=
  ∀ (w : Nat) (a b : BitVec w),
    let d := (b - a).toNat
    d = (b.toNat + (2 ^ w - a.toNat)) % 2 ^ w
    ∧ (serialLt a b = true ↔ 0 < d ∧ d < 2 ^ (w - 1))
    ∧ (serialLe a b = true ↔ d < 2 ^ (w - 1))
    ∧ (d = 2 ^ (w - 1) → serialLt a b = false ∧ serialLe a b = false)
    ∧ (serialLt a b = true → serialLt b a = false)

/-- R550: stack and channel of a T1 address, and that a frame lies wholly in one channel. -/
def Obligations.DramAddresses : Prop :=
  ∀ a : BitVec 64,
    frameOf a.toNat = (a.extractLsb' 12 26).toNat
    ∧ stackOf (frameOf a.toNat) = (a.extractLsb' 12 26).toNat % 8
    ∧ channelOf (frameOf a.toNat) = (a.extractLsb' 12 26).toNat / 8 % 32
    ∧ ∀ b : BitVec 64, b.extractLsb' 12 26 = a.extractLsb' 12 26 →
      stackOf (frameOf b.toNat) = stackOf (frameOf a.toNat) ∧ channelOf (frameOf b.toNat) = channelOf (frameOf a.toNat)

/-- R352: the fields of an endpoint and of a device ID. -/
def Obligations.EndpointFields : Prop :=
  ∀ e : BitVec 16,
    endpointDevice e.toNat = (e.extractLsb' 7 9).toNat
    ∧ endpointNumber e.toNat = (e.extractLsb' 0 7).toNat
    ∧ ∀ d : BitVec 9, deviceX d.toNat = (d.extractLsb' 5 4).toNat ∧ deviceY d.toNat = (d.extractLsb' 1 4).toNat
      ∧ deviceSide d.toNat = (d.extractLsb' 0 1).toNat

/-- R43: the correction of an offset in units of 1/16 ns: a device behind by more than 1 µs steps forward by the whole offset, one ahead by more
than 1 µs never steps back but slews at 500 ppm at most, and up to 1 µs either way it slews at 50 ppm at most; nothing else changes. -/
def Obligations.OffsetCorrection : Prop :=
  ∀ (off : Int) (d : Dev),
    (off < -16000 → correct off d = { d with
      sync.time := d.sync.time + BitVec.ofInt 64 (-off)
      sync.slew := 0
      sync.slewPpm := 0 })
    ∧ (16000 < off → correct off d = { d with
      sync.slew := -off
      sync.slewPpm := 500 })
    ∧ (-16000 ≤ off → off ≤ 16000 → correct off d = { d with
      sync.slew := -off
      sync.slewPpm := 50 })

/-- R542, R386, R387, R487: an event reaches every subscription and every logical device that takes it, and no other; RAS_LAST_EVENT holds it; a
Failure or Fatal event is followed by the In-Band Interrupt. No table of the device changes by it but those. The model's readings in it: log
entry 40. -/
def Obligations.EventPaths : Prop :=
  ∀ (w : Status) (tenant : Nat) (detail : List Nat) (s : Dev),
    let e : EventMsg := { status := w, tenant, device := s.par.deviceId, seq := 0, time := s.now, detail }
    let d := raise w tenant detail s
    d.auv.subs = s.auv.subs.map (fun u => if u.takes w tenant then u.push e else u)
    ∧ d.cxl.lds = s.cxl.lds.map (fun x => if ldTakes s x.1 x.2 tenant then (x.1, x.2.push e (logClass w)) else x)
    ∧ d.ras = { s.ras with
        lastStatus := w
        lastLog := logClass w
        lastTime := s.now }
    ∧ (2 ≤ logClass w → d.out.head? = some .ibi)
    ∧ d.auv.chans = s.auv.chans ∧ d.cxl.regions = s.cxl.regions ∧ d.sync = s.sync ∧ d.tt = s.tt ∧ d.kvs = s.kvs ∧ d.pfx = s.pfx
    ∧ d.att = s.att ∧ d.tir = s.tir ∧ d.fls = s.fls ∧ d.par = s.par ∧ d.cfg = s.cfg ∧ d.sec = s.sec ∧ d.pwr = s.pwr
    ∧ d.regs = s.regs ∧ d.counters = s.counters ∧ d.mem = s.mem

/-- R510: a counter counts up to 0xFFFF_FFFF and stays there; counting changes no other counter and no other part of the device, and keeps every
counter within 32 bits. -/
def Obligations.CountersSaturate : Prop :=
  ∀ (id : Nat) (s : Dev),
    mgetD (count id s).counters id 0 = min 0xFFFFFFFF (mgetD s.counters id 0 + 1)
    ∧ (∀ n, mgetD (countBy id n s).counters id 0 = min 0xFFFFFFFF (mgetD s.counters id 0 + n))
    ∧ (∀ j, j ≠ id → mgetD (count id s).counters j 0 = mgetD s.counters j 0)
    ∧ { count id s with counters := s.counters } = s
    ∧ ((∀ e ∈ s.counters, e.2 < 2 ^ 32) → ∀ e ∈ (count id s).counters, e.2 < 2 ^ 32)

/-- Memory: from a memory in canonical form, what is written is read back, every byte outside it reads as before, a cleared range reads as zero,
and every operation keeps the canonical form. That a byte that nothing has written reads as zero is the model's choice (log entry 3). The
model's readings in it: log entry 3. -/
def Obligations.MemoryLaws : Prop :=
  ∀ (m : List Host.Cell) (a : Nat) (bs : List Byte), Memory.wf m = true →
    memReadN (memWriteN m a bs) a bs.length = bs
    ∧ (∀ b, b < a ∨ a + bs.length ≤ b → memRead (memWriteN m a bs) b = memRead m b)
    ∧ (∀ n b, memRead (memClear m a n) b = if a ≤ b ∧ b < a + n then 0 else memRead m b)
    ∧ Memory.wf (memWriteN m a bs) = true
    ∧ ∀ n, Memory.wf (memClear m a n) = true

/-- R590, R588, R594, R365: release from internal reset begins start-up step 1 with the straps sampled; `PORST_n` low for 200 ns or more, a
stopped `CLK25_IN`, a rail trip and the removal of `VDD_AON` leave every field as at reset but what stays in the NVM, on the flash dies and
in the always-on island. R597, R554, R33, R595: the thermal trip drives its pins and records the sensor and changes nothing else; a level
shorter than 200 ns on a reset or strap pin only counts in RAS_GLITCH_COUNT; a package power above the profile's budget lowers the budget
clamp by 100 MHz; a sample with a sensor at or above throttle_c lowers the thermal clamp by 100 MHz. The model's readings in it: log entries
33, 34 and 49. -/
def Obligations.ResetsAndTrips : Prop :=
  ((∀ (s : State) (t : Time) (straps : Straps), s.dev.cfg.internalReset = true → s.dev.pwr.tripped = false →
    exec (.resetRelease t straps) s = .next ⟨s.pending, { s.at t with
      pwr.straps := straps
      pwr.rails := 0xFFF
      cfg.internalReset := false
      cfg.phase := .boot
      cfg.step := 1
      cfg.stepAt := (s.at t).now }⟩)
  ∧ (∀ (s : State) (t : Time) (heldNs : Nat), 200 ≤ heldNs → s.dev.cfg.nvmJobs = [] →
    exec (.porstLow t heldNs) s = .next ⟨s.pending, { Dev.reset with
      out := s.dev.out
      free := s.dev.free
      cfg.bankA := s.dev.cfg.bankA
      cfg.bankB := s.dev.cfg.bankB
      sec.copy0 := s.dev.sec.copy0
      sec.copy1 := s.dev.sec.copy1
      fls.roots := s.dev.fls.roots
      auv.aonEpoch := s.dev.auv.aonEpoch
      pwr.rails := s.dev.pwr.rails
      pwr.thermtrip := s.dev.pwr.thermtrip
      pwr.tripSensor := s.dev.pwr.tripSensor
      pwr.railFault := s.dev.pwr.railFault }⟩)
  ∧ (∀ (s : State) (t : Time) (stoppedNs : Nat), 1000 ≤ stoppedNs →
    exec (.clk25Stop t stoppedNs) s = .next ⟨s.pending, { deviceReset s.dev with
      pwr.tripped := s.dev.pwr.tripped
      pwr.thermtripPin := s.dev.pwr.thermtripPin }⟩)
  ∧ (∀ (s : State) (t : Time) (rail outsideNs : Nat), 1000 ≤ outsideNs →
    exec (.railMonitorTrip t rail outsideNs) s = .next ⟨s.pending, { deviceReset s.dev with
      pwr.tripped := s.dev.pwr.tripped
      pwr.thermtripPin := s.dev.pwr.thermtripPin
      pwr.rails := s.dev.pwr.rails &&& ~~~(BitVec.ofNat 12 (2 ^ rail))
      pwr.railFault := s.dev.pwr.railFault ||| BitVec.ofNat 12 (2 ^ rail) }⟩)
  ∧ (∀ (s : State) (t : Time),
    exec (.vddAonRemoval t) s = .next ⟨s.pending, { deviceReset s.dev with
      auv.aonEpoch := none
      pwr.rails := 0
      pwr.thermtrip := false
      pwr.tripSensor := 0
      pwr.railFault := 0 }⟩))
  ∧ ((∀ (s : State) (t : Time) (sensor celsius heldNs : Nat), 115 ≤ celsius → 10000 ≤ heldNs → s.dev.pwr.tripped = false →
    exec (.thermalTrip t sensor celsius heldNs) s = .next ⟨s.pending, { s.dev with
      pwr.tripped := true
      pwr.thermtripPin := true
      pwr.nandWpLow := true
      pwr.thermtrip := true
      pwr.tripSensor := sensor }⟩)
  ∧ (∀ (s : State) (t : Time) (pin : ResetPin) (heldNs : Nat), heldNs < 200 →
    exec (.resetGlitchFiltered t pin heldNs) s = .next ⟨s.pending, count Reg.rasGlitchCount s.dev⟩
    ∧ exec (.porstLow t heldNs) s = .next ⟨s.pending, count Reg.rasGlitchCount s.dev⟩)
  ∧ (∀ (s : State) (t : Time) (milliwatts : Nat), Awake s → profileMilliwatts (s.at t).tt.profile < milliwatts →
    exec (.powerBudgetTick t milliwatts) s = .next ⟨s.pending, raiseDev St.pwrBudgetClamp { s.at t with
      pwr.budgetMhz := (s.at t).pwr.budgetMhz - 100
      pwr.budgetClamp := true
      pwr.coreMhz := min ((s.at t).pwr.budgetMhz - 100) (s.at t).pwr.thermalMhz }⟩)
  ∧ (∀ (s : State) (t : Time) (celsius : List Nat), Awake s → (s.at t).pwr.thermalClamp = false →
    (s.at t).throttleC ≤ (hottestFrom 0 0 0 (celsius.take 93)).2 →
    exec (.sensorSample t celsius) s = .next ⟨s.pending, raiseDev St.pwrBudgetClamp { s.at t with
      pwr.hottest := (hottestFrom 0 0 0 celsius).1
      pwr.maxC := (hottestFrom 0 0 0 (celsius.take 93)).2
      pwr.stackMaxC := (hottestFrom 0 0 0 (celsius.drop 93)).2
      pwr.thermalMhz := (s.at t).pwr.thermalMhz - 100
      pwr.thermalClamp := true
      pwr.thermalAt := (s.at t).now
      pwr.coreMhz := min (s.at t).pwr.budgetMhz ((s.at t).pwr.thermalMhz - 100) }⟩))

/-- R566, R567, R563: the five steps of an entry: POWER_REQUEST for RET puts an ON domain into ASKING, the owner's ACK takes it to QUIESCING and
a DEFER to DRAINING, the end of the drain to QUIESCING, E3 to CLAMPING, E4 to LOWERING, E5 to RET. Each changes that one domain (and the
request's outcome), and nothing else of the device. The model's readings in it: log entry 50. -/
def Obligations.PowerEntrySteps : Prop :=
  (∀ (s : State) (t : Time) (rq : Requester) (d : Nat), Admits s t rq true → d < 106 → onOnly d = false →
    ((s.at t).domain d).state = .on →
    exec (.powerRequest t rq d 1 1) s = .next ⟨s.pending, modDomain d (fun q => { q with
      state := .asking
      target := 1
      entryAt := (s.at t).now
      fromOn := true
      wakeHeld := none
      pendingOn := false })
      { s.at t with pwr.waits := (s.at t).pwr.waits ++ [{ rq, first := d, count := 1, target := 1, outcome := [] }] }⟩)
  ∧ (∀ (s : State) (t : Time) (d : Nat) (v : OwnerView), Awake s → ((s.at t).domain d).state = .asking → d ≠ 103 →
    ownerSays (s.at t) d ((s.at t).domain d).target v = .ack →
    exec (.ownerAnswer t d v) s = .next ⟨s.pending, modDomain d (fun q => { q with state := .quiescing }) (s.at t)⟩)
  ∧ (∀ (s : State) (t : Time) (d : Nat) (v : OwnerView) (w : Option Time), Awake s → ((s.at t).domain d).state = .asking →
    d ≠ 103 → ownerSays (s.at t) d ((s.at t).domain d).target v = .defer w →
    exec (.ownerAnswer t d v) s = .next ⟨s.pending, modDomain d (fun q => { q with
      state := .draining
      drainBy := drainLimit q.entryAt w }) (s.at t)⟩)
  ∧ (∀ (s : State) (t : Time) (d : Nat), Awake s → ((s.at t).domain d).state = .draining →
    exec (.drainEnd t d) s = .next ⟨s.pending, modDomain d (fun q => { q with state := .quiescing }) (s.at t)⟩)
  ∧ (∀ (s : State) (t : Time) (d : Nat), Awake s → ((s.at t).domain d).state = .quiescing →
    ((s.at t).domain d).wakeHeld = none →
    exec (.quiesceComplete t d) s = .next ⟨s.pending, modDomain d (fun q => { q with state := .clamping }) (s.at t)⟩)
  ∧ (∀ (s : State) (t : Time) (d : Nat), Awake s → ((s.at t).domain d).state = .clamping →
    ((s.at t).domain d).wakeHeld = none → isPortDomain d = false →
    exec (.clampComplete t d) s = .next ⟨s.pending, modDomain d (fun q => { q with state := .lowering }) (s.at t)⟩)
  ∧ (∀ (s : State) (t : Time) (d : Nat), Awake s → ((s.at t).domain d).state = .lowering →
    ((s.at t).domain d).wakeHeld = none → ((s.at t).domain d).target = 1 →
    exec (.lowerComplete t d) s = .next ⟨s.pending, settle d PowerWait.forEntry St.ok 0
      (count Reg.pwrEntryCount (modDomain d (fun q => { q with state := .ret }) (s.at t)))⟩)

/-- R564, R567, R568, R573, R576, R577, R571, R574: a drain that has run out of its time is refused with PWR_DRAIN_TIMEOUT, reason 11; a wake in
E1 or E2 abandons the entry at abort point 1, a wake in E3 to E5 is held, one in RET begins WAKING and one on a domain that is ON or waking
changes nothing; a wake that ends leaves the domain ON; an idle domain with auto_ret is asked to leave ON. R572: at its lead time, each
domain that the next slot of that index needs and whose wake could otherwise not end before the slot's start wakes with source 7, timetable
lead. The model's readings in it: log entries 50 and 51. -/
def Obligations.PowerWakes : Prop :=
  ((∀ (s : State) (t : Time) (d : Nat), Awake s → ((s.at t).domain d).state = .draining →
    serialLe ((s.at t).domain d).drainBy (s.at t).now = true →
    exec (.drainTimeout t d) s = .next ⟨s.pending, settle d PowerWait.forEntry St.pwrDrainTimeout 11
      (count Reg.pwrNakCount (modDomain d (fun q => { q with
        state := if q.fromOn then .on else .ret
        target := if q.fromOn then 0 else 1
        lastReason := 11
        idleSince := (s.at t).now }) (s.at t)))⟩)
  ∧ (∀ (s : State) (t : Time) (d source : Nat), Awake s → neverWakes (s.at t) d = false →
    (((s.at t).domain d).state = .asking ∨ ((s.at t).domain d).state = .draining) → ((s.at t).domain d).fromOn = true →
    exec (.domainWake t d source) s = .next ⟨s.pending, settle d PowerWait.forOn St.ok 0
      (settle d PowerWait.forEntry St.pwrAborted 0
        (raise St.pwrAborted deviceWide [d, 1] (count Reg.pwrAbortCount (modDomain d (fun q => { q with
          state := .on
          target := 0
          pendingOn := false
          aborted := true
          wakeHeld := none
          wakeSource := source
          wakeDuring := true
          wakeAbort := 1
          wakeTime := (s.at t).now
          idleSince := (s.at t).now }) (s.at t)))))⟩)
  ∧ (∀ (s : State) (t : Time) (d source : Nat), Awake s → neverWakes (s.at t) d = false →
    (((s.at t).domain d).state = .quiescing ∨ ((s.at t).domain d).state = .clamping) → ((s.at t).domain d).wakeHeld = none →
    exec (.domainWake t d source) s = .next ⟨s.pending, modDomain d (fun q => { q with
      wakeHeld := some source
      wakeTime := (s.at t).now }) (s.at t)⟩)
  ∧ (∀ (s : State) (t : Time) (d source : Nat), Awake s → neverWakes (s.at t) d = false → isPortDomain d = false →
    ((s.at t).domain d).state = .ret →
    exec (.domainWake t d source) s = .next ⟨s.pending, modDomain d (fun q => { q with
      state := .waking
      target := 0
      pendingOn := false
      wakeHeld := none
      wakeSource := source
      wakeDuring := false
      wakeAbort := 0
      wakeTime := (s.at t).now }) (s.at t)⟩)
  ∧ (∀ (s : State) (t : Time) (d source : Nat), Awake s →
    (((s.at t).domain d).state = .on ∨ ((s.at t).domain d).state = .waking ∨ ((s.at t).domain d).state = .poweringUp) →
    exec (.domainWake t d source) s = .next ⟨s.pending, s.at t⟩)
  ∧ (∀ (s : State) (t : Time) (d : Nat), Awake s → ((s.at t).domain d).state = .waking →
    exec (.wakeComplete t d) s = .next ⟨s.pending, settle d PowerWait.forOn St.ok 0
      (modDomain d (fun q => { q with state := .on, idleSince := (s.at t).now }) (s.at t))⟩)
  ∧ (∀ (s : State) (t : Time) (d : Nat), Awake s → (s.at t).autoRet d = 1 → (s.at t).autoOff d = 0 →
    ((s.at t).domain d).state = .on → onOnly d = false →
    past ((s.at t).domain d).idleSince (us ((s.at t).idleUs d)) (s.at t).now = true →
    tooLateToEnter (s.at t) d 1 = false →
    exec (.idlePolicyTimeout t d) s = .next ⟨s.pending, modDomain d (fun q => { q with
      state := .asking
      target := 1
      entryAt := (s.at t).now
      fromOn := true
      wakeHeld := none
      pendingOn := false }) (s.at t)⟩))
  ∧ (∀ (s : State) (t : Time) (slot : Nat) (start : Time) (e : SlotEntry), Awake s →
    firstBy (fun a b => serialLt a.1 b.1) ((slotsAhead (s.at t)).filter fun x => decide (x.2.slot = slot)) = some (start, e) →
    e.cls = .result → ((s.at t).domain (87 + e.port)).state = .ret → isPortDomain (87 + e.port) = true →
    serialLe start ((s.at t).now + ns 10000) = true → neverWakes (s.at t) (87 + e.port) = false →
    exec (.timetableLeadWake t slot) s = .next ⟨s.pending, trainPort e.port (emit (.wakeSet e.port)
      (modDomain (87 + e.port) (fun q => { q with
        state := .waking
        target := 0
        pendingOn := false
        wakeHeld := none
        wakeSource := 7
        wakeDuring := false
        wakeAbort := 0
        wakeTime := (s.at t).now }) (s.at t)))⟩)

/-- R40, R43, R41, R48, R82: a follower takes the measured offset less the link's asymmetry, corrects for it and judges its lock; the interval
timer opens an exchange on every link that is up; a valid edge of `PPS_IN` at the acting grandmaster steers its slew to the nearest whole
second, and two seconds without one raise IAT_PPS_MISSING; a read of the low half of fabric time latches the high half. The model's readings
in it: log entry 46. -/
def Obligations.SyncExchanges : Prop :=
  (∀ (s : State) (t : Time) (port : Nat) (m : SyncMsg), Awake s → keepsTime (s.at t) = true →
    (follow (hear port m (s.at t))).sync.gmSelf = false → (follow (hear port m (s.at t))).sync.followed = some port →
    let d := follow (hear port m (s.at t))
    let off := exchangeOffset m - (d.port port).asym.toInt
    exec (.sync t port m) s = .next ⟨s.pending, judgeOffset off (correct off { d with sync.offset := BitVec.ofInt 32 off })⟩)
  ∧ (∀ (s : State) (t : Time), Awake s → keepsTime (s.at t) = true → (s.at t).sync.gmSelf = true →
    exec (.syncInterval t) s = .next ⟨s.pending, forL ((List.range 13).filter (s.at t).linkUp)
      (fun p d => emit (.syncOut p) (sendControl p 0x0D (128 * (d.port p).farDevice) d))
      { s.at t with
        sync.exchanges := (List.range 13).filter (s.at t).linkUp
        sync.gmAnnounce := (s.at t).sync.gmAnnounce + 1 }⟩)
  ∧ (∀ (s : State) (t : Time) (highNs : Nat), Awake s → keepsTime (s.at t) = true → (s.at t).ppsEnable = 1 →
    (s.at t).sync.gmSelf = true → 100 ≤ highNs → highNs ≤ 500000000 → 2 * ((s.at t).now.toNat % secondUnits) ≤ secondUnits →
    exec (.ppsInEdge t highNs) s = .next ⟨s.pending, { s.at t with
      sync.slew := -(((s.at t).now.toNat % secondUnits : Nat) : Int)
      sync.slewPpm := 50
      sync.ppsAt := some (s.at t).now }⟩)
  ∧ (∀ (s : State) (t last : Time), Awake s → keepsTime (s.at t) = true → (s.at t).ppsEnable = 1 →
    (s.at t).sync.gmSelf = true → (s.at t).sync.ppsAt = some last → past last (ms 2000) (s.at t).now = true →
    exec (.ppsMissingTimeout t) s = .next ⟨s.pending, raiseDev St.iatPpsMissing { s.at t with
      sync.ppsMissing := true
      sync.slew := 0
      sync.ppsAt := none }⟩)
  ∧ (∀ (s : State) (t : Time) (rq : Requester), Awake s → isOperator (s.at t) rq = true →
    exec (.fabricTimeReadLow t rq) s = .next ⟨s.pending, emit (.regValue rq ((s.at t).now &&& 0xFFFFFFFF#64)) { s.at t with
      sync.latchedHigh := some (((s.at t).now >>> 32).setWidth 32) }⟩)
  ∧ (∀ (s : State) (t : Time) (rq : Requester), Awake s → isOperator (s.at t) rq = false →
    exec (.fabricTimeReadLow t rq) s = .next ⟨s.pending, emit (.regValue rq 0) (s.at t)⟩)

/-- R43, R45, R37, R44, R46: eight intervals of silence take a LOCKED follower to HOLDOVER, and 10 ms of it to FREE without the determinism
promise; an announce counter that stands for eight intervals makes the device elect among those that do not follow the silent grandmaster; a
device that hears nobody for 1 s in the ACQUIRE of its start-up becomes grandmaster, LOCKED; the grandmaster that the image names takes the
role back after 1 s. The model's readings in it: log entry 46. -/
def Obligations.SyncTimeouts : Prop :=
  (∀ (s : State) (t : Time), Awake s → keepsTime (s.at t) = true → (s.at t).sync.state = .locked →
    (s.at t).sync.gmSelf = false → past (s.at t).sync.lastSync (eightIntervals (s.at t)) (s.at t).now = true →
    exec (.syncSilenceTimeout t) s = .next ⟨s.pending, raiseDev St.iatHoldover { s.at t with
      sync.state := .holdover
      sync.since := (s.at t).now }⟩)
  ∧ (∀ (s : State) (t : Time), Awake s → keepsTime (s.at t) = true → (s.at t).sync.state = .holdover →
    past (s.at t).sync.since (ms 10) (s.at t).now = true →
    exec (.holdoverTimeout t) s = .next ⟨s.pending, raiseDev St.iatUnsync { s.at t with
      sync.state := .free
      sync.since := (s.at t).now
      sync.promise := false
      sync.good := 0
      sync.bad := 0 }⟩)
  ∧ (∀ (s : State) (t : Time), Awake s → keepsTime (s.at t) = true → (s.at t).sync.state = .locked →
    (s.at t).sync.gmSelf = false → past (s.at t).sync.gmAnnounceAt (eightIntervals (s.at t)) (s.at t).now = true →
    let d := { s.at t with sync.peers := mkeep (s.at t).sync.peers fun _ q => decide (q.gmDevice ≠ (s.at t).sync.gmDevice) }
    (follow d).sync.gmDevice ≠ (s.at t).sync.gmDevice →
    exec (.gmAnnounceTimeout t) s = .next ⟨s.pending, follow d⟩)
  ∧ (∀ (s : State) (t : Time), Awake s → (s.at t).cfg.phase = .sync → (s.at t).sync.state = .acquire →
    (s.at t).sync.starting = true → (s.at t).sync.heard = false →
    past (s.at t).sync.since (ms 1000) (s.at t).now = true →
    exec (.acquireTimeout t) s = .next ⟨s.pending, enterLocked (raiseDev St.iatGmChange { s.at t with
      sync.gmSelf := true
      sync.gmDevice := (s.at t).par.deviceId
      sync.hops := 0
      sync.followed := none })⟩)
  ∧ (∀ (s : State) (t since : Time), Awake s → keepsTime (s.at t) = true → namedGm (s.at t) = some (s.at t).par.deviceId →
    (s.at t).sync.namedSince = some since → (s.at t).sync.gmSelf = false → (s.at t).sync.state = .locked →
    past since (ms 1000) (s.at t).now = true →
    exec (.gmReturn t) s = .next ⟨s.pending, raiseDev St.iatGmChange { s.at t with
      sync.gmSelf := true
      sync.gmDevice := (s.at t).par.deviceId
      sync.hops := 0
      sync.followed := none
      sync.namedSince := none
      sync.slew := 0 }⟩)

/-- R49, R65, R73, R74: at the end of the running frame, or at the effective time of a pending timetable, the next frame starts: its number
follows, and in this order the pending timetable or a due variant takes over, committed transactions and models, then batch changes take
force, and then late notices of vanished slots go out. R78, R79: a set that arrives on the distribution channel in time and passes its
checks becomes the pending one and is told to the partner; one whose effective time is less than a frame away raises IAT_DIST_LATE and is
reported to its sender; a device that has not begun timetabled service adopts a running fabric's timetable, frame number and boundary. The
model's readings in it: log entry 47. -/
def Obligations.FrameStarts : Prop :=
  ((∀ (s : State) (t : Time), Awake s → (s.at t).tt.started = true → (s.at t).tt.pending = none →
    serialLe (s.at t).nextBoundary (s.at t).now = true →
    exec (.frameBoundary t) s = .next ⟨s.pending, startFrame (s.at t).nextBoundary none (s.at t)⟩)
  ∧ (∀ (s : State) (t : Time) (p : PendingTt), Awake s → (s.at t).tt.pending = some p →
    serialLe p.effective (s.at t).now = true →
    exec (.timetableActivate t) s = .next ⟨s.pending, startFrame p.effective (some p) (s.at t)⟩)
  ∧ (∀ (d : Dev) (b : Time), d.tt.started = true → (advanceFrame b d).tt.frame = d.tt.frame + 1
    ∧ (advanceFrame b d).tt.frameStart = b ∧ (advanceFrame b d).tt.running = d.tt.running)
  ∧ (∀ (d : Dev) (b : Time) (p : PendingTt), d.tt.started = true →
    let d1 := batchBoundary b (modelBoundary (txnBoundary b (variantBoundary b (activatePending p (advanceFrame b d)))))
    startFrame b (some p) d = flashStep (ckptBoundary (flushResync (mirrorLag (forgetFrames
      (if d1.tt.running = d.tt.running then d1 else removedSlots b d1)))))))
  ∧ ((∀ (s : State) (t : Time) (sender : Nat) (set : List Timetable) (effective : Time), Awake s →
    (s.at t).serving = true → (s.at t).tt.started = true → distributionFault (s.at t) set effective = St.ok →
    exec (.timetableDistribution t sender (.activation set effective)) s
      = .next ⟨s.pending, tell (.timetable set effective) (setPending set effective (s.at t))⟩)
  ∧ (∀ (s : State) (t : Time) (sender : Nat) (set : List Timetable) (effective : Time), Awake s →
    (s.at t).serving = true → (s.at t).tt.started = true →
    serialLt effective ((s.at t).now + BitVec.ofNat 64 (s.at t).frameUnits) = true →
    let d := raiseDev St.iatDistLate (s.at t)
    exec (.timetableDistribution t sender (.activation set effective)) s
      = .next ⟨s.pending, sendMsg (128 * sender) 0x0C 6 0 1 0 32 0 false [] (emit (.peerEvent sender { status := St.iatDistLate, tenant := deviceWide, device := d.par.deviceId, seq := 0, time := d.now, detail := [] }) d)⟩)
  ∧ (∀ (s : State) (t : Time) (sender : Nat) (id : BitVec 16) (frame : Frame) (next : Time), Awake s →
    (s.at t).tt.started = false → (s.at t).cfg.phase ≠ .run → ((s.at t).tt.set.find? fun x => decide (x.id = id)) = none →
    exec (.timetableDistribution t sender (.running id frame next)) s = .next ⟨s.pending, { s.at t with
      tt.adopted := some (id, frame, next) }⟩))

/-- R493: of two valid banks that are not excluded, neither with a security version below the floor, the one with the serially greater image_seq
boots; with equal numbers, or numbers 2^31 apart, bank A boots; a single such bank boots, and where there is none, none does; the bank not
booted is the one that a running device writes. The model's readings in it: log entry 28. -/
def Obligations.BankChoice : Prop :=
  ∀ d : Dev,
    (∀ a b : Image, goodBanks d = [(false, a), (true, b)] → b.secFloor ≤ a.secVersion → a.secFloor ≤ b.secVersion →
      a.secFloor ≤ a.secVersion → b.secFloor ≤ b.secVersion →
      (serialLt a.seq b.seq = true → selectBank d = some (true, b))
      ∧ (serialLt b.seq a.seq = true → selectBank d = some (false, a))
      ∧ (a.seq = b.seq ∨ (b.seq - a.seq).toNat = 2 ^ 31 → selectBank d = some (false, a)))
    ∧ (∀ (x : Bool) (a : Image), goodBanks d = [(x, a)] → a.secFloor ≤ a.secVersion → selectBank d = some (x, a))
    ∧ (goodBanks d = [] → selectBank d = none)
    ∧ ∀ (x : Bool) (a : Image), (x, a) ∈ goodBanks d ↔
      (d.cfg.excluded.contains x = false ∧ bankAt d x = some a ∧ bankValid d (some a) = true)

/-- R502, R526, R365, R494, R561: a passed self-test takes the identity, draws the epoch and goes to step 2; a chosen bank that both cores
verified and whose sections hold boots at step 3, and one on which they disagree is refused with RAS_VERIFY_DISAGREE, which names it. R502,
R16, R551, R307, R308, R337, R338, R503: the end of DRAM training places the cores, divides T1 and checks the part; the end of discovery
fixes the fitted dies and loads the remap table; the end of recovery restores the tables of the chosen root, or none with FLS_CKPT_LOST,
loads the models and begins synchronisation; a step's limit that passes raises CFG_STEP_TIMEOUT with its number, and that of step 3 leads to
recovery with CFG_DRAM_TRAIN. The model's readings in it: log entries 28, 29, 30 and 31. -/
def Obligations.StartupSteps : Prop :=
  ((∀ (s : State) (t : Time) (derived : BitVec 256), Awake s → (s.at t).cfg.phase = .boot →
    let d := firstEpoch (takeIdentity derived { s.at t with ras.running := [0, 1, 2, 3] })
    d.pwr.straps.rcv = false →
    exec (.romSelftestDone t true derived) s = .next ⟨s.pending, { d with
      cfg.phase := .verify
      cfg.step := 2
      cfg.stepAt := d.now }⟩)
  ∧ (∀ (s : State) (t : Time) (derived : BitVec 256), Awake s → (s.at t).cfg.phase = .boot → (s.at t).cfg.romFailed = true →
    exec (.romSelftestDone t false derived) s = .next ⟨s.pending, raiseDev St.cfgRomFail { s.at t with
      cfg.phase := .halted
      cfg.step := 0 }⟩)
  ∧ (∀ (s : State) (t : Time) (b : Bool) (img : Image), Awake s → (s.at t).cfg.phase = .verify →
    selectBank (checkBanks (s.at t)) = some (b, img) → sectionsHold img.body = true →
    exec (.bankVerifyDone t true true true) s = .next ⟨s.pending, bootImage b img (checkBanks (s.at t))⟩)
  ∧ (∀ (s : State) (t : Time) (b : Bool) (img : Image), Awake s → (s.at t).cfg.phase = .verify →
    selectBank (checkBanks (s.at t)) = some (b, img) →
    exec (.bankVerifyDone t true true false) s
      = .next ⟨s.pending, bankFails b (raise St.rasVerifyDisagree deviceWide [b.toNat] (checkBanks (s.at t)))⟩))
  ∧ ((∀ (s : State) (t : Time) (part : Nat) (healthy : List Nat), Awake s → (s.at t).cfg.phase = .train →
    exec (.dramTrainingDone t part [] healthy) s = .next ⟨s.pending, poolAndPart (placeCores healthy { s.at t with
      pwr.part := part })⟩)
  ∧ (∀ (s : State) (t : Time) (found : List DieFound) (d : DieFound) (k : Nat), Awake s → (s.at t).cfg.phase = .nand →
    (∀ x ∈ found, dieOk (s.at t) x = true) → (∀ x ∈ found, x.slot ≤ k ∧ x.channel < 64 ∧ k < 16) →
    let accepted := (List.range 1024).filter fun n => found.any fun x => decide (dieNumber x = n)
    fittedCount accepted = k + 1 → (found.find? fun x => decide (dieNumber x = 0)) = some d →
    ((s.at t).cfg.image.any fun i => decide (k + 1 < i.body.minDies)) = false →
    exec (.nandDiscoveryDone t found) s = .next ⟨s.pending, toStep .restore 5
      (loadRemap (found.filter fun x => decide (x.slot ≤ k)) { s.at t with
        fls.refused := []
        fls.dies := accepted.map fun n => (n, { state := .active, timeouts := 0 })
        fls.diesPerChannel := k + 1
        fls.groups := 4 * (k + 1)
        fls.planes := d.params.planes
        fls.blocksPerPlane := d.params.blocksPerPlane
        fls.pagesPerBlock := d.params.pagesPerBlock
        fls.tReadMaxNs := d.params.tReadMaxNs
        fls.dieRetryLevels := d.params.retryLevels })⟩)
  ∧ (∀ (s : State) (t : Time) (readable : List (BitVec 32)) (lost : List Nat), Awake s → (s.at t).cfg.phase = .restore →
    exec (.directoryRecoveryDone t readable lost) s
      = .next ⟨s.pending, toSync (loadModels (recoverDirectory readable lost (s.at t)))⟩)
  ∧ (∀ (d : Dev) (readable : List (BitVec 32)) (lost : List Nat), chosenRoot d.fls.roots readable = none →
    recoverDirectory readable lost d = raiseDev St.flsCkptLost { d with
      fls.ckptLost := true
      fls.roots := [] })
  ∧ (∀ (s : State) (t : Time), Awake s → stepDue 3 (s.at t) = true →
    exec (.startupStepTimeout t 3) s
      = .next ⟨s.pending, recoverFrom St.cfgDramTrain (raise St.cfgStepTimeout deviceWide [3] (s.at t))⟩)
  ∧ (∀ (s : State) (t : Time), Awake s → stepDue 4 (s.at t) = true →
    exec (.startupStepTimeout t 4) s = .next ⟨s.pending, raise St.cfgStepTimeout deviceWide [4] (s.at t)⟩))

/-- R423, R424, R426, R433, R437: a change of pair state: ISOLATED refuses it; SUSPECT holds it once its checks pass; side B of a pair proposes
it; the leader applies it, and answers at once when it is alone, with the next commit sequence number; a change whose checks fail answers
its status and advances nothing. The model's readings in it: log entries 35 and 36. -/
def Obligations.PairChangePaths : Prop :=
  ∀ (rq : Requester) (op : PairOp) (b : Option Time) (ap : Dev → Applied) (d : Dev),
    (d.par.state = .isolated → pairChange rq op b ap d = reply rq St.parIsolated [] d)
    ∧ (d.par.state = .suspect → (ap d).status = St.ok → pairChange rq op b ap d = hold rq op (ap d).fields d)
    ∧ (d.par.state = .paired → d.sideA = false → (ap d).status = St.ok →
        pairChange rq op b ap d = propose rq op b (ap d).fields d)
    ∧ (d.par.state = .solo → pairChange rq op b ap d = leaderApply rq op b ap d)
    ∧ ((ap d).status ≠ St.ok → leaderApply rq op b ap d = reply rq (ap d).status (ap d).fields (ap d).state)
    ∧ ((ap d).status = St.ok → (ap d).state.par.state = .solo →
        leaderApply rq op b ap d = reply rq St.ok (ap d).fields { (ap d).state with
          par.commitSeq := (ap d).state.par.commitSeq + 1 })

/-- R92, R127 to R132: on a device that decides alone, each SEQ_ADMIN command that passes its checks is applied as the leader's pair commit of
its kind, and QUERY answers the fields of the sequence and changes nothing. R84, R92, R132, R64: what the commits do to the sequence that
the handle names: PARK of a SEATED sequence begins its park and of a PARKED one changes nothing, JOIN and LEAVE queue a batch change with
the time of acceptance, and a LOST sequence refuses them with KVS_LOST. The model's readings in it: log entries 35 and 54. -/
def Obligations.SeqAdmin : Prop :=
  ((∀ (s : State) (t : Time) (rq : Requester) (tenant model format scope : Nat) (f : Format) (k : Nat), Admits s t rq false →
    Alone s t → formatOf format = some f → tenantOk (s.at t) rq tenant = true → tenantValid (s.at t) tenant = true →
    modelLoaded (s.at t) model = true → isMember (s.at t) tenant (namedScope (s.at t) tenant scope) = true →
    (takeIndex (s.at t)).isSome = true → seekSeat (s.at t) model none = .seat k →
    let sc := namedScope (s.at t) tenant scope
    let b := !(s.at t).sideA
    exec (.seqAdminOpen t rq tenant model format scope) s = .next ⟨s.pending, leaderApply rq (.seqOpen b tenant model f sc) none (applyOpen b tenant model f sc) (s.at t)⟩)
  ∧ (∀ (s : State) (t : Time) (rq : Requester) (tenant : Nat) (handle : BitVec 32) (i : Nat) (q : Seq), Admits s t rq false →
    Alone s t → checkSeq (s.at t) rq tenant handle true = (St.ok, i) → mget (s.at t).kvs.seqs i = some q →
    (q.state ≠ .resuming → exec (.seqAdminClose t rq tenant handle) s = .next ⟨s.pending, leaderApply rq (.seqClose handle) none (applyClose handle (.seqAdminClose t rq tenant handle)) (s.at t)⟩)
    ∧ (q.state = .seated → exec (.seqAdminPark t rq tenant handle) s = .next ⟨s.pending, leaderApply rq (.seqPark handle) none (applyPark handle) (s.at t)⟩)
    ∧ (∀ k, q.state = .parked → seekSeat (s.at t) q.model q.prevSeat = .seat k →
      exec (.seqAdminResume t rq tenant handle) s = .next ⟨s.pending, leaderApply rq (.seqResume handle) none (applyResume handle) (s.at t)⟩)
    ∧ (∀ len, q.state = .seated → q.held = [] → returning (s.at t) i = false → len ≤ q.length →
      exec (.seqAdminTruncate t rq tenant handle len) s = .next ⟨s.pending, leaderApply rq (.seqTruncate handle len) none (applyTruncate handle len) (s.at t)⟩)
    ∧ (∀ stream position, (applyJoin handle stream position (s.at t)).status = St.ok →
      exec (.seqAdminJoin t rq tenant handle stream position) s = .next ⟨s.pending, leaderApply rq (.seqJoin handle stream position) (some (s.at t).nextBoundary) (applyJoin handle stream position) (s.at t)⟩)
    ∧ (∀ stream, (applyLeave handle stream (s.at t)).status = St.ok →
      exec (.seqAdminLeave t rq tenant handle stream) s = .next ⟨s.pending, leaderApply rq (.seqLeave handle stream) (some (s.at t).nextBoundary) (applyLeave handle stream) (s.at t)⟩))
  ∧ (∀ (s : State) (t : Time) (rq : Requester) (tenant : Nat) (handle : BitVec 32) (i : Nat), Admits s t rq false →
    checkSeq (s.at t) rq tenant handle false = (St.ok, i) →
    exec (.seqAdminQuery t rq tenant handle) s = .next ⟨s.pending, reply rq St.ok (seqFields (s.at t) i) (s.at t)⟩))
  ∧ (∀ (d : Dev) (handle : BitVec 32) (i : Nat) (q : Seq), findSeq d handle = some (i, q) →
    (q.state = .seated → (applyPark handle d).state = startPark i none d ∧ (applyPark handle d).status = St.ok)
    ∧ (q.state = .parked → applyPark handle d = { status := St.ok, fields := seqFields d i, state := d })
    ∧ (q.state = .lost → ∀ stream position, applyPark handle d = { status := St.kvsLost, fields := seqFields d i, state := d }
        ∧ applyJoin handle stream position d = { status := St.kvsLost, fields := seqFields d i, state := d }
        ∧ applyLeave handle stream d = { status := St.kvsLost, fields := seqFields d i, state := d })
    ∧ (∀ stream position, q.state ≠ .lost → isAttendStream d stream = true → position < 4096 →
        mhas (batchAfter d) (batchKey stream position) = false → positionHeld d stream handle = none →
        applyJoin handle stream position d = { status := St.ok, fields := seqFields d i, state := { d with
          tt.batchChanges := d.tt.batchChanges ++ [{ stream, position, handle := some handle, since := d.now }] } })
    ∧ (∀ stream position, q.state ≠ .lost → isAttendStream d stream = true → positionHeld d stream handle = some position →
        applyLeave handle stream d = { status := St.ok, fields := seqFields d i, state := { d with
          tt.batchChanges := d.tt.batchChanges ++ [{ stream, position, handle := none, since := d.now }] } }))

/-- R110 to R112, R95: an APPEND on a SEATED sequence of class M0 or M1 is applied whole or not at all, and answers the new layer length or the
status of the check that failed; an idle SEATED sequence of this side begins to park. R92, R267, R85, R96, R98: a park whose saved areas are
in T2 and whose moves are done frees the seat and leaves the sequence PARKED; a resume with nothing left in T2 leaves it SEATED and runs
what was held; the end of a CLOSING sequence frees its index; a held APPEND or TRUNCATE that has waited 200 µs is refused with KVS_RESUMING,
and an OPEN that has waited 5 ms for a seat with KVS_NO_SEAT. The model's readings in it: log entries 37, 54 and 55. -/
def Obligations.SequenceLife : Prop :=
  ((∀ (s : State) (t : Time) (rq : Requester) (m : AppendMsg) (i : Nat) (q : Seq), Serves s t → (s.at t).par.state ≠ .isolated →
    tenantOf (s.at t) rq = some q.tenant → findSeq (s.at t) m.handle = some (i, q) → ownsSeq (s.at t) i = true →
    q.state = .seated → q.held = [] → returning (s.at t) i = false → q.mirror ≠ .m2 →
    let r := applyAppend m none (s.at t)
    exec (.append t rq m) s = .next ⟨s.pending, reply rq r.status r.fields r.state⟩)
  ∧ (∀ (d : Dev) (m : AppendMsg) (i : Nat) (q : Seq), findSeq d m.handle = some (i, q) →
    (appendCheck d q m = St.ok →
      (applyAppend m none d).status = St.ok ∧ (applyAppend m none d).fields = [m.position + m.count])
    ∧ (appendCheck d q m ≠ St.ok → appendCheck d q m ≠ St.kvsBattFull →
      applyAppend m none d = { status := appendCheck d q m, fields := [], state := d })
    ∧ (appendCheck d q m = St.kvsBattFull →
      applyAppend m none d = { status := St.kvsBattFull, fields := [], state := { d with kvs.battFull := true } }))
  ∧ (∀ (s : State) (t : Time) (i : Nat) (q : Seq), Serves s t → mget (s.at t).kvs.seqs i = some q → q.state = .seated →
    (s.at t).idleParkK ≠ 0 → (s.at t).tt.profile ≠ .density → ownsSeq (s.at t) i = true → (s.at t).par.state ≠ .isolated →
    idleFor (s.at t) q (s.at t).idleParkK = true →
    exec (.idlePark t i) s = .next ⟨s.pending, tellPark i (startPark i none (s.at t))⟩))
  ∧ ((∀ (s : State) (t : Time) (i : Nat) (q : Seq) (e1 e2 : Extent), Awake s → mget (s.at t).kvs.seqs i = some q →
    q.state = .parking → movesOf (s.at t) i .park = [] → homeOf (s.at t) (.pendingArea i) = some (.t2 e1) →
    homeOf (s.at t) (.tables i) = some (.t2 e2) →
    exec (.parkComplete t i) s = .next ⟨s.pending, serveAll (some i)
      (modSeq i (fun q => refreshCold { q with
        state := .parked
        evictedFor := none }) (freeSeat i (s.at t)))⟩)
  ∧ (∀ (s : State) (t : Time) (i : Nat) (q : Seq), Awake s → mget (s.at t).kvs.seqs i = some q → q.state = .resuming →
    openInT2 (s.at t) q = [] → stagingFits (s.at t) 0 = true →
    exec (.resumeComplete t i) s = .next ⟨s.pending, runHeld i (modSeq i (fun q => { q with state := .seated })
      (backToT1 (.tables i) (backToT1 (.pendingArea i) { s.at t with
        fls.reads := (s.at t).fls.reads.filter fun r => !(r.move.isNone && decide (seqOfDatum (s.at t) r.datum = some i)
          && (match r.datum with | .page _ => false | _ => true)) })))⟩)
  ∧ (∀ (s : State) (t : Time) (i : Nat) (q : Seq), Awake s → mget (s.at t).kvs.seqs i = some q → q.state = .closing →
    q.seat = none → q.pendingExtent.isSome = true → q.ptExtent.isSome = true →
    exec (.closeComplete t i) s = .next ⟨s.pending, serveAll none (freeIndex i { s.at t with
      kvs.seqs := mdel (s.at t).kvs.seqs i
      par.ownerB := (s.at t).par.ownerB.filter fun x => !decide (x = i) })⟩)
  ∧ (∀ (s : State) (t : Time) (i : Nat) (q : Seq) (h : Held), Awake s → mget (s.at t).kvs.seqs i = some q →
    (s.at t).kvs.seatWaits = [] → q.held = [h] → h.limited = true → past h.since (us 200) (s.at t).now = true →
    exec (.appendHoldTimeout t i) s = .next ⟨s.pending, refuse (requesterOf h.cmd) St.kvsResuming
      (modSeq i (fun q => { q with held := [] }) (s.at t))⟩)
  ∧ (∀ (s : State) (t : Time) (id v : Nat) (w : SeatWait) (t0 : Time) (rq : Requester) (tenant model format scope : Nat),
    Awake s → (s.at t).kvs.seatWaits = [w] → w.id = id → w.victim = some v → past w.since (ms 5) (s.at t).now = true →
    w.cmd = .seqAdminOpen t0 rq tenant model format scope →
    exec (.evictionParkTimeout t id) s = .next ⟨s.pending, refuse rq St.kvsNoSeat
      (modSeq v (fun q => { q with evictedFor := none }) { s.at t with kvs.seatWaits := [] })⟩))

/-- R603, R166, R168, R169: a LOOKUP whose check fails answers that status, one in a scope that does not share answers zeros, and one without
attach answers what its search verified, array upsets included; an ATTACH of a LIVE node into an empty SEATED sequence of the same model and
format is a pair commit. The model's readings in it: log entries 35 and 56. -/
def Obligations.PrefixLookups : Prop :=
  (∀ (s : State) (t : Time) (rq : Requester) (m : LookupMsg) (ups : List ArrayUpset), Serves s t →
    let d := upsetRows ups (s.at t)
    let sc := namedScope d (actingTenant d rq m.handle) m.scope
    (lookupCheck d rq m ≠ St.ok →
      exec (.lookup t rq m ups) s = .next ⟨s.pending, refuse rq (lookupCheck d rq m) d⟩)
    ∧ (lookupCheck d rq m = St.ok → (d.scope sc).share = false →
      exec (.lookup t rq m ups) s = .next ⟨s.pending, reply rq St.ok [0, 0, 0, 0, 0] d⟩)
    ∧ (lookupCheck d rq m = St.ok → (d.scope sc).share = true → m.attach = false →
      let r := lookupSearch sc m none d
      exec (.lookup t rq m ups) s = .next ⟨s.pending, reply rq St.ok (lookupFields r.2 (if m.startFrom then m.startDepth else 0) r.1) r.2⟩))
  ∧ (∀ (s : State) (t : Time) (rq : Requester) (m : AttachMsg) (i slot : Nat) (n : Node) (q : Seq), Serves s t → Alone s t →
    let sc := namedScope (s.at t) (actingTenant (s.at t) rq m.handle) m.scope
    1 ≤ m.depth → m.depth ≤ 65536 → m.scope < 4096 → isMember (s.at t) (actingTenant (s.at t) rq m.handle) sc = true →
    attachSeqCheck (s.at t) rq (actingTenant (s.at t) rq m.handle) m.handle sc = (St.ok, i) →
    namedNode (s.at t) m sc = some (slot, n) → mget (s.at t).kvs.seqs i = some q → n.model = q.model → n.format = q.format →
    q.state = .seated → q.held = [] → returning (s.at t) i = false →
    exec (.attach t rq m) s = .next ⟨s.pending, leaderApply rq (.attach m.handle slot) none
      (applyAttach m.handle slot fun d => seqFields d i) (s.at t)⟩)

/-- R160: whatever soft error the swept row has taken, the sweep leaves an array that agreed with its shadow as it was, and moves on to the next
row. -/
def Obligations.SweepRepairs : Prop :=
  ∀ (s : State) (t : Time) (flips : BitVec 64), Awake s → (s.at t).pfx.arr = (s.at t).pfx.shadow →
    exec (.shadowSweepRead t flips) s = .next ⟨s.pending, { s.at t with
      pfx.sweep := ((s.at t).pfx.sweep + 1) % 262144 }⟩

/-- R143, R157, R164: an unreferenced node whose retention has passed since its last hit is removed; a finished block move shifts the entries
above the first free position down by one and puts the new entry at position 0, its node's in_array set; a probe that has waited 1 µs ends
its LOOKUP at the block it waited for, or declines that block of its APPEND. R148, R149, R151: a released pin leaves its operation's list
and the page's count; a waiting pin is granted, once there is room, at the page's present home; an operation that has waited 1 ms releases
its pins and asks for the pages of its request again; a RETIRING page without pins is gone from frame f + 2 on, its home free. The model's
readings in it: log entries 55 and 59. -/
def Obligations.PrefixTimersAndPins : Prop :=
  ((∀ (s : State) (t : Time) (slot : Nat) (n : Node), Serves s t → (s.at t).par.state ≠ .isolated →
    mget (s.at t).pfx.dir slot = some n → n.unreferenced = true → ((s.at t).scope n.scope).retainK ≠ 0xFFFF →
    ((s.at t).tt.frame - n.lastHit).toNat < 2 ^ 31 →
    1024 * ((s.at t).scope n.scope).retainK ≤ ((s.at t).tt.frame - n.lastHit).toNat →
    exec (.nodeRetentionExpired t slot) s = .next ⟨s.pending, removeNode (n.depth + 1) slot (s.at t)⟩)
  ∧ (∀ (s : State) (t : Time) (bank k : Nat) (ins : ArrInsert) (n : Node), Awake s → (s.at t).pfx.inserts = [ins] →
    ins.bank = bank → mget (s.at t).pfx.dir ins.entry.slot = some n → n.state = .live →
    entryUnits ((s.at t).scope n.scope) ins.entry.slot n = ins.entry.units →
    leastFrom (fun p => !mhas (s.at t).pfx.arr (8192 * bank + p)) 0 (bankEntries (s.at t) bank) = some k →
    k < bankEntries (s.at t) bank →
    exec (.arrayBlockMoveComplete t bank) s = .next ⟨s.pending, modNode ins.entry.slot (fun n => { n with inArray := true })
      { s.at t with
        pfx.inserts := []
        pfx.arr := mset (shiftDown bank k (s.at t).pfx.arr) (8192 * bank) ins.entry
        pfx.shadow := mset (shiftDown bank k (s.at t).pfx.shadow) (8192 * bank) ins.entry }⟩)
  ∧ (∀ (s : State) (t : Time) (rq : Requester) (m : LookupMsg) (block : Nat), Serves s t →
    exec (.dirProbeWaitTimeout t (.lookup rq m block)) s = .next ⟨s.pending, lookupCmd t rq m (some block) (s.at t)⟩)
  ∧ (∀ (s : State) (t : Time) (rq : Requester) (m : AppendMsg) (block : Nat), Serves s t →
    exec (.dirProbeWaitTimeout t (.offer rq m block)) s = .next ⟨s.pending, appendCmd t rq m (some block) (s.at t)⟩))
  ∧ ((∀ (s : State) (t : Time) (op p : Nat) (h : PinHold), Awake s →
    ((s.at t).pfx.pinOps.find? fun h => decide (h.op = op) && decide (h.page = p)) = some h → 1 < pinCount (s.at t) p →
    exec (.pinRelease t op p) s = .next ⟨s.pending, drainDown (.page p) h.loc { s.at t with
      pfx.pinOps := (s.at t).pfx.pinOps.erase h
      pfx.pins := mset (s.at t).pfx.pins p (pinCount (s.at t) p - 1) }⟩)
  ∧ (∀ (s : State) (t : Time) (op p : Nat) (w : PinWait) (pg : Page), Awake s → (s.at t).pfx.pinWaits = [w] → w.op = op →
    w.page = p → mget (s.at t).kvs.pages p = some pg → pinRefused (s.at t) pg = false → grantsHeld (s.at t) p = false →
    pinRoom (s.at t) p = true →
    exec (.pinGranted t op p) s = .next ⟨s.pending, grantPin op p pg.home { s.at t with
      pfx.pinWaits := []
      pfx.pinEpisode := false }⟩)
  ∧ (∀ (s : State) (t : Time) (op : Nat) (w : PinWait), Awake s → w ∈ (s.at t).pfx.pinWaits → w.op = op → op % 2 = 0 →
    past w.since (ms 1) (s.at t).now = true →
    exec (.pinWaitTimeout t op) s = .next ⟨s.pending, forL (requestPages (dropPins op (s.at t)) (op / 2)) (takePin op) (dropPins op (s.at t))⟩)
  ∧ (∀ (s : State) (t : Time) (p : Nat) (pg : Page) (i : Nat), Awake s → mget (s.at t).kvs.pages p = some pg → pg.state = .retiring →
    pg.owner = some i → pinCount (s.at t) p = 0 → serialLe (pg.retireFrame + 2) (s.at t).tt.frame = true →
    (s.at t).ras.reclaimHalted = false →
    exec (.pageReclaim t p) s = .next ⟨s.pending, let d := freeHome pg.home (s.at t)
      { d with kvs.pages := mdel d.kvs.pages p }⟩))

/-- R185, R186, R56, R58, R205: an ATTEND on a stream that its port does not carry is answered ATT_STREAM at once; one that a check refuses
waits in the table for its slot with that status; an accepted one is charged, pinned, decided and dispatched. At its result slot a refused
request gets its RESULT, a finished one without a delay its row block, and an unfinished one that waits for no T2 read and has no other
cause a late notice with cause IAT_OVERRUN. The model's readings in it: log entries 42, 58 and 85. -/
def Obligations.AttendAndResults : Prop :=
  (∀ (s : State) (t : Time) (rq : Requester) (port : Nat) (m : AttendMsg), Serves s t →
    streamOnPort (s.at t) m.stream port .attend = false →
    exec (.attend t rq port m) s = .next ⟨s.pending, reply rq St.attStream []
      (count Reg.attRefuseCount { s.at t with att.refused := true })⟩)
  ∧ (∀ (s : State) (t : Time) (rq : Requester) (port : Nat) (m : AttendMsg) (tenant : Nat) (pl : Place), Serves s t →
    tenantOf (s.at t) rq = some tenant → streamOnPort (s.at t) m.stream port .attend = true →
    attendCheck (s.at t) tenant m ≠ St.ok → attendCheck (s.at t) tenant m ≠ St.iatVariantAbsent →
    let d := count Reg.attRefuseCount { s.at t with att.refused := true }
    placeOf d m.stream (s.at t).now = some pl →
    exec (.attend t rq port m) s = .next ⟨s.pending, (addRequest
      (newRequest rq port tenant m pl (s.at t).now (attendCheck (s.at t) tenant m) 0 []) d).2⟩)
  ∧ (∀ (s : State) (t : Time) (rq : Requester) (port : Nat) (m : AttendMsg) (tenant : Nat) (pl : Place) (desc : ModelDesc),
    Serves s t → tenantOf (s.at t) rq = some tenant → streamOnPort (s.at t) m.stream port .attend = true →
    attendCheck (s.at t) tenant m = St.ok → placeOf (s.at t) m.stream (s.at t).now = some pl →
    descOf (s.at t) m.model = some desc →
    exec (.attend t rq port m) s = .next ⟨s.pending, orderHold (s.at t).att.nextReq (s.at t).now
      (acceptRequest t (s.at t).now rq port tenant m desc pl (s.at t))⟩)
  ∧ (∀ (s : State) (t : Time) (slot id : Nat) (r : Request), Serves s t → (s.at t).att.reqs = [(id, r)] →
    r.due.frame = (s.at t).tt.frame → r.due.slot = slot → serialLe r.due.start (s.at t).now = true →
    (r.refusal ≠ St.ok → exec (.resultSlotStart t slot) s = .next ⟨s.pending, sendRefused id r (s.at t)⟩)
    ∧ (r.refusal = St.ok → lateBy r = none → allFinished r = true →
      exec (.resultSlotStart t slot) s = .next ⟨s.pending, sendResult id r (s.at t)⟩)
    ∧ (r.refusal = St.ok → lateBy r = none → allFinished r = false → latestDelay r.delays = none →
      runningRead (s.at t) r = none → awaitsT2 (s.at t) r = false →
      exec (.resultSlotStart t slot) s = .next ⟨s.pending, answerLate id (delayed St.iatOverrun id (s.at t))⟩))

/-- R221, R224, R233, R234, R235: a tile that is not its slice's last updates the slice's states by one page and nothing else; a mismatch, the
first on its core, is counted and retried; a merge step replaces the two children by their merged state one level up; a spare that passes
its test takes the index and its domain is ON. The model's readings in it: log entry 42. -/
def Obligations.CoreWork : Prop :=
  (∀ (s : State) (t : Time) (id g : Nat) (r : Request) (x : Slice) (c : TileCtx) (v : SegView) (o : Nat) (p : ViewPage), Awake s →
    mget (s.at t).att.reqs id = some r → (r.slices.find? fun y => decide (y.g = g)) = some x → x.done = false →
    x.queued = true → notRunning (s.at t) x.core = false → tileCtx (s.at t) r x.seg = some (c, v) →
    x.ords[x.next]? = some o → (partPages v r.inFollowup)[o]? = some p → x.next + 1 < x.ords.length →
    let sts := tile c (segRows r.msg x.seg) x.kvHead p.index p.toks x.states
    let step (y : Slice) : Slice := if y.g = x.g then { y with next := y.next + 1, states := sts, done := false } else y
    exec (.tileComplete t id g false) s = .next ⟨s.pending, modReq id (fun r => { r with slices := r.slices.map step }) (s.at t)⟩)
  ∧ (∀ (s : State) (t : Time) (id g l p : Nat) (r : Request) (x : Slice) (c : PCore), Awake s →
    mget (s.at t).att.reqs id = some r → (r.slices.find? fun y => decide (y.g = g)) = some x → x.done = false →
    x.queued = true → notRunning (s.at t) x.core = false → standInCore (s.at t) x.core = some l →
    mget (s.at t).att.lmap l = some p → mget (s.at t).att.pcores p = some c → c.lastMismatch = none →
    exec (.tileComplete t id g true) s = .next ⟨s.pending, delayed St.rasResidue id
      (modCore p (fun c => { c with
        mismatches := min 0xFFFF (c.mismatches + 1)
        lastMismatch := some (s.at t).now }) (count Reg.attResidueCount (s.at t)))⟩)
  ∧ (∀ (s : State) (t : Time) (id seg kvHead below index : Nat) (r : Request) (a b : TreeNode) (x : Slice), Awake s →
    mget (s.at t).att.reqs id = some r → treeNode r seg kvHead below (2 * index) = some a →
    treeNode r seg kvHead below (2 * index + 1) = some b →
    (r.slices.find? fun x => decide (x.seg = seg) && decide (x.kvHead = kvHead)) = some x → notRunning (s.at t) a.core = false →
    exec (.mergeStep t id seg kvHead (below + 1) index false) s = .next ⟨s.pending, placeState id seg kvHead x.nSlices a.core (List.zipWith mergeState a.states b.states) (treeFuel x.nSlices) (below + 1) index
        (modReq id (fun r => { r with tree := (r.tree.erase a).erase b }) (s.at t))⟩)
  ∧ (∀ (s : State) (t : Time) (lcore : Nat) (k : Takeover), Awake s → (s.at t).att.takeovers = [k] → k.lcore = lcore →
    past k.since (us 20) (s.at t).now = true →
    exec (.spareTakeover t lcore true) s = .next ⟨s.pending, modDomain (2 + k.spare) (fun q => { q with
        state := .on
        idleSince := (s.at t).now })
      (modCore k.spare (fun c => { c with
        state := .active
        lcore := lcore }) { s.at t with att.takeovers := [] })⟩)

/-- R244, R248, R250: on a device that decides alone, MODEL_LOAD of a free ID with a valid geometry takes the ID as LOADING and waits for the
change boundary, MODEL_UNLOAD of a model without live sequences waits for it too, and an UNLOADING model is gone with its last request; a
load of an ID in use and an unload of a model in use are refused by name. The model's readings in it: log entries 35 and 62. -/
def Obligations.ModelChanges : Prop :=
  (∀ (s : State) (t : Time) (rq : Requester) (d : ModelDesc), Admits s t rq true → Alone s t →
    mget (s.at t).att.models d.model = none → geometryFault d = none →
    exec (.modelLoad t rq d) s = .next ⟨s.pending, { s.at t with
      par.commitSeq := (s.at t).par.commitSeq + 1
      att.modelChanges := (s.at t).att.modelChanges ++ [{ rq, load := some d, unload := d.model, boundary := changeBoundary (s.at t), tag := none, peerTag := none }]
      att.models := mset (s.at t).att.models d.model { desc := d, state := .loading, granted := 0, borrowed := 0 } }⟩)
  ∧ (∀ (s : State) (t : Time) (rq : Requester) (d : ModelDesc) (m : Model), Admits s t rq true →
    mget (s.at t).att.models d.model = some m →
    exec (.modelLoad t rq d) s = .next ⟨s.pending, reply rq St.cfgModelIdBusy [d.model, m.state.code, 0, 0, 0, 0, 0, 0, 0xFFFF] (s.at t)⟩)
  ∧ (∀ (s : State) (t : Time) (rq : Requester) (model : Nat) (m : Model), Admits s t rq true → Alone s t →
    mget (s.at t).att.models model = some m → m.state = .active → hasSequences (s.at t) model = false →
    exec (.modelUnload t rq model) s = .next ⟨s.pending, { s.at t with
      par.commitSeq := (s.at t).par.commitSeq + 1
      att.modelChanges := (s.at t).att.modelChanges ++ [{ rq, load := none, unload := model, boundary := changeBoundary (s.at t), tag := none, peerTag := none }] }⟩)
  ∧ (∀ (s : State) (t : Time) (rq : Requester) (model : Nat) (m : Model), Admits s t rq true →
    mget (s.at t).att.models model = some m → m.state = .active → hasSequences (s.at t) model = true →
    exec (.modelUnload t rq model) s = .next ⟨s.pending, reply rq St.cfgModelInUse [model, m.state.code] (s.at t)⟩)
  ∧ (∀ (s : State) (t : Time) (model : Nat) (m : Model), Awake s → mget (s.at t).att.models model = some m →
    m.state = .unloading → hasRequests (s.at t) model = false →
    exec (.modelUnloadComplete t model) s = .next ⟨s.pending, { s.at t with att.models := mdel (s.at t).att.models model }⟩)

/-- R266, R262, R263, R259: a queued move whose source is pinned and whose destination is free begins copying; a copy whose destination is good
switches the home when the drain table has room; the grants held by a switch are released after 1 µs; a drained location is freed; a granted
allocation starts its move. The model's readings in it: log entry 59. -/
def Obligations.MovesRun : Prop :=
  (∀ (s : State) (t : Time) (id : Nat) (m : Move) (h : Home) (d : Dev), Awake s → (s.at t).tir.moves = [m] → m.id = id →
    m.state = .queued → m.kind ≠ .relocation → mayStart (s.at t) m = true → sourcePinned (s.at t) m = true →
    destination m (s.at t) = some (h, d) →
    exec (.moveStart t id) s = .next ⟨s.pending, demotion (moveReads m (modMove m.id (fun m => { m with
        state := .copying
        dest := some h })
      { d with tir.allocWaits := d.tir.allocWaits.filter fun w => !decide (w.move = m.id) }))⟩)
  ∧ (∀ (s : State) (t : Time) (id : Nat) (m : Move) (h : Home), Awake s → (s.at t).tir.moves = [m] → m.id = id →
    m.state = .copying → m.dest = some h → ((s.at t).fls.reads.any fun r => decide (r.move = some m.id)) = false →
    destGood (s.at t) m h = true → m.drainWait = none → (s.at t).tir.drains.length < drainEntries →
    exec (.moveCopyComplete t id true) s = .next ⟨s.pending, goOn (doSwitch m h (s.at t))⟩)
  ∧ (∀ (s : State) (t : Time) (id : Nat) (m : Move) (since : Time), Awake s → (s.at t).tir.moves = [m] → m.id = id →
    m.state = .switching → m.grantHold = some since → m.kind = .demotion → past since (us 1) (s.at t).now = true →
    exec (.pinGrantHoldTimeout t id) s = .next ⟨s.pending, goOn (demotion (finishMove m (s.at t)))⟩)
  ∧ (∀ (s : State) (t : Time) (e : Drain), Awake s → (s.at t).tir.drains = [e] → e.count = 0 →
    serialLe (e.frame + 2) (s.at t).tt.frame = true → (s.at t).ras.reclaimHalted = false → (s.at t).tir.moves = [] →
    exec (.drainFree t e.datum) s = .next ⟨s.pending, goOn (freeHome e.old { s.at t with tir.drains := [] })⟩)
  ∧ (∀ (s : State) (t : Time) (id : Nat) (m : Move), Awake s → (s.at t).tir.moves = [m] → m.id = id → m.state = .queued →
    m.kind ≠ .refetch → ((s.at t).tir.allocWaits.any fun w => decide (w.move = id)) = true →
    exec (.t1AllocGranted t id) s = .next ⟨s.pending, goOn (beginCopy m (s.at t))⟩)

/-- R264, R259, R257, R301, R302: a switch that has waited 1 ms for a drain entry gives its destination back and is queued again; an allocation
that has waited 1 ms cancels its move with TIR_T1_FULL; every 1,024 frames each age in the heat table grows by one, up to 15; a fetched
mirror copy lands as a move of its datum; a refetch that has not arrived in 2 ms makes the datum lost. The model's readings in it: log entry
59. -/
def Obligations.MoveLimits : Prop :=
  (∀ (s : State) (t : Time) (id : Nat) (m : Move) (h : Home) (since : Time), Awake s → (s.at t).tir.moves = [m] → m.id = id →
    m.drainWait = some since → m.dest = some h → past since (ms 1) (s.at t).now = true →
    exec (.drainWaitTimeout t id) s = .next ⟨s.pending, goOn (modMove id (fun m => { m with
      state := .queued
      dest := none
      drainWait := none }) (dropPins (moveOp id) (freeHome h (s.at t))))⟩)
  ∧ (∀ (s : State) (t : Time) (id : Nat) (m : Move) (w : AllocWait), Awake s → (s.at t).tir.moves = [m] → m.id = id →
    (s.at t).tir.allocWaits = [w] → w.move = id → m.kind = .promotion → past w.since (ms 1) (s.at t).now = true →
    let d := cancelMove m (s.at t)
    exec (.t1AllocTimeout t id) s = .next ⟨s.pending, forL (dependents d m.datum) (fun id d => delayed St.tirT1Full id d)
      (raiseDev St.tirT1Full { d with tir.t1Full := true })⟩)
  ∧ (∀ (s : State) (t : Time), Awake s → 1024 ≤ ((s.at t).tt.frame - (s.at t).tir.heatFrame).toNat →
    exec (.heatAgeTick t) s = .next ⟨s.pending, compact (demotion { s.at t with
      tir.heat := mmap (s.at t).tir.heat (fun a => min 15 (a + 1))
      tir.heatFrame := (s.at t).tt.frame })⟩)
  ∧ (∀ (s : State) (t since : Time) (d : Datum) (m : Move), Awake s → refetchSince (s.at t) d = some since →
    let d1 := pushMove d .refetch 0 (cancelMoves d (endRefetch d (s.at t)))
    moveOf d1 d = some m →
    exec (.refetchArrived t d) s = .next ⟨s.pending, goOn (landRefetch m d1)⟩)
  ∧ (∀ (s : State) (t since : Time) (d : Datum), Awake s → refetchSince (s.at t) d = some since →
    past since (ms 2) (s.at t).now = true →
    exec (.refetchTimeout t d) s = .next ⟨s.pending, loseDatum d (endRefetch d (s.at t))⟩)

/-- R276, R277: PROMOTE on a SEATED sequence: with cancel set, the range's promotions that have not started are removed and the answer counts
what is left of the range; otherwise the pages of the range are queued one by one, in ascending layer and page, and the answer counts them; the sequence's last
frame is the present one. The model's readings in it: log entry 57. -/
def Obligations.Promotions : Prop :=
  ∀ (s : State) (t : Time) (rq : Requester) (m : PromoteMsg) (i : Nat) (q : Seq), Serves s t →
    checkSeq (s.at t) rq (actingTenant (s.at t) rq m.handle) m.handle true = (St.ok, i) → mget (s.at t).kvs.seqs i = some q →
    q.state = .seated → q.held = [] → returning (s.at t) i = false → promoteRangeOk q m = true →
    let d := modSeq i (fun q => { q with lastFrame := (s.at t).tt.frame }) (s.at t)
    (m.cancel = true → exec (.promote t rq m) s = .next ⟨s.pending, let e := cancelPromotions (promoteRange q m) d
      reply rq St.ok (cancelReply (promoteRange q m) e) e⟩)
    ∧ (m.cancel = false →
      let zero : PromoteTally := { queued := 0, inT1 := 0, inFlight := 0, readyBy := (s.at t).now, full := false }
      let r := (promoteRange q m).foldl (fun x p => promoteOne m.needBy p x) (zero, d)
      r.1.full = false → exec (.promote t rq m) s = .next ⟨s.pending, reply rq St.ok [r.1.queued, r.1.inT1, r.1.inFlight, r.1.readyBy.toNat] r.2⟩)

/-- R291, R292, R289: CREATE, SEAL, DELETE and REOPEN on a device that decides alone are the leader's pair commits; QUERY answers the record and
changes nothing; COPY_IN writes the region's bytes into the OPEN object and nothing else; the last reader of a DELETING object frees its
homes, its map, its record and its bytes. The model's readings in it: log entries 35 and 60. -/
def Obligations.WeightObjects : Prop :=
  (∀ (s : State) (t : Time) (rq : Requester) (r : ObjAdmin), Admits s t rq false → Alone s t →
    tenantOk (s.at t) rq r.tenant = true → createRange r = true →
    exec (.objAdminCreate t rq r) s = .next ⟨s.pending, leaderApply rq (.objCreate (!(s.at t).sideA) r) none (applyCreate (!(s.at t).sideA) r) (s.at t)⟩)
  ∧ (∀ (s : State) (t : Time) (rq : Requester) (tenant obj : Nat) (o : Obj), Admits s t rq false → Alone s t →
    objCheck (s.at t) rq tenant obj true = St.ok → mget (s.at t).tir.objs obj = some o →
    (o.state ≠ .opened → exec (.objAdminSeal t rq tenant obj) s = .next ⟨s.pending, leaderApply rq (.objSeal obj) none (applySeal obj) (s.at t)⟩)
    ∧ (o.state = .opened → exec (.objAdminSeal t rq tenant obj) s = .next ⟨s.pending, dueBlocks obj o (leaderApply rq (.objSeal obj) none (applySeal obj) (s.at t))⟩)
    ∧ exec (.objAdminDelete t rq tenant obj) s = .next ⟨s.pending, leaderApply rq (.objDelete obj) none (applyDelete obj) (s.at t)⟩
    ∧ exec (.objAdminReopen t rq tenant obj) s = .next ⟨s.pending, leaderApply rq (.objReopen obj) none (applyReopen obj) (s.at t)⟩)
  ∧ (∀ (s : State) (t : Time) (rq : Requester) (tenant obj : Nat), Admits s t rq false →
    objCheck (s.at t) rq tenant obj false = St.ok →
    exec (.objAdminQuery t rq tenant obj) s = .next ⟨s.pending, reply rq St.ok (objFields (s.at t) obj) (s.at t)⟩)
  ∧ (∀ (s : State) (t : Time) (rq : Requester) (r : ObjAdmin) (o : Obj) (g : Region), Admits s t rq false →
    objCheck (s.at t) rq r.tenant r.object true = St.ok → (s.at t).par.state ≠ .isolated →
    mget (s.at t).tir.objs r.object = some o → mget (s.at t).cxl.regions r.region = some g → g.kind = 2 → r.size ≠ 0 →
    r.offset + r.size ≤ o.size → 4096 * r.regionOffset + r.size ≤ g.size → g.tenant = r.tenant → o.state = .opened →
    poisonedRange g 0 (4096 * r.regionOffset) r.size = false →
    exec (.objAdminCopyIn t rq r) s = .next ⟨s.pending, reply rq St.ok (objFields (s.at t) r.object) { s.at t with
      mem := memWriteN (s.at t).mem (objVa r.object r.offset)
        (memReadN (s.at t).mem (regionVa r.region 0 (4096 * r.regionOffset)) r.size) }⟩)
  ∧ (∀ (s : State) (t : Time) (obj : Nat) (o : Obj), Awake s → mget (s.at t).tir.objs obj = some o → o.state = .deleting →
    o.readers = 0 →
    let d := t1Free o.mapBase (forL o.blocks (fun b d => freeHome b.2 d) (s.at t))
    exec (.objectDeleteComplete t obj) s = .next ⟨s.pending, { d with
      tir.objs := mdel d.tir.objs obj
      par.objOwnerB := d.par.objOwnerB.filter fun k => !decide (k = obj)
      mem := memClear d.mem (objVa obj 0) (2 ^ 44) }⟩)

/-- R296, R297, R299: a WSTREAM that passes its checks puts its list into the stream, replacing one that was there, counts its objects' readers
and answers the slot of its first item; a slot before the list's start time, or with slots still to pass, sends nothing, and any other sends
the slot's share of the list. The model's readings in it: log entry 61. -/
def Obligations.WeightStreams : Prop :=
  (∀ (s : State) (t : Time) (rq : Requester) (port : Nat) (m : WStreamMsg) (tenant : Nat) (f : FrameRef) (e : SlotEntry),
    Serves s t → tenantOf (s.at t) rq = some tenant → (s.at t).tt.absentService = false →
    wstreamCheck (s.at t) tenant port m = St.ok → firstListSlot (s.at t) m = some (f, e) →
    let d := forL (listObjects m) (fun obj d => modObj obj (fun o => { o with readers := o.readers + 1 }) d)
      (endList m.stream (s.at t))
    exec (.wstream t rq port m) s = .next ⟨s.pending, reply rq St.ok [f.frame.toNat, e.slot, ceilDiv (sumBy (itemBytes (s.at t)) m.items) 4096]
        (runAheadList m.stream { d with tir.lists := mset d.tir.lists m.stream { rq, port, msg := m, tenant, item := 0, sent := 0, skip := 0, lateCount := 0 } })⟩)
  ∧ (∀ (s : State) (t : Time) (rq : Requester) (port : Nat) (m : WStreamMsg), Serves s t → (s.at t).tt.absentService = true →
    exec (.wstream t rq port m) s = .next ⟨s.pending, reply rq St.iatVariantAbsent [] (s.at t)⟩)
  ∧ (∀ (s : State) (t : Time) (slot : Nat) (f : FrameRef) (e : SlotEntry) (l : WList), Serves s t →
    (s.at t).frameRef 0 = some f → (f.slots.find? fun e => decide (e.slot = slot) && decide (e.cls = .wstream)) = some e →
    mget (s.at t).tir.lists e.stream = some l → serialLt (slotStart f.start e) l.msg.startTime = false →
    serialLe (slotStart f.start e) (s.at t).now = true →
    (0 < l.skip → exec (.wstreamSlotStart t slot) s = .next ⟨s.pending, { s.at t with
      tir.lists := mset (s.at t).tir.lists e.stream { l with skip := l.skip - 1 } }⟩)
    ∧ (l.skip = 0 → exec (.wstreamSlotStart t slot) s
      = .next ⟨s.pending, sendSlot e.stream l e (slotStart f.start e) (s.at t)⟩))

/-- R323, R324, R319, R321, R330, R309: a read that returns leaves the list of reads, is counted, and is late only past its projection, or takes
the outcome of an uncorrectable unit, late under R604; a row that passes makes its units good, one that fails on a member is handled as R321 says; the last
erased set frees its band; a read that times out before the last step of the ladder passes to the next step and its die's timeout is
counted. The model's readings in it: log entries 63 and 64. -/
def Obligations.FlashOperations : Prop :=
  (∀ (s : State) (t : Time) (id : Nat) (l : Ladder) (r : NandRead), Awake s → (s.at t).fls.reads = [r] → r.id = id →
    let d := countReads r.unit r.len (countLadder l (dieAnswers (dieOfUnit r.unit) { s.at t with fls.reads := [] }))
    let g := noteRebuild (r.unit + l.codeword) l d
    let u := uncorrectableAt (r.unit + l.codeword) d
    (l.good = true → serialLt r.projection g.now = false →
      exec (.nandReadComplete t id l) s = .next ⟨s.pending, flashStep g⟩)
    ∧ (l.good = true → serialLt r.projection g.now = true →
      exec (.nandReadComplete t id l) s = .next ⟨s.pending, flashStep (delayDependents r.datum (readCause l) g.now g)⟩)
    ∧ (l.good = false → namesUnit u r.datum r.unit = true →
      exec (.nandReadComplete t id l) s = .next ⟨s.pending, flashStep (uncorrectable r.datum (badReadLate r u))⟩))
  ∧ (∀ (s : State) (t : Time) (g key : Nat) (reloc : Bool), Awake s → programBand (s.at t) g reloc = some key →
    exec (.nandProgramComplete t g reloc none) s
      = .next ⟨s.pending, flashStep (rowGood key (forN 16 (fun pos d => dieAnswers (dieAt g pos) d) (s.at t)))⟩
    ∧ ∀ pos : Nat, exec (.nandProgramComplete t g reloc (some pos)) s
      = .next ⟨s.pending, flashStep (programFails key pos (s.at t))⟩)
  ∧ (∀ (s : State) (t : Time) (g b pos : Nat), Awake s → ((s.at t).band (bandKey g b)).state = .erasing →
    ((s.at t).band (bandKey g b)).eraseLeft.contains pos = true →
    let d := modBand (bandKey g b) (fun x => { x with eraseLeft := x.eraseLeft.filter fun y => !decide (y = pos) })
      (dieAnswers (dieAt g pos) (s.at t))
    ((d.band (bandKey g b)).eraseLeft = [] →
      exec (.nandEraseComplete t g b pos true) s = .next ⟨s.pending, flashStep (freeBand (bandKey g b) d)⟩)
    ∧ ((d.band (bandKey g b)).eraseLeft ≠ [] →
      exec (.nandEraseComplete t g b pos true) s = .next ⟨s.pending, flashStep d⟩)
    ∧ exec (.nandEraseComplete t g b pos false) s
      = .next ⟨s.pending, flashStep (eraseFails g b pos (dieAnswers (dieAt g pos) (s.at t)))⟩)
  ∧ (∀ (s : State) (t : Time) (channel slot id : Nat) (r : NandRead) (x : Die), Awake s → (s.at t).fls.reads = [r] → r.id = id →
    mget (s.at t).fls.dies (16 * channel + slot) = some x → r.step < 2 → x.timeouts + 1 < 3 →
    exec (.nandOpTimeout t channel slot (.read id)) s = .next ⟨s.pending, flashStep { s.at t with
      fls.reads := [{ r with step := r.step + 1 }]
      fls.dies := mmod (s.at t).fls.dies (16 * channel + slot) fun y => { y with timeouts := y.timeouts + 1 } }⟩)

/-- R320, R333, R337: a row that is not full 50 µs after its first unit is completed with a pad extent; a codeword that the patrol reads clean
is counted and nothing else; a checkpoint that is due is asked for, and begins at a frame boundary. The model's readings in it: log entries
63 and 64. -/
def Obligations.FlashBackground : Prop :=
  (∀ (s : State) (t : Time) (g : Nat) (reloc : Bool) (w : Machine.Writer) (since : Time), Awake s →
    (s.at t).writer g reloc = some w → w.rowSince = some since → past since (us 50) (s.at t).now = true →
    let b := (s.at t).band w.band
    b.writePoint % 60 ≠ 0 → extentFits (s.at t) b (60 - b.writePoint % 60) = true →
    exec (.rowFillTimeout t g reloc) s
      = .next ⟨s.pending, (writeExtent g reloc w (60 - b.writePoint % 60) .pad none (s.at t)).2⟩)
  ∧ (∀ (s : State) (t : Time) (u : Nat) (l : Ladder), Awake s → ((s.at t).band (bandOfUnit u)).state = .closed →
    unitInBand u < ((s.at t).band (bandOfUnit u)).writePoint → l.good = true → l.rebuilt = false → l.retryLevels = 0 →
    let d := countReads u 1 (dieAnswers (dieOfUnit u) (s.at t))
    exec (.patrolRead t u false l) s = .next ⟨s.pending, flashStep d⟩
    ∧ exec (.patrolRead t u true l) s = .next ⟨s.pending, flashStep (scheduleRefresh (bandOfUnit u) d)⟩)
  ∧ (∀ (s : State) (t : Time), Awake s → (s.at t).tt.started = true →
    past (s.at t).fls.ckptAt (ms (100 * (s.at t).ckptQ)) (s.at t).now = true →
    ((s.at t).now ≠ (s.at t).tt.frameStart →
      exec (.checkpointStart t) s = .next ⟨s.pending, { s.at t with fls.ckptAsked := true }⟩)
    ∧ ((s.at t).now = (s.at t).tt.frameStart → (s.at t).fls.ckpt = none →
      exec (.checkpointStart t) s = .next ⟨s.pending, ckptBegin { s.at t with fls.ckptAsked := true }⟩))

/-- R545, R546, R555, R558, R559, R560: a clean patrol read changes nothing of the data; a corrected one is counted and reported, and retires
its frame at the limit; the first expiry of a crossing is counted and remembered, the second fails its island; a management core's watchdog
counts and reports the reset, the third within 1 s resets the complex; 40 µs without a liveness write in RUN fence the device, and the next
liveness write ends that fence. The model's readings in it: log entries 80 and 81. -/
def Obligations.Supervision : Prop :=
  (∀ (s : State) (t : Time) (addr : Nat), Awake s →
    (s.at t).ras.retired.contains (frameOf addr) = false → (s.at t).ras.lostChannels.contains (lostKey (frameOf addr)) = false →
    past (s.at t).ras.scrubAt (ms 86400000) (s.at t).now = false →
    exec (.dramPatrol t addr .clean) s = .next ⟨s.pending, goOn (s.at t)⟩
    ∧ exec (.dramPatrol t addr .corrected) s = .next ⟨s.pending, goOn (corrected addr (s.at t))⟩
    ∧ exec (.dramPatrol t addr .uncorrectable) s = .next ⟨s.pending, goOn (uncorrected addr (s.at t))⟩)
  ∧ (∀ (s : State) (t : Time) (i : Island), Awake s →
    let d := count Reg.rasHandshakeCount (s.at t)
    (d.ras.expired = [] →
      exec (.handshakeTimeout t i) s = .next ⟨s.pending, { d with ras.expired := [i] }⟩)
    ∧ (d.ras.expired = [i] →
      exec (.handshakeTimeout t i) s = .next ⟨s.pending, goOn (failIsland i (raiseDev St.rasHandshake { d with
        ras.expired := []
        ras.handshake := true }))⟩))
  ∧ (∀ (s : State) (t : Time) (core : Nat), Awake s →
    let recent := (s.at t).ras.resetTimes.filter fun x => !past x (ms 1000) (s.at t).now
    let d := raiseDev St.rasMgmtWatchdog { s.at t with
      ras.coreResets := min 0xFFFF ((s.at t).ras.coreResets + 1)
      ras.resetTimes := recent ++ [(s.at t).now] }
    (recent.length < 2 → exec (.mgmtWatchdogTimeout t core) s = .next ⟨s.pending, d⟩)
    ∧ (2 ≤ recent.length → exec (.mgmtWatchdogTimeout t core) s = .next ⟨s.pending, mgmtReset d⟩))
  ∧ (∀ (s : State) (t : Time), Awake s → (s.at t).cfg.phase = .run → past (s.at t).ras.lastLive (us 40) (s.at t).now = true →
    (s.at t).ras.selfFenced = false →
    exec (.livenessTimeout t) s = .next ⟨s.pending, raiseDev St.rasSelfFence { s.at t with ras.selfFenced := true }⟩)
  ∧ (∀ (s : State) (t : Time) (core : Nat), Awake s → (s.at t).ras.running.contains core = true →
    exec (.livenessWrite t core) s = .next ⟨s.pending, { s.at t with
      ras.lastLive := (s.at t).now
      ras.selfFenced := false }⟩)

/-- R344, R346, R347, R447, R557: a signal, and the attempt 1 s after the last one, start the training of an enabled DOWN port that nothing
holds back; training that ends with the right identity takes the port to UP with every lane, to DEGRADED with half of them, and to FAILED
with a wrong identity; with fewer lanes, and after 200 ms, the port is DOWN with AUV_TRAIN_TIMEOUT; a port woken from retention that is late
trains in full. The model's readings in it: log entry 65. -/
def Obligations.PortTraining : Prop :=
  (∀ (s : State) (t : Time) (p : Nat), Awake s → ((s.at t).port p).state = .down → portEnabled (s.at t) p = true →
    ((s.at t).port p).backoff = false → staysDown (s.at t) p = false →
    exec (.portSignalDetect t p) s = .next ⟨s.pending, trainPort p (s.at t)⟩
    ∧ (past ((s.at t).port p).trainedAt (ms 1000) (s.at t).now = true → ((s.at t).port p).slept = false →
      exec (.portRetrainTimer t p) s = .next ⟨s.pending, trainPort p (s.at t)⟩))
  ∧ (∀ (s : State) (t : Time) (p : Nat) (id : LinkIdentity) (trained : List Nat), Awake s →
    ((s.at t).port p).state = .training →
    let lanes := usableLanes (s.at t) p trained []
    let up (st : PortState) (ls : List Nat) (q : Port) : Port := { q.freshCredits with
      state := st
      lanes := ls
      farDevice := if id.partner then 0 else id.device
      farPort := id.port
      farPartner := id.partner
      asym := asymmetry p id
      retained := false
      slept := false }
    (identityOk (s.at t) p id = false →
      exec (.portTrainingComplete t p id trained []) s = .next ⟨s.pending, raiseDev St.auvPortMiswired (modPort p (fun q => { q with
        state := .failed
        miswired := true
        lanes := [] }) (s.at t))⟩)
    ∧ (identityOk (s.at t) p id = true → lanes.length = portLanes p → portLanes p ≠ 0 →
      exec (.portTrainingComplete t p id trained []) s
        = .next ⟨s.pending, raiseDev St.auvPortUp (modPort p (up .up lanes) (s.at t))⟩)
    ∧ (identityOk (s.at t) p id = true → lanes.length < portLanes p → portLanes p ≤ 2 * lanes.length →
      exec (.portTrainingComplete t p id trained []) s
        = .next ⟨s.pending, raiseDev St.auvPortDegraded (modPort p (up .degraded (lanes.take (portLanes p / 2))) (s.at t))⟩)
    ∧ (identityOk (s.at t) p id = true → 2 * lanes.length < portLanes p →
      exec (.portTrainingComplete t p id trained []) s = .next ⟨s.pending, trainFails p (s.at t)⟩))
  ∧ (∀ (s : State) (t : Time) (p : Nat), Awake s → ((s.at t).port p).state = .training →
    (past ((s.at t).port p).trainedAt (ms 200) (s.at t).now = true →
      exec (.portTrainingTimeout t p) s = .next ⟨s.pending, raiseDev St.auvTrainTimeout (modPort p (fun q => { q with
        state := .down
        lanes := []
        retained := false }) (s.at t))⟩)
    ∧ (((s.at t).port p).retained = true → past ((s.at t).port p).trainedAt (us 10) (s.at t).now = true →
      exec (.portWakeTimeout t p) s
        = .next ⟨s.pending, trainPort p (modPort p (fun q => { q with retained := false }) (s.at t))⟩))

/-- R344, R348, R573, R576: uncorrectable codewords are counted, and a lane with more than 16 of them is faulted and its port retrained; loss of
signal retrains a port that runs, and takes a FAILED port to DOWN when it is on every lane; after 10 s a held port tries again; the sleep
ordered set takes the port to DOWN with its equalisation kept, and the wake ordered set wakes its domain or trains it. R350, R351: on a port
that runs, a good control flit starts its group and sets the credits it carries, a good data flit changes nothing by itself, and a bad flit
is counted and dropped with the packets that have a byte in it; a port that does not run takes none. The model's readings in it: log entry
65. -/
def Obligations.PortLife : Prop :=
  ((∀ (s : State) (t : Time) (p lane n : Nat), Awake s →
    let d := modPort p (fun q => { q with fecUncorr := min 0xFFFFFFFF (q.fecUncorr + n) }) (s.at t)
    (n ≤ 16 → exec (.laneFault t p lane n) s = .next ⟨s.pending, d⟩)
    ∧ (16 < n → exec (.laneFault t p lane n) s = .next ⟨s.pending, retrain p (modPort p (fun q => { q with
        faulted := if q.faulted.contains lane then q.faulted else q.faulted ++ [lane] }) d)⟩))
  ∧ (∀ (s : State) (t : Time) (p : Nat), Awake s → (s.at t).linkUp p = true → ((s.at t).port p).state ≠ .failed →
    let recent := ((s.at t).port p).retrainTimes.filter fun x => !past x (ms 10000) (s.at t).now
    let d := raiseDev St.auvRetrain (modPort p (fun q => { q with
      retrains := min 127 (q.retrains + 1)
      retrainTimes := recent ++ [(s.at t).now] }) (s.at t))
    (recent.length < 2 → exec (.lossOfSignal t p false) s = .next ⟨s.pending, trainPort p d⟩)
    ∧ (2 ≤ recent.length → exec (.lossOfSignal t p false) s = .next ⟨s.pending, modPort p (fun q => { q with
        state := .down
        backoff := true
        trainedAt := d.now
        lanes := [] }) d⟩))
  ∧ (∀ (s : State) (t : Time) (p : Nat), Awake s → ((s.at t).port p).state = .failed →
    exec (.lossOfSignal t p true) s = .next ⟨s.pending, modPort p (fun q => { q with
      state := .down
      lanes := [] }) (s.at t)⟩)
  ∧ (∀ (s : State) (t : Time) (p : Nat), Awake s → ((s.at t).port p).backoff = true →
    past ((s.at t).port p).trainedAt (ms 10000) (s.at t).now = true →
    exec (.retrainBackoffExpiry t p) s
      = .next ⟨s.pending, tryTrain p (modPort p (fun q => { q with backoff := false }) (s.at t))⟩)
  ∧ (∀ (s : State) (t : Time) (p : Nat), Awake s → (s.at t).linkUp p = true →
    exec (.sleepOrderedSet t p) s = .next ⟨s.pending, modPort p (fun q => { q with
      state := .down
      retained := true
      slept := true }) (s.at t)⟩)
  ∧ (∀ (s : State) (t : Time) (p : Nat), Awake s →
    (((s.at t).domain (87 + p)).state ≠ .on →
      exec (.wakeOrderedSet t p) s = .next ⟨s.pending, wakeDomain (87 + p) 2 (s.at t)⟩)
    ∧ (((s.at t).domain (87 + p)).state = .on → ((s.at t).port p).state = .down → portEnabled (s.at t) p = true →
      ((s.at t).port p).backoff = false → staysDown (s.at t) p = false →
      exec (.wakeOrderedSet t p) s = .next ⟨s.pending, trainPort p (s.at t)⟩)))
  ∧ (∀ (s : State) (t : Time) (p : Nat), Awake s →
    ((s.at t).linkUp p = true →
      (∀ c : ControlFlit, exec (.flitReceived t p true (.control c)) s = .next ⟨s.pending, modPort p (fun q => { q with
        rxGroup := c.group
        rxStarts := c.starts
        rxDropped := []
        credits := c.credits }) (s.at t)⟩)
      ∧ (∀ c : ControlFlit, exec (.flitReceived t p false (.control c)) s
        = .next ⟨s.pending, count Reg.auvFlitDropCount (modPort p (fun q => { q with
            rxGroup := q.rxGroup + 1
            rxStarts := []
            rxDropped := List.range 32 }) (s.at t))⟩)
      ∧ (∀ i : Nat, exec (.flitReceived t p true (.data i)) s = .next ⟨s.pending, s.at t⟩)
      ∧ ∀ i : Nat, exec (.flitReceived t p false (.data i)) s
        = .next ⟨s.pending, count Reg.auvFlitDropCount (modPort p (fun q => { q with
            rxDropped := q.rxDropped ++ [i] }) (s.at t))⟩)
    ∧ ((s.at t).linkUp p = false → ∀ (ok : Bool) (f : Flit), exec (.flitReceived t p ok f) s = .next ⟨s.pending, s.at t⟩))

/-- R353, R357, R358, R362, R365: a packet on a port that does not run changes nothing; on one that runs its room is free, and: a bad header is
counted and dropped; a packet for another device goes on; one from an endpoint that its port does not hold is AUV_SPOOF; through the torus,
a packet of an unknown epoch gets a reinit ACK, a duplicate an ACK, one beyond the window is counted, and a fresh one for this device goes
to its channel. The model's readings in it: log entries 41 and 70. -/
def Obligations.PacketArrivals : Prop :=
  (∀ (s : State) (t : Time) (p : Nat) (k : Packet), Awake s → (s.at t).linkUp p = false →
    exec (.packetReceived t p k) s = .next ⟨s.pending, s.at t⟩)
  ∧ (∀ (s : State) (t : Time) (p : Nat) (k : Packet), Awake s → (s.at t).linkUp p = true →
    ((s.at t).port p).rxDropped.length ≠ 32 →
    let d := freeRoom p k (s.at t)
    (headerWhole k = false →
      exec (.packetReceived t p k) s = .next ⟨s.pending, count Reg.auvMalformedCount d⟩)
    ∧ (headerWhole k = true → opcodeKnown k.opcode = true → 8 ≤ p → d.isMine (endpointDevice k.dst) = false →
      exec (.packetReceived t p k) s = .next ⟨s.pending, forward k d⟩)
    ∧ (headerWhole k = true → opcodeKnown k.opcode = true → p < 8 → sourceOk d p k = false →
      exec (.packetReceived t p k) s = .next ⟨s.pending, spoofed p k d⟩)
    ∧ (headerWhole k = true → sequenced k.opcode = true → opcodeKnown k.opcode = true → 8 ≤ p → d.isMine (endpointDevice k.dst) = true →
      let peer := rxPeer d p k.src k.dst
      (checkPsn d peer k = .reinit → exec (.packetReceived t p k) s = .next ⟨s.pending, sendAck peer true d⟩)
      ∧ (checkPsn d peer k = .duplicate → exec (.packetReceived t p k) s = .next ⟨s.pending, sendAck peer false d⟩)
      ∧ (checkPsn d peer k = .beyond → exec (.packetReceived t p k) s = .next ⟨s.pending, count Reg.auvPsnRangeCount d⟩)
      ∧ (checkPsn d peer k = .fresh → endpointNumber k.dst < 64 →
        exec (.packetReceived t p k) s = .next ⟨s.pending, localPacket peer p k d⟩)))

/-- R370, R374, R376, R378, R380: a WRITE, READ, SEND or WAIT that its channel's checks pass, in order and with its place in the window, waits
there as complete, the WRITE with its bytes placed and the READ once its bytes are in T1, and the channels go on; one that is refused gets
one completion with the refusal, and its violation is logged; a WAIT whose time has run out is visible with AUV_WAIT_TIMEOUT and, with
abort_chain, aborts its chain. The model's readings in it: log entry 69. -/
def Obligations.ChannelMessages : Prop :=
  (∀ (s : State) (t : Time) (h : MsgHdr) (c : Chan), Serves s t → 256 ≤ h.channel →
    mget (s.at t).auv.chans (chanKey h) = some c → csnPassed c h.csn = false → csnAhead c h.csn < 64 →
    (∀ (addr : Nat) (data : List Byte), checkMsg (s.at t) h 0x01 addr data.length = .pass →
      targetStatus (s.at t) h.tenant (targetVa (s.at t) h addr) data.length true = St.ok →
      targetPresent (s.at t) (targetVa (s.at t) h addr) data.length = true →
      exec (.write t h addr data) s = .next ⟨s.pending,
        goOn (addDone h .write addr data.length (s.at t).now none (placeWrite h (targetVa (s.at t) h addr) data (s.at t)))⟩)
    ∧ (∀ addr bytes : Nat, checkMsg (s.at t) h 0x02 addr bytes = .pass →
      targetStatus (s.at t) h.tenant (targetVa (s.at t) h addr) bytes false = St.ok →
      targetPresent (s.at t) (targetVa (s.at t) h addr) bytes = true →
      hostLines (s.at t) (targetVa (s.at t) h addr) bytes false = [] →
      exec (.read t h addr bytes) s = .next ⟨s.pending,
        goOn (addDone h .read addr bytes (s.at t).now none (s.at t))⟩)
    ∧ (∀ b : SendBody, checkMsg (s.at t) h 0x03 0 0 = .pass →
      exec (.send t h b) s = .next ⟨s.pending, goOn (addDone h (.send b) 0 0 (s.at t).now none (s.at t))⟩)
    ∧ (∀ m : WaitMsg, checkMsg (s.at t) h 0x0B 0 0 = .pass →
      exec (.wait t h m) s = .next ⟨s.pending, goOn (addDone h (.wait m) 0 0 (s.at t).now none (s.at t))⟩))
  ∧ (∀ (s : State) (t : Time) (h : MsgHdr) (b : SendBody) (st : Status) (own : Bool), Serves s t →
    checkMsg (s.at t) h 0x03 0 0 = .refuse st own →
    exec (.send t h b) s = .next ⟨s.pending, goOn (refuseMsg h (.send b) 0x03 0 st own true (s.at t))⟩)
  ∧ (∀ (s : State) (t : Time) (ch : Nat) (c : Chan) (w : Waiting), Serves s t → mget (s.at t).auv.chans ch = some c →
    c.waiting = some w → past w.since (waitLimit w.msg) (s.at t).now = true →
    exec (.waitTimeout t ch) s = .next ⟨s.pending, goOn (endWaitMsg ch w.hdr St.auvWaitTimeout
      (modChan ch (fun c => { c with aborting := w.msg.abortChain }) (s.at t)))⟩)

/-- R361, R362, R365: an ACK releases the packets below cum and those it names, one with reinit ends every message under way; 1 µs after the
first acceptance an ACK leaves; a PROBE with init sets the sender's epoch, cum 0, and discards the sender's reassembly records. The model's
readings in it: log entry 70. -/
def Obligations.Acknowledgements : Prop :=
  (∀ (s : State) (t : Time) (peer : Nat) (m : AckMsg), Awake s →
    (m.reinit = false → exec (.ack t peer m) s = .next ⟨s.pending,
      release peer (fun k => (serialLe k.psn m.cum && decide (k.psn ≠ m.cum)) || m.sacked.contains k.psn) (s.at t)⟩)
    ∧ (m.reinit = true → exec (.ack t peer m) s = .next ⟨s.pending, peerReset peer (s.at t)⟩))
  ∧ (∀ (s : State) (t since : Time) (peer : Nat), Awake s → ((s.at t).path peer).ackSince = some since →
    (past since (us 1) (s.at t).now = true → exec (.ackDelayTimeout t peer) s = .next ⟨s.pending, sendAck peer false (s.at t)⟩)
    ∧ (past since (us 1) (s.at t).now = false → exec (.ackDelayTimeout t peer) s = .next ⟨s.pending, s.at t⟩))
  ∧ (∀ (s : State) (t : Time) (peer : Nat) (epoch : BitVec 8), Awake s → (s.at t).auv.reasm = [] →
    exec (.probeInit t peer epoch) s = .next ⟨s.pending, modPath peer (fun ps => { ps with
      cum := 0
      accepted := []
      peerEpoch := some epoch
      unackedRx := 0
      ackSince := none }) (s.at t)⟩)

/-- R363, R364, R432: an expired packet counts a strike on its path and is sent again; the 16th strike fails the path; a failed path is probed,
any other is not; a path PROBE is answered on its port; a path reply restores a failed path with AUV_PATH_RESTORED. The model's readings in
it: log entry 70. -/
def Obligations.PathRecovery : Prop :=
  (∀ (s : State) (t : Time) (peer : Nat) (psn : BitVec 24) (u : Unacked), Awake s → ((s.at t).path peer).unacked = [u] →
    u.packet.psn = psn → past u.sentAt (rto (s.at t)) (s.at t).now = true →
    mgetD ((s.at t).path peer).strikes u.path 0 + 1 < 16 →
    exec (.retransmitTimeout t peer psn) s = .next ⟨s.pending, resend peer u (modPath peer (fun ps => { ps with
      strikes := mset ps.strikes u.path (mgetD ((s.at t).path peer).strikes u.path 0 + 1) }) (s.at t))⟩)
  ∧ (∀ (s : State) (t : Time) (peer path : Nat), Awake s →
    (((s.at t).path peer).failed.contains path = true →
      exec (.failedPathProbe t peer path) s = .next ⟨s.pending, probePath peer path (s.at t)⟩)
    ∧ (((s.at t).path peer).failed.contains path = false →
      exec (.failedPathProbe t peer path) s = .next ⟨s.pending, s.at t⟩))
  ∧ (∀ (s : State) (t : Time) (port : Nat) (m : ProbeMsg), Awake s → m.kind = 0 →
    exec (.pathProbe t port m) s
      = .next ⟨s.pending, sendProbe port m.device (probeMsg (s.at t) 1 0 false) (s.at t)⟩)
  ∧ (∀ (s : State) (t : Time) (peer path : Nat) (m : ProbeMsg), Awake s → m.kind = 1 →
    ((s.at t).path peer).failed.contains path = true →
    let d := raiseDev St.auvPathRestored (modPath peer (fun ps => { ps with
      failed := ps.failed.erase path
      strikes := mdel ps.strikes path }) (s.at t))
    exec (.pathReply t peer path m) s = .next ⟨s.pending, releaseWaiting peer (d.path peer).waiting.length d⟩)

/-- R376, R377: an RNR takes its packet out of the link buffers and lets it wait; at the 64th the message ends with AUV_RNR_LIMIT; once
retry_after has passed the fragment is sent again with a new psn; a READ whose bytes have not come in 200 µs is answered with RNR. The
model's readings in it: log entry 70. -/
def Obligations.NotReady : Prop :=
  (∀ (s : State) (t : Time) (peer : Nat) (m : RnrMsg) (u : Unacked), Awake s → ((s.at t).path peer).unacked = [u] →
    u.packet.psn = m.psn → u.packet.msgId = m.msgId →
    let n := mgetD ((s.at t).path peer).rnrCounts m.msgId 0 + 1
    (64 ≤ n → exec (.rnr t peer m) s = .next ⟨s.pending, failMessages peer St.auvRnrLimit (sameMessage u.packet)
      (modPath peer (fun ps => { ps with rnrCounts := mdel ps.rnrCounts m.msgId }) (s.at t))⟩)
    ∧ (n < 64 →
      let d := modPath peer (fun ps => { ps with
        unacked := ps.unacked.filter fun x => !decide (x.packet.psn = m.psn)
        rnrWaits := ps.rnrWaits ++ [{ packet := u.packet, notBefore := (s.at t).now + ns m.retryAfterNs }]
        rnrCounts := mset ps.rnrCounts m.msgId n }) (s.at t)
      exec (.rnr t peer m) s = .next ⟨s.pending, releaseWaiting peer (d.path peer).waiting.length d⟩))
  ∧ (∀ (s : State) (t : Time) (peer frag : Nat) (w : RnrWait), Awake s → ((s.at t).path peer).rnrWaits = [w] →
    w.packet.fragIndex = frag → serialLe w.notBefore (s.at t).now = true →
    exec (.rnrRetry t peer w.packet.msgId frag) s = .next ⟨s.pending, sendPacket peer (againAfterRnr w.packet)
      (modPath peer (fun ps => { ps with rnrWaits := ps.rnrWaits.erase w }) (s.at t))⟩)
  ∧ (∀ (s : State) (t : Time) (x : ReadStall), Awake s → (s.at t).auv.stalls = [x] → past x.since (us 200) (s.at t).now = true →
    exec (.readNotPresentTimeout t x.hdr.channel x.hdr.msgId) s = .next ⟨s.pending,
      notReady x.hdr (targetVa (s.at t) x.hdr x.addr) 0xFFFF x.psn { s.at t with auv.stalls := [] }⟩)

/-- R369, R373: a fetched context enters the cache and its packets leave the miss buffer; one that has not come in 1.5 µs drops its packets,
counts them and raises AUV_CTX_FETCH; an idle reassembly record ends with AUV_REASM_TIMEOUT, and is forgotten the next time. R354, R383,
R385, R443: an EVENT of another device is raised in turn, and PAR_TAKEOVER also turns the route of the lost ID; a CMPL ends the wait of the
message it answers, or goes on to the partner that the message came from. The model's readings in it: log entries 40 and 70. -/
def Obligations.ContextsAndMessages : Prop :=
  ((∀ (s : State) (t : Time) (m : Miss), Awake s → (s.at t).auv.misses = [m] →
    let d := cacheContext m.packet.channel { s.at t with auv.misses := [] }
    exec (.contextFetchComplete t m.packet.channel) s
      = .next ⟨s.pending, endPacket (rxPeer d m.port m.packet.src m.packet.dst) m.port m.packet d⟩
    ∧ (past m.since (ns 1500) (s.at t).now = true →
      exec (.contextFetchTimeout t m.packet.channel) s = .next ⟨s.pending,
        raiseDev St.auvCtxFetch (countBy Reg.auvMissDropCount 1 { s.at t with auv.misses := [] })⟩))
  ∧ (∀ (s : State) (t : Time) (r : Reasm), Awake s → (s.at t).auv.reasm = [r] →
    past r.since (ms (s.at t).reasmMs) (s.at t).now = true →
    (r.dead = none → exec (.reassemblyTimeout t r.src r.dst r.msgId) s = .next ⟨s.pending,
      let d := { s.at t with auv.reasm := [{ r with dead := some St.auvReasmTimeout }] }
      goOn (addDone r.hdr r.body r.addr 0 d.now (some St.auvReasmTimeout) (complete r.hdr St.auvReasmTimeout 0 d))⟩)
    ∧ (∀ x, r.dead = some x → exec (.reassemblyTimeout t r.src r.dst r.msgId) s
      = .next ⟨s.pending, { s.at t with auv.reasm := [] }⟩)))
  ∧ ((∀ (s : State) (t : Time) (port : Nat) (m : EventMsg), Awake s → m.status ≠ St.parTakeover →
    exec (.eventReceived t port m) s = .next ⟨s.pending, raise m.status m.tenant m.detail (s.at t)⟩)
  ∧ (∀ (s : State) (t : Time) (port lost survivor : Nat) (m : EventMsg), Awake s → m.status = St.parTakeover →
    m.detail = [lost, survivor] →
    exec (.eventReceived t port m) s
      = .next ⟨s.pending, takeoverHeard lost survivor (raise St.parTakeover m.tenant [lost, survivor] (s.at t))⟩)
  ∧ (∀ (s : State) (t : Time) (src dst : Nat) (m : CmplMsg), Awake s →
    (endpointNumber dst < 64 → exec (.cmplReceived t src dst m) s
      = .next ⟨s.pending, modPath (peerOf (s.at t) src) (fun ps => { ps with
          awaiting := ps.awaiting.filter fun a => !decide (a = (src, m.msgId)) }) (s.at t)⟩)
    ∧ (endpointDevice dst = (s.at t).par.deviceId → 64 ≤ endpointNumber dst → exec (.cmplReceived t src dst m) s
      = .next ⟨s.pending, sendPacket (peerOf (s.at t) dst)
          (fragment src dst 0x21 (if m.status = 0 then 1 else 0) 0 0 m.csn m.msgId 16 0 0 0 false []) (s.at t)⟩)))

/-- R386, R388: OPEN of a free channel of a kind without a range, CLOSE and QUERY of the tenant's channel, SUBSCRIBE and UNSUBSCRIBE: an M0
tenant's channels are changed here and answered at once, others by a commit; a channel that does not exist is refused. The model's readings
in it: log entry 71. -/
def Obligations.ChannelAdmin : Prop :=
  (∀ (s : State) (t : Time) (rq : Requester) (r : ChanAdmin), Admits s t rq false → tenantOk (s.at t) rq r.tenant = true →
    openRange r = true → r.kind ≠ 0 → r.channel ≠ 0xFFFFFFFF → mhas (s.at t).auv.chans r.channel = false →
    let a := applyChanOpen r (s.at t)
    (tenantMirror (s.at t) r.tenant = .m0 →
      exec (.chanAdminOpen t rq r) s = .next ⟨s.pending, reply rq a.status a.fields a.state⟩)
    ∧ (tenantMirror (s.at t) r.tenant ≠ .m0 →
      exec (.chanAdminOpen t rq r) s
        = .next ⟨s.pending, pairChange rq (.chanOpen r) none (applyChanOpen r) (s.at t)⟩))
  ∧ (∀ (s : State) (t : Time) (rq : Requester) (tenant ch : Nat), Admits s t rq false →
    chanCheck (s.at t) rq tenant ch = St.ok →
    exec (.chanAdminQuery t rq tenant ch) s = .next ⟨s.pending, reply rq St.ok (chanFields (s.at t) ch) (s.at t)⟩
    ∧ exec (.chanAdminClose t rq tenant ch) s
      = .next ⟨s.pending, goOn (chanChange rq tenant (.chanClose ch) (applyChanClose ch) (s.at t))⟩)
  ∧ (∀ (s : State) (t : Time) (rq : Requester) (tenant ch : Nat), Admits s t rq false →
    tenantOk (s.at t) rq tenant = true → mget (s.at t).auv.chans ch = none →
    exec (.chanAdminQuery t rq tenant ch) s = .next ⟨s.pending, refuse rq St.auvNoChannel (s.at t)⟩
    ∧ exec (.chanAdminClose t rq tenant ch) s = .next ⟨s.pending, goOn (refuse rq St.auvNoChannel (s.at t))⟩)
  ∧ (∀ (s : State) (t : Time) (rq : Requester) (r : ChanAdmin), Admits s t rq false → tenantOk (s.at t) rq r.tenant = true →
    let rest := (s.at t).auv.subs.filter fun u => !namedSub r u
    (r.kind = 0 → 256 ≤ r.target → r.target < 1048576 → rest.length < 256 →
      exec (.chanAdminSubscribe t rq r) s = .next ⟨s.pending, reply rq St.ok [r.target, 0, 0] { s.at t with
        auv.subs := rest ++ [{ dst := r.peer, channel := r.target, tenant := r.tenant, mask := r.mask, all := false, seq := 0, queue := [], lost := 0 }] }⟩)
    ∧ ((s.at t).auv.subs.any (namedSub r) = true →
      exec (.chanAdminUnsubscribe t rq r) s
        = .next ⟨s.pending, reply rq St.ok [r.target, 0, 0] { s.at t with auv.subs := rest }⟩)
    ∧ ((s.at t).auv.subs.any (namedSub r) = false →
      exec (.chanAdminUnsubscribe t rq r) s = .next ⟨s.pending, reply rq St.auvNoChannel [r.target, 0, 0] (s.at t)⟩))

/-- R392, R395, R399, R406: a free transmitter of a running port counts the heads it passes over and sends the head of the queue it chooses, and
a busy one chooses nothing; an entry that has run its time is followed by the next; a pending list takes force at entry 0 once its time has
come; a credit tick gives each bucket-mode queue its rate, up to its burst. The model's readings in it: log entry 72. -/
def Obligations.EgressEvents : Prop :=
  (∀ (s : State) (t : Time) (p : Nat), Awake s →
    ((s.at t).linkUp p = true → serialLe ((s.at t).egr p).busyUntil (s.at t).now = true →
      let d := countBy Reg.shpHoldCount (passedOver (s.at t) p (selectQueue (s.at t) p)) (s.at t)
      (selectQueue (s.at t) p = none → exec (.transmitChoice t p) s = .next ⟨s.pending, d⟩)
      ∧ (∀ c, selectQueue (s.at t) p = some c → exec (.transmitChoice t p) s = .next ⟨s.pending, transmit p c d⟩))
    ∧ (serialLe ((s.at t).egr p).busyUntil (s.at t).now = false →
      exec (.transmitChoice t p) s = .next ⟨s.pending, s.at t⟩))
  ∧ (∀ (s : State) (t : Time) (p : Nat) (r : GateRun) (x : GateEntry), Awake s → ((s.at t).egr p).running = some r →
    r.list.entries[((s.at t).egr p).entry]? = some x →
    past ((s.at t).egr p).entryStart (ns x.intervalNs) (s.at t).now = true →
    exec (.gateEntryChange t p) s = .next ⟨s.pending, modEgress p (fun e => { e with
      entry := (e.entry + 1) % max 1 r.list.entries.length
      entryStart := e.entryStart + ns x.intervalNs }) (s.at t)⟩)
  ∧ (∀ (s : State) (t : Time) (p : Nat) (r : GateRun), Awake s → ((s.at t).egr p).pending = some r →
    (serialLe r.start (s.at t).now = true → exec (.gateListActivate t p) s = .next ⟨s.pending, modEgress p (fun e => { e with
      running := some r
      entry := 0
      entryStart := r.start
      pending := none }) (s.at t)⟩)
    ∧ (serialLe r.start (s.at t).now = false → exec (.gateListActivate t p) s = .next ⟨s.pending, s.at t⟩))
  ∧ (∀ (s : State) (t : Time), Awake s → exec (.bucketCreditTick t) s = .next ⟨s.pending,
    forN 13 (fun p d => forL (bestEffort p) (fun c d =>
      if inBucketMode d p c then modQueue p c (fun q => { q with
        credit := min (d.burst4k (bucketIndex p c) * 4096) (q.credit + bucketRate d p c) }) d
      else d) d) (s.at t)⟩)

/-- R432, R433, R434, R560: in RUN and not self-fenced, the heartbeat timer counts and sends a heartbeat on a running PAIR; a heartbeat on PAIR
ends SUSPECT, and in PAIRED is only noted; a partner probe is answered on its port; a partner reply takes SUSPECT to PAUSED; a witness query
is answered; a witness reply counts in SUSPECT and JOINING; the probes are repeated in both. The model's readings in it: log entry 39. -/
def Obligations.PairProbes : Prop :=
  (∀ (s : State) (t : Time), Awake s → (s.at t).cfg.phase = .run → (s.at t).ras.selfFenced = false →
    (s.at t).par.state = .paired → (s.at t).linkUp portPair = true →
    let d := { s.at t with par.hbCount := (s.at t).par.hbCount + 1 }
    exec (.heartbeatTimer t) s = .next ⟨s.pending, sendProbe portPair d.par.partnerId (probeMsg d 2 0 false) d⟩)
  ∧ (∀ (s : State) (t : Time) (m : ProbeMsg) (snap : Option Time), Awake s → (s.at t).cfg.phase = .run →
    (s.at t).ras.selfFenced = false → m.kind = 2 → m.device = (s.at t).par.partnerId → m.tookOver = false →
    ((s.at t).par.state = .paired → exec (.heartbeat t portPair m snap) s = .next ⟨s.pending, noteHeartbeat true (s.at t)⟩)
    ∧ ((s.at t).par.state = .suspect →
      exec (.heartbeat t portPair m snap) s = .next ⟨s.pending, enterPaired (noteHeartbeat true (s.at t))⟩))
  ∧ (∀ (s : State) (t : Time) (port : Nat) (m : ProbeMsg), Awake s → (s.at t).cfg.phase = .run →
    (s.at t).ras.selfFenced = false → m.device = (s.at t).par.partnerId → m.tookOver = false →
    let d := { s.at t with par.partnerHeard := true }
    (m.kind = 3 → (s.at t).par.state = .suspect → exec (.partnerProbe t port m) s
      = .next ⟨s.pending, sendProbe port m.device (probeMsg d 4 m.subject false) d⟩)
    ∧ (m.kind = 4 → (s.at t).par.state = .suspect → exec (.partnerReply t port m) s
      = .next ⟨s.pending, raiseDev St.parMirrorPaused (enterPaused { d with par.lastHeartbeat := (s.at t).now })⟩))
  ∧ (∀ (s : State) (t : Time) (port : Nat) (m : ProbeMsg), Awake s →
    (m.kind = 5 → (s.at t).ras.selfFenced = false → exec (.witnessQuery t port m) s
      = .next ⟨s.pending, sendProbe port m.device (probeMsg (s.at t) 6 m.subject false) (s.at t)⟩)
    ∧ (m.kind = 5 → (s.at t).ras.selfFenced = true → exec (.witnessQuery t port m) s = .next ⟨s.pending, s.at t⟩)
    ∧ (m.kind = 6 → m.subject = (s.at t).par.partnerId → m.device ≠ (s.at t).par.partnerId →
      ((s.at t).par.state = .suspect ∨ (s.at t).par.state = .joining) →
      exec (.witnessReply t port m) s = .next ⟨s.pending, { s.at t with par.witness := true }⟩))
  ∧ (∀ (s : State) (t : Time), Awake s → (s.at t).cfg.phase = .run → (s.at t).ras.selfFenced = false →
    ((s.at t).par.state = .suspect ∨ (s.at t).par.state = .joining) →
    exec (.partnerProbeRepeat t) s = .next ⟨s.pending, probeAround (s.at t)⟩)

/-- R433, R434, R435, R436, R439, R443: 50 µs of silence make a PAIRED or PAUSED device SUSPECT and end a resync; 200 µs in SUSPECT, and 1 s of
JOINING without an answer, bring the takeover where a witness or the rule for one pair allows it and ISOLATED where not; heartbeats for 100
µs on an UP PAIR end PAUSED; force_takeover by an operator takes over from ISOLATED and is refused elsewhere; another pair's takeover turns
the route of the lost ID. The model's readings in it: log entries 38 and 39. -/
def Obligations.PairTimers : Prop :=
  (∀ (s : State) (t : Time), Awake s → (s.at t).cfg.phase = .run → (s.at t).ras.selfFenced = false →
    (past (s.at t).par.lastHeartbeat (us 50) (s.at t).now = true →
      ((s.at t).par.state = .paired ∨ (s.at t).par.state = .paused →
        exec (.pairSilenceTimeout t) s = .next ⟨s.pending, enterSuspect (s.at t)⟩)
      ∧ ((s.at t).par.state = .resync → exec (.pairSilenceTimeout t) s = .next ⟨s.pending, setPair .solo { s.at t with
          par.copies := []
          par.resyncOps := [] }⟩))
    ∧ ((s.at t).par.state = .suspect → past (s.at t).par.since (us 200) (s.at t).now = true →
      (mayTakeOver (s.at t) = true → exec (.pairLossTimeout t) s = .next ⟨s.pending, takeover (s.at t)⟩)
      ∧ (mayTakeOver (s.at t) = false →
        exec (.pairLossTimeout t) s = .next ⟨s.pending, enterIsolated St.parIsolated (s.at t)⟩))
    ∧ ((s.at t).par.state = .joining → (s.at t).par.partnerHeard = false →
      past (s.at t).par.since (ms 1000) (s.at t).now = true →
      (mayTakeOver (s.at t) = true → exec (.joinTimeout t) s = .next ⟨s.pending, takeover (s.at t)⟩)
      ∧ (mayTakeOver (s.at t) = false →
        exec (.joinTimeout t) s = .next ⟨s.pending, finishStartup (enterIsolated St.parJoinTimeout (s.at t))⟩))
    ∧ (∀ x, (s.at t).par.state = .paused → ((s.at t).port portPair).state = .up → (s.at t).par.heartbeatsSince = some x →
      past x (us 100) (s.at t).now = true → past (s.at t).par.pairHeartbeat (us 50) (s.at t).now = false →
      exec (.pausedRestore t) s = .next ⟨s.pending, forL (s.at t).par.appendCopies (fun m d => tell (.append m) d)
        (raiseDev St.parMirrorResumed (enterPaired { s.at t with par.appendCopies := [] }))⟩))
  ∧ (∀ (s : State) (t : Time) (rq : Requester), Awake s → isOperator (s.at t) rq = true →
    ((s.at t).par.state = .isolated → exec (.forceTakeover t rq) s = .next ⟨s.pending, reply rq St.ok [] (takeover (s.at t))⟩)
    ∧ ((s.at t).par.state ≠ .isolated →
      exec (.forceTakeover t rq) s = .next ⟨s.pending, reply rq St.parForceRefused [] (s.at t)⟩))
  ∧ (∀ (s : State) (t : Time) (lost survivor : Nat), Awake s → lost ≠ (s.at t).par.deviceId →
    exec (.parTakeoverReceived t lost survivor) s
      = .next ⟨s.pending, { s.at t with par.reroute := mset (s.at t).par.reroute lost survivor }⟩)

/-- R423, R424, R426, R429, R445: side A applies side B's proposal, gives it the next commit_seq and returns it, or answers its refusal; side B
applies a later commit and ignores one that its commit_seq has passed; the completion of a change that waits answers its requester; a queued
copy is committed and its datum counts as mirrored; a resync whose copies and changes are through ends, at the survivor as at the joiner of
the same image. The model's readings in it: log entries 36 and 38. -/
def Obligations.PairCommits : Prop :=
  (∀ (s : State) (t : Time) (h : CommitHdr) (op : PairOp), Awake s → (s.at t).cfg.phase = .run →
    (s.at t).ras.selfFenced = false → (s.at t).par.state = .paired → h.resync = false →
    let r := wholly (applyPeer h op) (s.at t)
    ((s.at t).sideA = true → h.proposal = true → r.status = St.ok →
      exec (.pairCommitReceived t h op) s = .next ⟨s.pending, emit (.commit { h with
        seq := r.state.par.commitSeq + 1
        proposal := false } op) { r.state with par.commitSeq := r.state.par.commitSeq + 1 }⟩)
    ∧ ((s.at t).sideA = true → h.proposal = true → r.status ≠ St.ok →
      exec (.pairCommitReceived t h op) s = .next ⟨s.pending, emit (.commitDone h.tag r.status) r.state⟩)
    ∧ ((s.at t).sideA = false → h.proposal = false → h.originB = false → serialLt (s.at t).par.commitSeq h.seq = true →
      atBoundary op = false →
      exec (.pairCommitReceived t h op) s
        = .next ⟨s.pending, emit (.commitDone h.tag r.status) { r.state with par.commitSeq := h.seq }⟩)
    ∧ ((s.at t).sideA = false → h.proposal = false → h.originB = false → serialLt (s.at t).par.commitSeq h.seq = false →
      exec (.pairCommitReceived t h op) s = .next ⟨s.pending, s.at t⟩))
  ∧ (∀ (s : State) (t : Time) (w : CommitWait), Awake s → (s.at t).par.waits = [w] → w.applied = true →
    exec (.pairCommitComplete t w.tag St.ok) s = .next ⟨s.pending, liveNow w.op (finishWait w St.ok (s.at t))⟩
    ∧ ∀ st, st ≠ St.ok → exec (.pairCommitComplete t w.tag st) s
      = .next ⟨s.pending, undoRefused w.op (finishWait w st (s.at t))⟩)
  ∧ (∀ (s : State) (t : Time) (d : Datum) (op : PairOp), Awake s → (s.at t).par.state = .paired →
    ((s.at t).par.copies.any fun c => decide (c.1 = d)) = true → copyOp (s.at t) d = some op →
    let x := sendCopy op (s.at t)
    exec (.mirrorCopyComplete t d) s = .next ⟨s.pending, flushResync (markMirrored d { x with
      par.copies := x.par.copies.filter fun c => !decide (c.1 = d) })⟩)
  ∧ (∀ (s : State) (t : Time), Awake s → (s.at t).cfg.phase = .run → (s.at t).ras.selfFenced = false →
    ((s.at t).par.state = .resync → (s.at t).par.copies = [] → (s.at t).par.resyncOps = [] →
      exec (.resyncComplete t) s = .next ⟨s.pending, survivorDone (s.at t)⟩)
    ∧ ((s.at t).par.state = .joining → exec (.resyncComplete t) s = .next ⟨s.pending, joinerDone (s.at t)⟩))

/-- R457, R470, R471, R472: a CXL.mem read outside every window is answered with poison, in a window without a region or beyond its version with
zeros, and elsewhere, when the host does not hold the line, with the line; a write outside every window is discarded and counted, one to the
LD's own private region lands or is held; an answer to a BISnp is settled; a BISnp unanswered for 1 ms fails its host. A port whose link is
down serves none. The model's readings in it: log entries 66 and 68. -/
def Obligations.HostMemory : Prop :=
  (∀ (s : State) (t : Time) (p ld dpa : Nat), Awake s →
    (memServed (s.at t) p ld = false → ∀ (hold : Option LineState) (data : List Byte),
      exec (.cxlMemRead t p ld dpa hold) s = .next ⟨s.pending, s.at t⟩
      ∧ exec (.cxlMemWrite t p ld dpa data) s = .next ⟨s.pending, s.at t⟩)
    ∧ (memServed (s.at t) p ld = true → windowAt ((s.at t).ld p ld) (dpa / 64 * 64) = none → ∀ hold : Option LineState,
      exec (.cxlMemRead t p ld dpa hold) s = .next ⟨s.pending, goOn (emit (.memPoison p ld (dpa / 64 * 64)) (s.at t))⟩)
    ∧ (memServed (s.at t) p ld = true → windowAt ((s.at t).ld p ld) dpa = none → ∀ data : List Byte,
      exec (.cxlMemWrite t p ld dpa data) s = .next ⟨s.pending, goOn (discardWrite p ld (s.at t))⟩)
    ∧ ∀ w : Window, memServed (s.at t) p ld = true → windowAt ((s.at t).ld p ld) (dpa / 64 * 64) = some w →
      (windowVa (s.at t) w (dpa / 64 * 64) = none → ∀ hold : Option LineState,
        exec (.cxlMemRead t p ld dpa hold) s
          = .next ⟨s.pending, goOn (emit (.memData p ld (dpa / 64 * 64) (List.replicate 64 0)) (s.at t))⟩)
      ∧ ∀ va, windowVa (s.at t) w (dpa / 64 * 64) = some va →
        exec (.cxlMemRead t p ld dpa none) s = .next ⟨s.pending, goOn (answerLine p ld (dpa / 64 * 64) va (s.at t))⟩)
  ∧ (∀ (s : State) (t : Time) (p ld dpa va : Nat) (w : Window) (g : Region) (data : List Byte), Awake s →
    memServed (s.at t) p ld = true → windowAt ((s.at t).ld p ld) dpa = some w → mget (s.at t).cxl.regions w.region = some g →
    windowVa (s.at t) w dpa = some va → g.kind = 2 → g.owner = ldIndex p ld → vaOffset va + data.length ≤ g.size →
    (isFrozen (s.at t) w.region (vaOffset va) data.length = false →
      exec (.cxlMemWrite t p ld dpa data) s = .next ⟨s.pending, goOn (regionStore va data (s.at t))⟩)
    ∧ (isFrozen (s.at t) w.region (vaOffset va) data.length = true →
      exec (.cxlMemWrite t p ld dpa data) s = .next ⟨s.pending, goOn (holdWrite w.region (vaOffset va) data none (s.at t))⟩))
  ∧ (∀ (s : State) (t : Time) (p ld line : Nat) (data : Option (List Byte)), Awake s →
    exec (.bisnpResponse t p ld line data) s = .next ⟨s.pending, goOn (snoopAnswer p ld line data (s.at t))⟩)
  ∧ (∀ (s : State) (t since : Time) (p ld line : Nat) (e : Snoop), Awake s →
    mget ((s.at t).filter p) (snoopKey line ld) = some e → e.snooped = some since →
    (past since (ms 1) (s.at t).now = true →
      exec (.bisnpTimeout t p ld line) s = .next ⟨s.pending, goOn (hostFails p ld (s.at t))⟩)
    ∧ (past since (ms 1) (s.at t).now = false → exec (.bisnpTimeout t p ld line) s = .next ⟨s.pending, s.at t⟩))

/-- R453, R454, R472, R554, R586: a link that goes down fails every LD of its port and, unless viral, is down; a link that comes up is in the
list of links; an LD reset clears the LD of a port whose link is up; PERST_n held for 200 ns resets every LD of its port, a shorter pulse is
a glitch; HOST_FAIL fails the LD that it names and is answered, and an LD that does not exist is CXL_RANGE. The model's readings in it: log
entry 68. -/
def Obligations.HostLinks : Prop :=
  (∀ (s : State) (t : Time) (p : Nat), Awake s → (s.at t).cxl.links.contains p = true →
    let d := ldsOf (hostFails p) (s.at t)
    exec (.cxlLinkDown t p true) s = .next ⟨s.pending, goOn d⟩
    ∧ exec (.cxlLinkDown t p false) s = .next ⟨s.pending, goOn { d with cxl.links := d.cxl.links.erase p }⟩
    ∧ ∀ ld, exec (.ldReset t p ld) s = .next ⟨s.pending, goOn (resetLd p ld (s.at t))⟩)
  ∧ (∀ (s : State) (t : Time) (p : Nat), Awake s → cxlTrains (s.at t) p = true → (s.at t).cxl.links.contains p = false →
    exec (.cxlLinkUp t p) s = .next ⟨s.pending,
      ldsOf (fun l d => if (d.ld p l).state = .failed then resetLd p l d else d)
        { s.at t with cxl.links := (s.at t).cxl.links ++ [p] }⟩)
  ∧ (∀ (s : State) (t : Time) (p heldNs : Nat), Awake s →
    (heldNs < 200 → exec (.cxlPerst t p heldNs) s = .next ⟨s.pending, count Reg.rasGlitchCount (s.at t)⟩)
    ∧ (200 ≤ heldNs → exec (.cxlPerst t p heldNs) s = .next ⟨s.pending, goOn (ldsOf (resetLd p) (s.at t))⟩))
  ∧ (∀ (s : State) (t : Time) (rq : Requester) (p ld : Nat), Admits s t rq true →
    (p < 2 → ld < 16 → exec (.hostFail t rq p ld) s = .next ⟨s.pending, reply rq St.ok [] (goOn (hostFails p ld (s.at t)))⟩)
    ∧ (2 ≤ p ∨ 16 ≤ ld → exec (.hostFail t rq p ld) s = .next ⟨s.pending, reply rq St.cxlRange [] (s.at t)⟩))

/-- R458, R462, R463, R464, R474, R484: REGION_CREATE of a published or compatibility region with a free ID creates its record, empty, and its
space reads as zero; DELETE and RESET of the LD's own region, and MAP that clears an entry, wait for the lines that hosts hold and then take
effect; QUERY answers the record of the LD's tenant; every one of them answers CXL_REGION_STATE for a region that does not exist. The
model's readings in it: log entry 67. -/
def Obligations.RegionCommands : Prop :=
  (∀ (s : State) (t : Time) (p l k : Nat) (r : RegionReq), Admits s t (.ld p l) false → createRegionOk r = true →
    tenantValid (s.at t) ((s.at t).tenantOfLd p l) = true → newRegionId (s.at t) r.region = some k → r.arg ≠ 2 →
    exec (.regionCreate t (.ld p l) r) s = .next ⟨s.pending,
      let d := { s.at t with
        cxl.regions := mset (s.at t).cxl.regions k { tenant := (s.at t).tenantOfLd p l, kind := r.arg, tenantOnly := r.flags.getLsbD 0, cold := r.flags.getLsbD 1, owner := 0xFF, currentSlot := none, size := r.length, current := 0, mapBase := 0, versions := [], poison := [], coldGranules := [] }
        mem := memClear (s.at t).mem (regionVa k 0 0) (2 ^ 46) }
      goOn (reply (.ld p l) St.ok (regionFields d k 0) d)⟩)
  ∧ (∀ (s : State) (t : Time) (p l r : Nat) (g : Region), Admits s t (.ld p l) false → mget (s.at t).cxl.regions r = some g →
    ownTenant (s.at t) p l g = true →
    (g.kind = 2 → g.owner = ldIndex p l → exec (.regionReset t (.ld p l) r) s = .next ⟨s.pending,
      goOn (backInvalidate (heldLines (s.at t) fun _ line _ _ => inRun (regionVa r 0 0) g.size line) (.reset (.ld p l) r) (s.at t))⟩)
    ∧ (g.kind ≠ 2 → windowCovers (s.at t) r (fun _ => true) = false → rangeCovers (s.at t) r (fun _ => true) = false →
      exec (.regionDelete t (.ld p l) r) s = .next ⟨s.pending,
        goOn (backInvalidate (heldLines (s.at t) fun _ line _ _ => inRun (regionVa r 0 0) (2 ^ 46) line) (.delete (.ld p l) r) (s.at t))⟩)
    ∧ exec (.regionQuery t (.ld p l) r) s
      = .next ⟨s.pending, goOn (reply (.ld p l) St.ok (regionRecord (s.at t) r) (s.at t))⟩)
  ∧ (∀ (s : State) (t : Time) (p l : Nat) (r : RegionReq), Admits s t (.ld p l) false → r.window < 64 → r.arg = 0 →
    exec (.regionMap t (.ld p l) r) s = .next ⟨s.pending,
      goOn (backInvalidate ((mget ((s.at t).ld p l).windows r.window).elim [] (windowLines (s.at t) p l)) (.mapEntry (.ld p l) r) (s.at t))⟩)
  ∧ (∀ (s : State) (t : Time) (p l : Nat) (r : RegionReq) (g : Region), Admits s t (.ld p l) false → r.window < 64 →
    r.arg = 1 ∨ r.arg = 2 → mget (s.at t).cxl.regions r.region = some g → ownTenant (s.at t) p l g = true →
    windowOk (s.at t) p l r g = true →
    exec (.regionMap t (.ld p l) r) s = .next ⟨s.pending,
      goOn (backInvalidate ((mget ((s.at t).ld p l).windows r.window).elim [] (windowLines (s.at t) p l)) (.mapEntry (.ld p l) r) (s.at t))⟩)
  ∧ (∀ (s : State) (t : Time) (p l r : Nat), Admits s t (.ld p l) false → mget (s.at t).cxl.regions r = none →
    exec (.regionDelete t (.ld p l) r) s = .next ⟨s.pending, goOn (refuseRegion p l St.cxlRegionState r (s.at t))⟩
    ∧ exec (.regionReset t (.ld p l) r) s = .next ⟨s.pending, goOn (refuseRegion p l St.cxlRegionState r (s.at t))⟩
    ∧ exec (.regionQuery t (.ld p l) r) s = .next ⟨s.pending, goOn (reply (.ld p l) St.cxlRegionState [] (s.at t))⟩)

/-- R465, R466, R467, R469, R477, R480, R482: a PUBLISH that passes its checks freezes its range and waits for the hosts' lines; its CRC pass
refuses another checksum with the range released; RETIRE of a version that nothing uses empties its slot; HINT of a region that is not
private places its granules; an EXPORT that passes its checks pins its pages; its copy ends with TIR_PAGE_LOST where a page was lost; a
second background command of the LD is Busy. The model's readings in it: log entry 67. -/
def Obligations.RegionVersions : Prop :=
  (∀ (s : State) (t : Time) (p l : Nat) (r : RegionReq), Admits s t (.ld p l) false →
    ((s.at t).ld p l).background = none → publishCheck (s.at t) p l r = St.ok →
    let d := emit (.mailbox (.ld p l) .background []) (modLd p l (fun x => { x with background := some (.publish r false) }) (s.at t))
    let e := { d with cxl.frozen := d.cxl.frozen ++ [(r.srcRegion, r.offset, r.length)] }
    exec (.regionPublish t (.ld p l) r) s = .next ⟨s.pending,
      goOn (backInvalidate (heldLines e fun _ line _ _ => inRun (regionVa r.srcRegion 0 r.offset) r.length line) (.freeze p l) e)⟩)
  ∧ (∀ (s : State) (t : Time) (p l : Nat) (b : Background), Admits s t (.ld p l) false →
    ((s.at t).ld p l).background = some b →
    (∀ r, exec (.regionPublish t (.ld p l) r) s = .next ⟨s.pending, goOn (emit (.mailbox (.ld p l) .busy []) (s.at t))⟩)
    ∧ ∀ r, exec (.regionExport t (.ld p l) r) s = .next ⟨s.pending, goOn (emit (.mailbox (.ld p l) .busy []) (s.at t))⟩)
  ∧ (∀ (s : State) (t : Time) (p l : Nat) (r : RegionReq), Awake s → ((s.at t).ld p l).background = some (.publish r false) →
    ((s.at t).cxl.snoopWaits.any fun x => decide (x.what = .freeze p l)) = false →
    crc32c (memReadN (s.at t).mem (regionVa r.srcRegion 0 r.offset) r.length) ≠ r.crc →
    let d := unfreeze r.srcRegion r.offset r.length (s.at t)
    exec (.publishCrcComplete t p l) s
      = .next ⟨s.pending, goOn (endBackground p l St.cxlChecksum (regionFields d r.region 0) d)⟩)
  ∧ (∀ (s : State) (t : Time) (p l r slot : Nat) (v : Version) (version : BitVec 32) (g : Region), Admits s t (.ld p l) false →
    mget (s.at t).cxl.regions r = some g → ownTenant (s.at t) p l g = true → g.kind ≠ 2 →
    (g.versions.find? fun x => decide (x.2.version = version)) = some (slot, v) → g.currentSlot ≠ some slot →
    windowCovers (s.at t) r (fun w => decide (w.bind = 2) && decide (w.slot = slot)) = false →
    rangeCovers (s.at t) r (fun k => decide (k = slot)) = false →
    let d := modRegion r (fun g => { g with
      versions := mdel g.versions slot
      poison := g.poison.filter fun k => !decide (k / 2 ^ 37 = slot)
      coldGranules := g.coldGranules.filter fun k => !decide (k / 134217728 = slot) }) (t1Free v.mapBase (s.at t))
    let e := { d with
      tir.regionUsed := d.tir.regionUsed - 65536 * v.len64k
      mem := memClear d.mem (regionVa r slot 0) (2 ^ 43) }
    exec (.regionRetire t (.ld p l) r version) s = .next ⟨s.pending, goOn (reply (.ld p l) St.ok (regionFields e r 0) e)⟩)
  ∧ (∀ (s : State) (t : Time) (p l : Nat) (r : RegionReq) (g : Region), Admits s t (.ld p l) false →
    mget (s.at t).cxl.regions r.region = some g → ownTenant (s.at t) p l g = true → r.arg ≤ 1 → r.slot < 8 ∨ r.slot = 0xFF →
    r.offset % mib2 = 0 → r.length % mib2 = 0 → r.length ≠ 0 → r.offset + r.length ≤ g.size → g.kind ≠ 2 →
    exec (.regionHint t (.ld p l) r) s = .next ⟨s.pending, goOn (backInvalidate [] (.hint (.ld p l) r) (s.at t))⟩)
  ∧ (∀ (s : State) (t : Time) (p l i : Nat) (r : ExportReq) (q : Machine.Seq) (pages : List Nat), Admits s t (.ld p l) false →
    ((s.at t).ld p l).background = none → exportCheck (s.at t) p l r = St.ok → findSeq (s.at t) r.handle = some (i, q) →
    let d := modLd p l (fun x => { x with background := some (.exportCopy r q.tenant) }) (s.at t)
    exportPages d q r = some pages →
    exec (.regionExport t (.ld p l) r) s = .next ⟨s.pending,
      goOn (emit (.mailbox (.ld p l) .background []) (forL pages (fun k d => takePin (exportOp p l) k d) d))⟩)
  ∧ (∀ (s : State) (t : Time) (p l tenant : Nat) (r : ExportReq), Awake s →
    ((s.at t).ld p l).background = some (.exportCopy r tenant) →
    ((s.at t).pfx.pinWaits.any fun w => decide (w.op = exportOp p l)) = false →
    (((s.at t).pfx.pinOps.filter fun h => decide (h.op = exportOp p l)).map (·.page)).any (pageIsLost (s.at t)) = true →
    let d := dropPins (exportOp p l) (s.at t)
    exec (.exportCopyComplete t p l) s
      = .next ⟨s.pending, goOn (endBackground p l St.tirPageLost (regionFields d r.region 0) d)⟩)

/-- R451, R455, R485, R487: STATUS_SNAPSHOT answers a record of the requester's tenant, CXL_RANGE beyond the classes and their tables, and
CXL_TENANT for another tenant's; in RUN and not self-fenced, Identify reports the pool's capacity, Set Timestamp sets what Get Timestamp
returns at once, the log commands answer, and Event records and their policy are read and written by LD. The model's readings in it: log
entries 75 and 76. -/
def Obligations.MailboxReads : Prop :=
  (∀ (s : State) (t : Time) (rq : Requester) (cls i : Nat), Admits s t rq false →
    (10 < cls → exec (.statusSnapshot t rq cls i) s = .next ⟨s.pending, reply rq St.cxlRange [] (s.at t)⟩)
    ∧ (∀ fields, cls ≤ 10 → snapshotOf (s.at t) (tenantOf (s.at t) rq) cls i = .record none fields →
      exec (.statusSnapshot t rq cls i) s = .next ⟨s.pending, reply rq St.ok fields (s.at t)⟩)
    ∧ (∀ a b fields, cls ≤ 10 → tenantOf (s.at t) rq = some b → isOperator (s.at t) rq = false →
      snapshotOf (s.at t) (some b) cls i = .record (some a) fields →
      (a = b → exec (.statusSnapshot t rq cls i) s = .next ⟨s.pending, reply rq St.ok fields (s.at t)⟩)
      ∧ (a ≠ b → exec (.statusSnapshot t rq cls i) s = .next ⟨s.pending, reply rq St.cxlTenant [] (s.at t)⟩)))
  ∧ (∀ (s : State) (t : Time) (rq : Requester), Awake s → (s.at t).cfg.phase = .run → (s.at t).ras.selfFenced = false →
    exec (.identifyMemoryDevice t rq) s
      = .next ⟨s.pending, answerCxl rq .success [capacityOf (s.at t) rq, capacityOf (s.at t) rq, 0] (s.at t)⟩
    ∧ exec (.getTimestamp t rq) s = .next ⟨s.pending, answerCxl rq .success [(timestampNow (s.at t)).toNat] (s.at t)⟩
    ∧ (∀ v : BitVec 64, exec (.setTimestamp t rq v) s = .next ⟨s.pending, answerCxl rq .success [] { s.at t with
        cxl.timestamp := v
        cxl.timestampAt := (s.at t).now }⟩)
    ∧ exec (.getSupportedLogs t rq) s = .next ⟨s.pending, answerCxl rq .success
        (Config.supportedLogs.length :: Config.supportedLogs.flatMap fun l => [l.1.toNat, l.2]) (s.at t)⟩
    ∧ (∀ (uuid : BitVec 128) (off len : Nat), exec (.getLog t rq uuid off len) s = .next ⟨s.pending, logRead rq uuid off len (s.at t)⟩))
  ∧ (∀ (s : State) (t : Time) (p l : Nat), Awake s → (s.at t).cfg.phase = .run → (s.at t).ras.selfFenced = false →
    (∀ log, log < 4 →
      exec (.getEventRecords t (.ld p l) log) s = .next ⟨s.pending, answerCxl (.ld p l) .success
        ([mgetD ((s.at t).ld p l).overflow log 0, (mgetD ((s.at t).ld p l).logs log []).length]
          ++ (mgetD ((s.at t).ld p l).logs log []).flatMap eventWords) (s.at t)⟩
      ∧ exec (.clearEventRecords t (.ld p l) log []) s = .next ⟨s.pending, answerCxl (.ld p l) .success []
        (modLd p l (fun d => { d with
          logs := mset d.logs log []
          overflow := mdel d.overflow log }) (s.at t))⟩)
    ∧ exec (.getEventInterruptPolicy t (.ld p l)) s
      = .next ⟨s.pending, answerCxl (.ld p l) .success [((s.at t).ld p l).policy.toNat] (s.at t)⟩
    ∧ ∀ v : BitVec 32, exec (.setEventInterruptPolicy t (.ld p l) v) s
      = .next ⟨s.pending, answerCxl (.ld p l) .success [] (modLd p l (fun d => { d with policy := v }) (s.at t))⟩)

/-- R451, R474: Get Poison List answers the poisoned lines that the LD's windows show in the range; Inject Poison and Clear Poison act on a line
of the LD's own private region and are Invalid Input elsewhere; the FM-API answers and sets the allocations of a port's LDs, and CDAT each
LD's bandwidth and latency. The model's readings in it: log entries 76 and 77. -/
def Obligations.PoisonAndAllocations : Prop :=
  (∀ (s : State) (t : Time) (p l : Nat), Awake s → (s.at t).cfg.phase = .run → (s.at t).ras.selfFenced = false →
    (∀ dpa len : Nat,
      let hit := (((s.at t).ld p l).windows.flatMap fun w => windowPoison (s.at t) p l w.2).filter fun a =>
        decide (dpa ≤ a) && decide (a < dpa + len)
      exec (.getPoisonList t (.ld p l) dpa len) s
        = .next ⟨s.pending, answerCxl (.ld p l) .success (hit.length :: hit) (s.at t)⟩)
    ∧ (∀ dpa line : Nat, privateLine (s.at t) p l dpa = some line →
      exec (.injectPoison t (.ld p l) dpa) s = .next ⟨s.pending, answerCxl (.ld p l) .success [] (poisonLine line (s.at t))⟩
      ∧ ∀ data : List Byte, exec (.clearPoison t (.ld p l) dpa data) s = .next ⟨s.pending, answerCxl (.ld p l) .success []
        (regionStore (64 * line) ((data ++ List.replicate 64 0).take 64) (s.at t))⟩)
    ∧ (∀ dpa : Nat, privateLine (s.at t) p l dpa = none →
      exec (.injectPoison t (.ld p l) dpa) s = .next ⟨s.pending, answerCxl (.ld p l) .invalidInput [] (s.at t)⟩
      ∧ ∀ data : List Byte, exec (.clearPoison t (.ld p l) dpa data) s
        = .next ⟨s.pending, answerCxl (.ld p l) .invalidInput [] (s.at t)⟩))
  ∧ (∀ (s : State) (t : Time) (p : Nat), Awake s → (s.at t).cfg.phase = .run → (s.at t).ras.selfFenced = false →
    exec (.getLdInfo t p) s = .next ⟨s.pending, answerCxl .mctp .success [poolCapacity (s.at t), 16] (s.at t)⟩
    ∧ exec (.getLdAllocations t p) s = .next ⟨s.pending, answerCxl .mctp .success
      (16 :: (List.range 16).flatMap fun l => [(ldAllocation (s.at t) p l).1, (ldAllocation (s.at t) p l).2]) (s.at t)⟩
    ∧ (∀ (first : Nat) (a : List (Nat × Nat)), first + a.length ≤ 16 → exec (.setLdAllocations t p first a) s
      = .next ⟨s.pending, answerCxl .mctp .success [a.length, first] (setAllocs p first a (s.at t))⟩)
    ∧ ∀ entry, entry < 16 → exec (.cdatRead t p entry) s
      = .next ⟨s.pending, answerCxl (.ld p entry) .success [128, 128, 700] (s.at t)⟩)

/-- R495, R506, R507, R508, R532, R533: an operator's Get FW Info answers and changes nothing; with no write of the NVM under way, an image
without a fault is accepted in the background and one with a fault is Invalid Input with its status, and a bundle likewise, with
SEC_BUNDLE_INVALID; with one under way both are Busy; Activate FW takes only the next cold reset, which in recovery it brings about. The
model's readings in it: log entry 78. -/
def Obligations.FirmwareCommands : Prop :=
  ∀ (s : State) (t : Time) (rq : Requester), Awake s →
    (s.at t).cfg.phase = .recovery ∨ ((s.at t).cfg.phase = .run ∧ (s.at t).ras.selfFenced = false) →
    exec (.getFwInfo t rq) s = .next ⟨s.pending, fwInfo rq (s.at t)⟩
    ∧ (isOperator (s.at t) rq = true →
      (∀ img : Image,
        ((s.at t).cfg.nvmJobs ≠ [] → exec (.transferFw t rq img) s = .next ⟨s.pending, answerCxl rq .busy [] (s.at t)⟩)
        ∧ ((s.at t).cfg.nvmJobs = [] → imageFault (s.at t) img = St.ok →
          exec (.transferFw t rq img) s
            = .next ⟨s.pending, answerCxl rq .background [] { s.at t with cfg.nvmJobs := [.firmware img] }⟩)
        ∧ ((s.at t).cfg.nvmJobs = [] → imageFault (s.at t) img ≠ St.ok →
          exec (.transferFw t rq img) s
            = .next ⟨s.pending, answerCxl rq .invalidInput [(imageFault (s.at t) img).toNat] (s.at t)⟩))
      ∧ (∀ (b : IdentityCopy) (derived : BitVec 256), (s.at t).cfg.nvmJobs = [] →
        (∀ r, bundleFault (s.at t) b derived = some r → exec (.transferFwIdentity t rq b derived) s
          = .next ⟨s.pending, answerCxl rq .invalidInput []
              (raise St.secBundleInvalid deviceWide [r] { s.at t with sec.bundleRefused := true })⟩)
        ∧ (bundleFault (s.at t) b derived = none → exec (.transferFwIdentity t rq b derived) s
          = .next ⟨s.pending, answerCxl rq .background [] { s.at t with
              cfg.nvmJobs := [.identity { b with storeSeq := if (s.at t).sec.identity = .none then 1 else (s.at t).sec.storeSeq + 1 }] }⟩))
      ∧ (∀ slot, slot ≠ 4 →
        ((s.at t).cfg.phase = .run → exec (.activateFw t rq slot false) s = .next ⟨s.pending, answerCxl rq .success [] (s.at t)⟩)
        ∧ ((s.at t).cfg.phase = .recovery →
          exec (.activateFw t rq slot false) s = .next ⟨s.pending, internalReset (answerCxl rq .success [] (s.at t))⟩)
        ∧ exec (.activateFw t rq slot true) s = .next ⟨s.pending, answerCxl rq .invalidInput [] (s.at t)⟩))

/-- R535, R536, R537, R538: GET_VERSION, GET_CAPABILITIES and NEGOTIATE_ALGORITHMS in their order negotiate a connection of the transport; on a
negotiated one the identity's digest and certificate are answered, and without an identity an error; a CHALLENGE and signed measurements
join the engine's queue while fewer than two wait there, measurements without a signature are answered at once; a finished signature in time
leaves with a signature of the engine's. The model's readings in it: log entry 79. -/
def Obligations.SpdmRequests : Prop :=
  (∀ (s : State) (t : Time) (tr : Nat), Awake s → (s.at t).cfg.phase = .run → (s.at t).ras.selfFenced = false →
    exec (.getVersion t tr) s = .next ⟨s.pending, spdmAnswer tr .version (setStage tr 1 { s.at t with
      sec.jobs := (s.at t).sec.jobs.filter fun j => !decide (j.transport = tr) })⟩
    ∧ (spdmStage (s.at t) tr = 1 →
      exec (.getCapabilities t tr) s = .next ⟨s.pending, spdmAnswer tr .capabilities (setStage tr 2 (s.at t))⟩)
    ∧ (spdmStage (s.at t) tr = 2 → ∀ dmtf, exec (.negotiateAlgorithms t tr true true dmtf) s
      = .next ⟨s.pending, spdmAnswer tr (.algorithms true true dmtf) (setStage tr 3 (s.at t))⟩))
  ∧ (∀ (s : State) (t : Time) (tr : Nat), Awake s → (s.at t).cfg.phase = .run → (s.at t).ras.selfFenced = false →
    spdmStage (s.at t) tr = 3 →
    (identityCopy (s.at t) = none →
      exec (.getDigests t tr) s = .next ⟨s.pending, spdmAnswer tr .errorUnspecified (s.at t)⟩
      ∧ (∀ slot off len, exec (.getCertificate t tr slot off len) s
        = .next ⟨s.pending, spdmAnswer tr .errorUnspecified (s.at t)⟩)
      ∧ ∀ slot nonce summary, exec (.challenge t tr slot nonce summary) s
        = .next ⟨s.pending, spdmAnswer tr .errorUnspecified (s.at t)⟩)
    ∧ (∀ c, identityCopy (s.at t) = some c →
      exec (.getDigests t tr) s = .next ⟨s.pending, spdmAnswer tr (.digests c.chainDigest) (s.at t)⟩
      ∧ (∀ off len, off < c.chain.length → exec (.getCertificate t tr 0 off len) s
        = .next ⟨s.pending, spdmAnswer tr (.certificate ((c.chain.drop off).take len)
            (c.chain.length - off - ((c.chain.drop off).take len).length)) (s.at t)⟩)
      ∧ (∀ nonce summary, ((s.at t).sec.jobs.filter fun j => !j.ready).length < 2 →
        exec (.challenge t tr 0 nonce summary) s = .next ⟨s.pending, { s.at t with
          sec.jobs := (s.at t).sec.jobs ++ [{ transport := tr, req := .challenge 0 nonce summary, snapshot := if summary = 0 then [] else measurements (s.at t), since := (s.at t).now, token := none, ready := false }] }⟩))
    ∧ (∀ index b nonce, blocksOf index (measurements (s.at t)) = some b →
      exec (.getMeasurements t tr index false nonce) s
        = .next ⟨s.pending, spdmAnswer tr (.measurements b none) (s.at t)⟩)
    ∧ (∀ j : SpdmJob, (s.at t).sec.jobs = [j] → j.transport = tr → ∀ token, j.token = some token →
      (j.ready = false → exec (.respondIfReady t tr token) s = .next ⟨s.pending, spdmAnswer tr (.notReady token) (s.at t)⟩)
      ∧ (j.ready = true → exec (.respondIfReady t tr token) s = .next ⟨s.pending,
        let d := { s.at t with free := (s.at t).free + 1 }
        spdmAnswer tr (signedResp d j (Config.signature (s.at t).free)) { d with sec.jobs := [] }⟩)))
  ∧ (∀ (s : State) (t : Time) (j : SpdmJob), Awake s → (s.at t).cfg.phase = .run → (s.at t).ras.selfFenced = false →
    (s.at t).sec.jobs = [j] → j.ready = false → j.token = none → past j.since (ctTime + 1) (s.at t).now = false →
    exec (.spdmSignatureComplete t) s = .next ⟨s.pending,
      let d := { s.at t with free := (s.at t).free + 1 }
      spdmAnswer j.transport (signedResp d j (Config.signature (s.at t).free)) { d with sec.jobs := [] }⟩)

/-- R513, R514, R515, R516, R518, R520, R522: on a device that decides alone, BEGIN without a transaction opens one with the next ID; a WRITE of
its holder stages items that pass and names the first that does not; a COMMIT that passes its checks waits for its boundary as COMMITTING; a
ROLLBACK discards the staging and is counted; 30 s without a command of the holder roll it back with CFG_TXN_EXPIRED; each command without a
transaction is CFG_NO_TXN. The model's readings in it: log entries 35 and 73. -/
def Obligations.Transactions : Prop :=
  (∀ (s : State) (t : Time) (rq : Requester), Admits s t rq true → Alone s t → (s.at t).cfg.txn.state = .idle →
    exec (.cfgTxnBegin t rq) s = .next ⟨s.pending, leaderApply rq (.txnBegin rq) none (applyBegin rq true) (s.at t)⟩
    ∧ (∀ id items, exec (.cfgTxnWrite t rq id items) s = .next ⟨s.pending, reply rq St.cfgNoTxn [] (s.at t)⟩)
    ∧ (∀ id p a, exec (.cfgTxnCommit t rq id p a) s = .next ⟨s.pending, reply rq St.cfgNoTxn [] (s.at t)⟩)
    ∧ ∀ id, exec (.cfgTxnRollback t rq id) s = .next ⟨s.pending, reply rq St.cfgNoTxn [] (s.at t)⟩)
  ∧ (∀ (s : State) (t : Time) (rq : Requester), Admits s t rq true → Alone s t → (s.at t).cfg.txn.state = .opened →
    (s.at t).cfg.txn.mine = true → (s.at t).cfg.txn.holder = some rq → txnDue (s.at t) = false →
    let id := (s.at t).cfg.txn.id
    let d := touchTxn (s.at t)
    (∀ items, items ≠ [] → items.length ≤ 4096 →
      (firstItemFault d d.cfg.txn.items d.cfg.txn.bytes 0 items = none →
        exec (.cfgTxnWrite t rq id items) s = .next ⟨s.pending, reply rq St.ok [0] (stage items d)⟩)
      ∧ ∀ st i, firstItemFault d d.cfg.txn.items d.cfg.txn.bytes 0 items = some (st, i) →
        exec (.cfgTxnWrite t rq id items) s = .next ⟨s.pending, reply rq st [i] d⟩)
    ∧ (∀ persistent, let b := boundaryAfter d (d.now + BitVec.ofNat 64 d.frameUnits)
      d.timeInHorizon b = true → txnCheck d d.cfg.txn.items persistent d.now b = St.ok →
      exec (.cfgTxnCommit t rq id persistent 0) s = .next ⟨s.pending,
        scheduleTxn d.cfg.txn.items persistent false b d.now none none { d with par.commitSeq := d.par.commitSeq + 1 }⟩)
    ∧ exec (.cfgTxnRollback t rq id) s = .next ⟨s.pending, leaderApply rq .txnRollback none applyRollback (s.at t)⟩)
  ∧ (∀ (s : State) (t : Time), Awake s →
    (txnDue (s.at t) = true → exec (.txnIdleTimeout t) s = .next ⟨s.pending, expireTxn (s.at t)⟩)
    ∧ (txnDue (s.at t) = false → exec (.txnIdleTimeout t) s = .next ⟨s.pending, s.at t⟩))

/-- R4, R508, R511, R512, R521: the completed write of a derived image or a firmware image puts it into the bank written and counts it, a failed
one leaves that bank invalid and raises CFG_NVM_WRITE; an RWL write outside the writer's transaction is discarded and counted; an operator's
write to a counter clears the bits written as 1, and one to a register with RO fields only changes nothing. The model's readings in it: log
entries 74 and 78. -/
def Obligations.RegisterWrites : Prop :=
  (∀ (s : State) (t : Time) (img : Image), Awake s →
    ((s.at t).cfg.nvmJobs = [.derived img] →
      let d := { s.at t with cfg.nvmJobs := [] }
      exec (.nvmWriteComplete t true) s = .next ⟨s.pending,
        raiseDev St.cfgPersisted (count Reg.cfgNvmWriteCount (setBank (writeTarget (s.at t)) (some img) d))⟩
      ∧ exec (.nvmWriteComplete t false) s = .next ⟨s.pending,
        raiseDev St.cfgNvmWrite (setBank (writeTarget (s.at t)) none { d with cfg.nvmWriteFail := true })⟩)
    ∧ ((s.at t).cfg.nvmJobs = [.firmware img] → (s.at t).cfg.phase = .run →
      exec (.nvmWriteComplete t true) s = .next ⟨s.pending,
        count Reg.cfgNvmWriteCount (setBank (writeTarget (s.at t)) (some img) { s.at t with
          cfg.nvmJobs := []
          cfg.fwPending := true })⟩))
  ∧ (∀ (s : State) (t : Time) (rq : Requester) (reg : BitVec 16) (mask v : BitVec 64), Awake s → txnDue (s.at t) = false →
    ((s.at t).cfg.txn.state ≠ .opened → exec (.rwlWrite t rq reg mask v) s
      = .next ⟨s.pending, noteNoTxn rq (count Reg.cfgRwlRefuseCount (s.at t))⟩)
    ∧ ((s.at t).cfg.txn.state = .opened → (s.at t).cfg.txn.mine = true → (s.at t).cfg.txn.holder = some rq →
      let d := touchTxn (s.at t)
      firstItemFault d d.cfg.txn.items d.cfg.txn.bytes 0 [.fields reg mask v] = none →
      exec (.rwlWrite t rq reg mask v) s = .next ⟨s.pending, stage [.fields reg mask v] d⟩))
  ∧ (∀ (s : State) (t : Time) (reg : BitVec 16) (v : BitVec 64), Awake s →
    (counterRegs.contains reg.toNat = true → exec (.registerWrite t .mctp reg v) s = .next ⟨s.pending, { s.at t with
      counters := mset (s.at t).counters reg.toNat
        ((BitVec.ofNat 32 (mgetD (s.at t).counters reg.toNat 0) &&& ~~~v.setWidth 32).toNat) }⟩)
    ∧ (reg.toNat = Reg.kvsOccupancy → exec (.registerWrite t .mctp reg v) s = .next ⟨s.pending, s.at t⟩))
end

