-- ==== Sys2Proof/Laws/Gates.lean ====
section
/-! SUPPORT. What the gates in front of the meanings let through: each says once what a device that is awake, asleep, serving or
admitting does with a command. -/

namespace Sys2Proof.Machine

theorem run_eq (f : Dev → Dev) (s : State) : run f s = .next { s with dev := f s.dev } := rfl

theorem run_keeps_pending (f : Dev → Dev) (s t : State) (h : run f s = .next t) : t.pending = s.pending := by
  cases h
  rfl

/-- A sleeping device ignores what is no pin event. -/
theorem awake_asleep {t : Time} {f : Dev → Dev} {d : Dev} (h : d.asleep = true) : awake t f d = d := by simp [awake, h]

theorem service_asleep {t : Time} {f : Dev → Dev} {d : Dev} (h : d.asleep = true) : service t f d = d := by simp [service, h]

/-- A device that is awake gives the command its effect at its time of arrival. -/
theorem awake_eq {s : State} {t : Time} {f : Dev → Dev} (h : Awake s) : awake t f s.dev = f (s.at t) := by
  unfold awake State.at
  rw [show s.dev.asleep = false from h]
  rfl

/-- A device that serves gives the request its effect. -/
theorem service_eq {s : State} {t : Time} {f : Dev → Dev} (h : Serves s t) : service t f s.dev = f (s.at t) := by
  obtain ⟨h1, h2⟩ := h
  unfold State.at at h2
  unfold service State.at
  rw [show s.dev.asleep = false from h1, h2]
  rfl

theorem Serves.awake {s : State} {t : Time} (h : Serves s t) : Awake s := h.1

theorem serving_phase {d : Dev} (h : d.serving = true) : d.cfg.phase = .run := by
  unfold Dev.serving at h
  simp only [Bool.and_eq_true, decide_eq_true_eq] at h
  exact h.1.1.2

/-- A device that admits the command gives it its effect. -/
theorem vendor_eq {s : State} {t : Time} {rq : Requester} {op : Bool} {f : Dev → Dev} (h : Admits s t rq op) :
    vendor t rq op f s.dev = f (s.at t) := by
  obtain ⟨⟨h1, h2⟩, h3, h4⟩ := h
  have hp := serving_phase h2
  unfold vendor
  rw [awake_eq h1, if_neg (by rw [hp]; decide), if_neg (by rw [h3]; decide), if_pos h2]
  cases op <;> simp_all

/-- A device that keeps fabric time gives the event of synchronisation its effect. -/
theorem timed_eq {s : State} {t : Time} {f : Dev → Dev} (h : Awake s) (k : keepsTime (s.at t) = true) :
    timed t f s.dev = f (s.at t) := by
  unfold timed
  rw [awake_eq h, if_pos k]

/-- A running device that is not self-fenced gives a standard command its effect. -/
theorem standard_eq {s : State} {t : Time} {rq : Requester} {b : Bool} {f : Dev → Dev} (h : Awake s)
    (hp : (s.at t).cfg.phase = .run) (hf : (s.at t).ras.selfFenced = false) : standard t rq b f s.dev = f (s.at t) := by
  unfold standard
  rw [awake_eq h, if_neg (by rw [hp]; decide), if_pos ⟨hp, by rw [hf]; rfl⟩]

/-- A running device that is not self-fenced gives an SPDM request its effect. -/
theorem spdm_eq {s : State} {t : Time} {f : Dev → Dev} (h : Awake s)
    (hp : (s.at t).cfg.phase = .run) (hf : (s.at t).ras.selfFenced = false) : spdm t f s.dev = f (s.at t) := by
  unfold spdm
  rw [awake_eq h, if_pos (Or.inl ⟨hp, by rw [hf]; rfl⟩)]

end Sys2Proof.Machine
end

