-- ==== Sys2Proof/Laws/Maps.lean ====
section
/-! SUPPORT. What the operations on maps answer: a key that was set reads as its value, every other key as before, and the canonical
order of the keys stays. -/

namespace Sys2Proof.Machine

@[simp] theorem mget_mset_same {α : Type} (m : Map α) (k : Nat) (v : α) : mget (mset m k v) k = some v := by
  induction m with
  | nil => simp [mset, mget]
  | cons e m ih =>
    obtain ⟨k', w⟩ := e
    unfold mset
    split
    · simp [mget]
    · split
      · simp [mget]
      · rename_i h1 h2
        simp [mget, h2, ih]

theorem mget_mset_other {α : Type} (m : Map α) {k j : Nat} (v : α) (h : j ≠ k) : mget (mset m k v) j = mget m j := by
  induction m with
  | nil => simp [mset, mget, Ne.symm h]
  | cons e m ih =>
    obtain ⟨k', w⟩ := e
    unfold mset
    split
    · simp [mget, Ne.symm h]
    · split
      · rename_i h1 h2
        subst h2
        simp [mget, Ne.symm h]
      · simp [mget, ih]

@[simp] theorem mgetD_mset_same {α : Type} (m : Map α) (k : Nat) (v d : α) : mgetD (mset m k v) k d = v := by
  simp [mgetD]

theorem mgetD_mset_other {α : Type} (m : Map α) {k j : Nat} (v d : α) (h : j ≠ k) : mgetD (mset m k v) j d = mgetD m j d := by
  simp [mgetD, mget_mset_other m v h]

theorem mget_mdel_other {α : Type} (m : Map α) {k j : Nat} (h : j ≠ k) : mget (mdel m k) j = mget m j := by
  induction m with
  | nil => rfl
  | cons e m ih =>
    obtain ⟨k', w⟩ := e
    unfold mdel
    split
    · rename_i h1
      subst h1
      simp [mget, Ne.symm h]
    · simp [mget, ih]

theorem mmod_mmod {α : Type} (m : Map α) (k : Nat) (f g : α → α) : mmod (mmod m k f) k g = mmod m k (g ∘ f) := by
  induction m with
  | nil => rfl
  | cons e m ih =>
    obtain ⟨k', v⟩ := e
    by_cases h : k' = k <;> simp [mmod, h, ih]

theorem mmod_same {α : Type} (m : Map α) (k : Nat) (f : α → α) (h : ∀ v, mget m k = some v → f v = v) : mmod m k f = m := by
  induction m with
  | nil => rfl
  | cons e m ih =>
    obtain ⟨k', v⟩ := e
    by_cases h' : k' = k
    · simp [mmod, h', h v (by simp [mget, h'])]
    · simp only [mmod, h', if_false]
      rw [ih (fun w hw => h w (by simp [mget, h', hw]))]

theorem mmod_none {α : Type} (m : Map α) (k : Nat) (f : α → α) (h : mget m k = none) : mmod m k f = m :=
  mmod_same m k f (fun v hv => by rw [h] at hv; cases hv)

/-- The keys lie above `k`. -/
def above {α : Type} (k : Nat) (m : Map α) : Prop := ∀ e ∈ m, k < e.1

/-- A map is in canonical form if its first key lies below the rest and the rest is. -/
theorem mwf_cons {α : Type} (k : Nat) (v : α) (m : Map α) : mwf ((k, v) :: m) = true ↔ above k m ∧ mwf m = true := by
  induction m generalizing k v with
  | nil => simp [mwf, above]
  | cons e m ih =>
    obtain ⟨k', w⟩ := e
    simp only [mwf, Bool.and_eq_true, decide_eq_true_eq]
    constructor
    · intro h
      refine ⟨fun e he => ?_, h.2⟩
      rcases List.mem_cons.mp he with rfl | he
      · exact h.1
      · exact Nat.lt_trans h.1 (((ih k' w).mp h.2).1 e he)
    · intro h
      exact ⟨h.1 (k', w) (List.mem_cons_self ..), h.2⟩

theorem above_mset {α : Type} {k j : Nat} {v : α} {m : Map α} (h : above j m) (hk : j < k) : above j (mset m k v) := by
  induction m with
  | nil => intro e he; simp [mset] at he; subst he; exact hk
  | cons e m ih =>
    obtain ⟨k', w⟩ := e
    have h1 : j < k' := h (k', w) (List.mem_cons_self ..)
    have h2 : above j m := fun e he => h e (List.mem_cons_of_mem _ he)
    unfold mset
    split
    · intro e he
      rcases List.mem_cons.mp he with rfl | he
      · exact hk
      · exact h e he
    · split
      · intro e he
        rcases List.mem_cons.mp he with rfl | he
        · exact hk
        · exact h2 e he
      · intro e he
        rcases List.mem_cons.mp he with rfl | he
        · exact h1
        · exact ih h2 e he

theorem mwf_mset {α : Type} {m : Map α} (k : Nat) (v : α) (h : mwf m = true) : mwf (mset m k v) = true := by
  induction m with
  | nil => rfl
  | cons e m ih =>
    obtain ⟨k', w⟩ := e
    obtain ⟨h1, h2⟩ := (mwf_cons k' w m).mp h
    unfold mset
    split
    · rename_i hk
      refine (mwf_cons ..).mpr ⟨fun e he => ?_, h⟩
      rcases List.mem_cons.mp he with rfl | he
      · exact hk
      · exact Nat.lt_trans hk (h1 e he)
    · split
      · rename_i hk
        subst hk
        exact (mwf_cons ..).mpr ⟨h1, h2⟩
      · exact (mwf_cons ..).mpr ⟨above_mset h1 (by omega), ih h2⟩

theorem above_mdel {α : Type} {k j : Nat} {m : Map α} (h : above j m) : above j (mdel m k) := by
  induction m with
  | nil => exact h
  | cons e m ih =>
    obtain ⟨k', w⟩ := e
    have h2 : above j m := fun e he => h e (List.mem_cons_of_mem _ he)
    unfold mdel
    split
    · exact h2
    · intro e he
      rcases List.mem_cons.mp he with rfl | he
      · exact h (k', w) (List.mem_cons_self ..)
      · exact ih h2 e he

theorem mwf_mdel {α : Type} {m : Map α} (k : Nat) (h : mwf m = true) : mwf (mdel m k) = true := by
  induction m with
  | nil => rfl
  | cons e m ih =>
    obtain ⟨k', w⟩ := e
    obtain ⟨h1, h2⟩ := (mwf_cons k' w m).mp h
    unfold mdel
    split
    · exact h2
    · exact (mwf_cons ..).mpr ⟨above_mdel h1, ih h2⟩

theorem mget_above {α : Type} {k : Nat} {m : Map α} (h : above k m) : mget m k = none := by
  induction m with
  | nil => rfl
  | cons e m ih =>
    obtain ⟨k', w⟩ := e
    have h1 : k < k' := h (k', w) (List.mem_cons_self ..)
    have h2 : k' ≠ k := by omega
    simp [mget, h2, ih fun e he => h e (List.mem_cons_of_mem _ he)]

/-- In canonical form a key has one entry: deleted, it is absent. -/
theorem mget_mdel_same {α : Type} {m : Map α} (k : Nat) (h : mwf m = true) : mget (mdel m k) k = none := by
  induction m with
  | nil => rfl
  | cons e m ih =>
    obtain ⟨k', w⟩ := e
    obtain ⟨h1, h2⟩ := (mwf_cons k' w m).mp h
    unfold mdel
    split
    · rename_i hk
      subst hk
      exact mget_above h1
    · rename_i hk
      simp [mget, hk, ih h2]

theorem mwf_filter {α : Type} {m : Map α} (p : Nat × α → Bool) (h : mwf m = true) : mwf (m.filter p) = true := by
  induction m with
  | nil => rfl
  | cons e m ih =>
    obtain ⟨k', w⟩ := e
    obtain ⟨h1, h2⟩ := (mwf_cons k' w m).mp h
    unfold List.filter
    split
    · exact (mwf_cons ..).mpr ⟨fun e he => h1 e (List.mem_filter.mp he).1, ih h2⟩
    · exact ih h2

end Sys2Proof.Machine
end

