-- ==== Sys2Proof/Laws/Memory.lean ====
section
/-! SUPPORT. The laws of memory: what was written is read back, every other byte stays, and every operation keeps the canonical form. -/

namespace Sys2Proof.Machine

theorem memWrite_other (m : List Host.Cell) {a b : Nat} (v : Byte) (h : b ≠ a) : memRead (memWrite m a v) b = memRead m b := by
  unfold memWrite memRead mgetD
  split
  · rw [mget_mdel_other m h]
  · rw [mget_mset_other m v h]

theorem wf_mwf {m : List Host.Cell} (h : Memory.wf m = true) : mwf m = true := by
  unfold Memory.wf at h
  simp only [Bool.and_eq_true] at h
  exact h.1

theorem memWrite_same {m : List Host.Cell} (a : Nat) (v : Byte) (h : Memory.wf m = true) : memRead (memWrite m a v) a = v := by
  unfold memWrite memRead mgetD
  split
  · rename_i hv
    rw [mget_mdel_same a (wf_mwf h), hv]
    rfl
  · rw [mget_mset_same]
    rfl

theorem mem_mset {α : Type} {m : Map α} {k : Nat} {v : α} {e : Nat × α} (h : e ∈ mset m k v) : e = (k, v) ∨ e ∈ m := by
  induction m with
  | nil => exact Or.inl (List.mem_singleton.mp h)
  | cons x m ih =>
    obtain ⟨k', w⟩ := x
    unfold mset at h
    split at h
    · exact List.mem_cons.mp h
    · split at h
      · rcases List.mem_cons.mp h with h | h
        · exact Or.inl h
        · exact Or.inr (List.mem_cons_of_mem _ h)
      · rcases List.mem_cons.mp h with h | h
        · exact Or.inr (h ▸ List.mem_cons_self ..)
        · exact (ih h).imp id (List.mem_cons_of_mem _)

theorem mem_mdel {α : Type} {m : Map α} {k : Nat} {e : Nat × α} (h : e ∈ mdel m k) : e ∈ m := by
  induction m with
  | nil => exact h
  | cons x m ih =>
    obtain ⟨k', w⟩ := x
    unfold mdel at h
    split at h
    · exact List.mem_cons_of_mem _ h
    · rcases List.mem_cons.mp h with h | h
      · exact h ▸ List.mem_cons_self ..
      · exact List.mem_cons_of_mem _ (ih h)

theorem memWrite_wf {m : List Host.Cell} (a : Nat) (v : Byte) (h : Memory.wf m = true) : Memory.wf (memWrite m a v) = true := by
  have h1 := wf_mwf h
  have h2 : ∀ e ∈ m, e.2 ≠ memDefault := by
    unfold Memory.wf at h
    simp only [Bool.and_eq_true, List.all_eq_true, decide_eq_true_eq] at h
    exact h.2
  unfold Memory.wf memWrite
  split
  · simp only [Bool.and_eq_true, List.all_eq_true, decide_eq_true_eq]
    exact ⟨mwf_mdel a h1, fun e he => h2 e (mem_mdel he)⟩
  · rename_i hv
    simp only [Bool.and_eq_true, List.all_eq_true, decide_eq_true_eq]
    refine ⟨mwf_mset a v h1, fun e he => ?_⟩
    rcases mem_mset he with rfl | he
    · exact hv
    · exact h2 e he

theorem memWriteN_wf {m : List Host.Cell} (a : Nat) (bs : List Byte) (h : Memory.wf m = true) : Memory.wf (memWriteN m a bs) = true := by
  induction bs generalizing m a with
  | nil => exact h
  | cons b bs ih => exact ih (a + 1) (memWrite_wf a b h)

theorem memClear_wf {m : List Host.Cell} (a n : Nat) (h : Memory.wf m = true) : Memory.wf (memClear m a n) = true := by
  unfold Memory.wf at h ⊢
  simp only [Bool.and_eq_true, List.all_eq_true, decide_eq_true_eq] at h ⊢
  exact ⟨mwf_filter _ h.1, fun e he => h.2 e (List.mem_filter.mp he).1⟩

theorem memWriteN_other (m : List Host.Cell) (a b : Nat) (bs : List Byte) (h : b < a ∨ a + bs.length ≤ b) :
    memRead (memWriteN m a bs) b = memRead m b := by
  induction bs generalizing m a with
  | nil => rfl
  | cons x bs ih =>
    simp only [List.length_cons] at h
    unfold memWriteN
    rw [ih _ (a + 1) (by omega), memWrite_other m x (by omega)]

theorem memReadN_writeN {m : List Host.Cell} (a : Nat) (bs : List Byte) (h : Memory.wf m = true) :
    memReadN (memWriteN m a bs) a bs.length = bs := by
  induction bs generalizing m a with
  | nil => rfl
  | cons b bs ih =>
    simp only [List.length_cons, memWriteN, memReadN]
    rw [ih (a + 1) (memWrite_wf a b h), memWriteN_other _ (a + 1) a bs (by omega), memWrite_same a b h]

end Sys2Proof.Machine
end

