-- ==== Sys2Proof/Laws/State.lean ====
section
/-! SUPPORT. What each shared update of the device changes and what it leaves: one lemma per update and field, so that no proof
unfolds a record update. -/

namespace Sys2Proof.Machine

set_option Elab.async false

variable (s : Dev)

/-! ### emit -/

@[simp] theorem emit_out (o : Out) : (emit o s).out = o :: s.out := rfl
@[simp] theorem emit_free (o : Out) : (emit o s).free = s.free := rfl
@[simp] theorem emit_sync (o : Out) : (emit o s).sync = s.sync := rfl
@[simp] theorem emit_tt (o : Out) : (emit o s).tt = s.tt := rfl
@[simp] theorem emit_kvs (o : Out) : (emit o s).kvs = s.kvs := rfl
@[simp] theorem emit_pfx (o : Out) : (emit o s).pfx = s.pfx := rfl
@[simp] theorem emit_att (o : Out) : (emit o s).att = s.att := rfl
@[simp] theorem emit_tir (o : Out) : (emit o s).tir = s.tir := rfl
@[simp] theorem emit_fls (o : Out) : (emit o s).fls = s.fls := rfl
@[simp] theorem emit_auv (o : Out) : (emit o s).auv = s.auv := rfl
@[simp] theorem emit_shp (o : Out) : (emit o s).shp = s.shp := rfl
@[simp] theorem emit_par (o : Out) : (emit o s).par = s.par := rfl
@[simp] theorem emit_cxl (o : Out) : (emit o s).cxl = s.cxl := rfl
@[simp] theorem emit_cfg (o : Out) : (emit o s).cfg = s.cfg := rfl
@[simp] theorem emit_sec (o : Out) : (emit o s).sec = s.sec := rfl
@[simp] theorem emit_ras (o : Out) : (emit o s).ras = s.ras := rfl
@[simp] theorem emit_pwr (o : Out) : (emit o s).pwr = s.pwr := rfl
@[simp] theorem emit_regs (o : Out) : (emit o s).regs = s.regs := rfl
@[simp] theorem emit_counters (o : Out) : (emit o s).counters = s.counters := rfl
@[simp] theorem emit_mem (o : Out) : (emit o s).mem = s.mem := rfl
@[simp] theorem emit_now (o : Out) : (emit o s).now = s.now := rfl

/-! ### count -/

@[simp] theorem count_out (id : Nat) : (count id s).out = s.out := rfl
@[simp] theorem count_free (id : Nat) : (count id s).free = s.free := rfl
@[simp] theorem count_sync (id : Nat) : (count id s).sync = s.sync := rfl
@[simp] theorem count_tt (id : Nat) : (count id s).tt = s.tt := rfl
@[simp] theorem count_kvs (id : Nat) : (count id s).kvs = s.kvs := rfl
@[simp] theorem count_pfx (id : Nat) : (count id s).pfx = s.pfx := rfl
@[simp] theorem count_att (id : Nat) : (count id s).att = s.att := rfl
@[simp] theorem count_tir (id : Nat) : (count id s).tir = s.tir := rfl
@[simp] theorem count_fls (id : Nat) : (count id s).fls = s.fls := rfl
@[simp] theorem count_auv (id : Nat) : (count id s).auv = s.auv := rfl
@[simp] theorem count_shp (id : Nat) : (count id s).shp = s.shp := rfl
@[simp] theorem count_par (id : Nat) : (count id s).par = s.par := rfl
@[simp] theorem count_cxl (id : Nat) : (count id s).cxl = s.cxl := rfl
@[simp] theorem count_cfg (id : Nat) : (count id s).cfg = s.cfg := rfl
@[simp] theorem count_sec (id : Nat) : (count id s).sec = s.sec := rfl
@[simp] theorem count_ras (id : Nat) : (count id s).ras = s.ras := rfl
@[simp] theorem count_pwr (id : Nat) : (count id s).pwr = s.pwr := rfl
@[simp] theorem count_regs (id : Nat) : (count id s).regs = s.regs := rfl
@[simp] theorem count_counters (id : Nat) : (count id s).counters = mset s.counters id (min 0xFFFFFFFF (mgetD s.counters id 0 + 1)) := rfl
@[simp] theorem count_mem (id : Nat) : (count id s).mem = s.mem := rfl
@[simp] theorem count_now (id : Nat) : (count id s).now = s.now := rfl

/-! ### countBy -/

@[simp] theorem countBy_out (id n : Nat) : (countBy id n s).out = s.out := rfl
@[simp] theorem countBy_free (id n : Nat) : (countBy id n s).free = s.free := rfl
@[simp] theorem countBy_sync (id n : Nat) : (countBy id n s).sync = s.sync := rfl
@[simp] theorem countBy_tt (id n : Nat) : (countBy id n s).tt = s.tt := rfl
@[simp] theorem countBy_kvs (id n : Nat) : (countBy id n s).kvs = s.kvs := rfl
@[simp] theorem countBy_pfx (id n : Nat) : (countBy id n s).pfx = s.pfx := rfl
@[simp] theorem countBy_att (id n : Nat) : (countBy id n s).att = s.att := rfl
@[simp] theorem countBy_tir (id n : Nat) : (countBy id n s).tir = s.tir := rfl
@[simp] theorem countBy_fls (id n : Nat) : (countBy id n s).fls = s.fls := rfl
@[simp] theorem countBy_auv (id n : Nat) : (countBy id n s).auv = s.auv := rfl
@[simp] theorem countBy_shp (id n : Nat) : (countBy id n s).shp = s.shp := rfl
@[simp] theorem countBy_par (id n : Nat) : (countBy id n s).par = s.par := rfl
@[simp] theorem countBy_cxl (id n : Nat) : (countBy id n s).cxl = s.cxl := rfl
@[simp] theorem countBy_cfg (id n : Nat) : (countBy id n s).cfg = s.cfg := rfl
@[simp] theorem countBy_sec (id n : Nat) : (countBy id n s).sec = s.sec := rfl
@[simp] theorem countBy_ras (id n : Nat) : (countBy id n s).ras = s.ras := rfl
@[simp] theorem countBy_pwr (id n : Nat) : (countBy id n s).pwr = s.pwr := rfl
@[simp] theorem countBy_regs (id n : Nat) : (countBy id n s).regs = s.regs := rfl
@[simp] theorem countBy_counters (id n : Nat) : (countBy id n s).counters = mset s.counters id (min 0xFFFFFFFF (mgetD s.counters id 0 + n)) := rfl
@[simp] theorem countBy_mem (id n : Nat) : (countBy id n s).mem = s.mem := rfl
@[simp] theorem countBy_now (id n : Nat) : (countBy id n s).now = s.now := rfl

/-! ### draw -/

@[simp] theorem draw_out : (draw s).2.out = s.out := rfl
@[simp] theorem draw_free : (draw s).2.free = s.free + 1 := rfl
@[simp] theorem draw_sync : (draw s).2.sync = s.sync := rfl
@[simp] theorem draw_tt : (draw s).2.tt = s.tt := rfl
@[simp] theorem draw_kvs : (draw s).2.kvs = s.kvs := rfl
@[simp] theorem draw_pfx : (draw s).2.pfx = s.pfx := rfl
@[simp] theorem draw_att : (draw s).2.att = s.att := rfl
@[simp] theorem draw_tir : (draw s).2.tir = s.tir := rfl
@[simp] theorem draw_fls : (draw s).2.fls = s.fls := rfl
@[simp] theorem draw_auv : (draw s).2.auv = s.auv := rfl
@[simp] theorem draw_shp : (draw s).2.shp = s.shp := rfl
@[simp] theorem draw_par : (draw s).2.par = s.par := rfl
@[simp] theorem draw_cxl : (draw s).2.cxl = s.cxl := rfl
@[simp] theorem draw_cfg : (draw s).2.cfg = s.cfg := rfl
@[simp] theorem draw_sec : (draw s).2.sec = s.sec := rfl
@[simp] theorem draw_ras : (draw s).2.ras = s.ras := rfl
@[simp] theorem draw_pwr : (draw s).2.pwr = s.pwr := rfl
@[simp] theorem draw_regs : (draw s).2.regs = s.regs := rfl
@[simp] theorem draw_counters : (draw s).2.counters = s.counters := rfl
@[simp] theorem draw_mem : (draw s).2.mem = s.mem := rfl
@[simp] theorem draw_now : (draw s).2.now = s.now := rfl

/-! ### modSeq -/

@[simp] theorem modSeq_out (i : Nat) (f : Machine.Seq → Machine.Seq) : (modSeq i f s).out = s.out := rfl
@[simp] theorem modSeq_free (i : Nat) (f : Machine.Seq → Machine.Seq) : (modSeq i f s).free = s.free := rfl
@[simp] theorem modSeq_sync (i : Nat) (f : Machine.Seq → Machine.Seq) : (modSeq i f s).sync = s.sync := rfl
@[simp] theorem modSeq_tt (i : Nat) (f : Machine.Seq → Machine.Seq) : (modSeq i f s).tt = s.tt := rfl
@[simp] theorem modSeq_kvs (i : Nat) (f : Machine.Seq → Machine.Seq) : (modSeq i f s).kvs = { s.kvs with seqs := mmod s.kvs.seqs i f } := rfl
@[simp] theorem modSeq_pfx (i : Nat) (f : Machine.Seq → Machine.Seq) : (modSeq i f s).pfx = s.pfx := rfl
@[simp] theorem modSeq_att (i : Nat) (f : Machine.Seq → Machine.Seq) : (modSeq i f s).att = s.att := rfl
@[simp] theorem modSeq_tir (i : Nat) (f : Machine.Seq → Machine.Seq) : (modSeq i f s).tir = s.tir := rfl
@[simp] theorem modSeq_fls (i : Nat) (f : Machine.Seq → Machine.Seq) : (modSeq i f s).fls = s.fls := rfl
@[simp] theorem modSeq_auv (i : Nat) (f : Machine.Seq → Machine.Seq) : (modSeq i f s).auv = s.auv := rfl
@[simp] theorem modSeq_shp (i : Nat) (f : Machine.Seq → Machine.Seq) : (modSeq i f s).shp = s.shp := rfl
@[simp] theorem modSeq_par (i : Nat) (f : Machine.Seq → Machine.Seq) : (modSeq i f s).par = s.par := rfl
@[simp] theorem modSeq_cxl (i : Nat) (f : Machine.Seq → Machine.Seq) : (modSeq i f s).cxl = s.cxl := rfl
@[simp] theorem modSeq_cfg (i : Nat) (f : Machine.Seq → Machine.Seq) : (modSeq i f s).cfg = s.cfg := rfl
@[simp] theorem modSeq_sec (i : Nat) (f : Machine.Seq → Machine.Seq) : (modSeq i f s).sec = s.sec := rfl
@[simp] theorem modSeq_ras (i : Nat) (f : Machine.Seq → Machine.Seq) : (modSeq i f s).ras = s.ras := rfl
@[simp] theorem modSeq_pwr (i : Nat) (f : Machine.Seq → Machine.Seq) : (modSeq i f s).pwr = s.pwr := rfl
@[simp] theorem modSeq_regs (i : Nat) (f : Machine.Seq → Machine.Seq) : (modSeq i f s).regs = s.regs := rfl
@[simp] theorem modSeq_counters (i : Nat) (f : Machine.Seq → Machine.Seq) : (modSeq i f s).counters = s.counters := rfl
@[simp] theorem modSeq_mem (i : Nat) (f : Machine.Seq → Machine.Seq) : (modSeq i f s).mem = s.mem := rfl
@[simp] theorem modSeq_now (i : Nat) (f : Machine.Seq → Machine.Seq) : (modSeq i f s).now = s.now := rfl

/-! ### modPage -/

@[simp] theorem modPage_out (p : Nat) (f : Page → Page) : (modPage p f s).out = s.out := rfl
@[simp] theorem modPage_free (p : Nat) (f : Page → Page) : (modPage p f s).free = s.free := rfl
@[simp] theorem modPage_sync (p : Nat) (f : Page → Page) : (modPage p f s).sync = s.sync := rfl
@[simp] theorem modPage_tt (p : Nat) (f : Page → Page) : (modPage p f s).tt = s.tt := rfl
@[simp] theorem modPage_kvs (p : Nat) (f : Page → Page) : (modPage p f s).kvs = { s.kvs with pages := mmod s.kvs.pages p f } := rfl
@[simp] theorem modPage_pfx (p : Nat) (f : Page → Page) : (modPage p f s).pfx = s.pfx := rfl
@[simp] theorem modPage_att (p : Nat) (f : Page → Page) : (modPage p f s).att = s.att := rfl
@[simp] theorem modPage_tir (p : Nat) (f : Page → Page) : (modPage p f s).tir = s.tir := rfl
@[simp] theorem modPage_fls (p : Nat) (f : Page → Page) : (modPage p f s).fls = s.fls := rfl
@[simp] theorem modPage_auv (p : Nat) (f : Page → Page) : (modPage p f s).auv = s.auv := rfl
@[simp] theorem modPage_shp (p : Nat) (f : Page → Page) : (modPage p f s).shp = s.shp := rfl
@[simp] theorem modPage_par (p : Nat) (f : Page → Page) : (modPage p f s).par = s.par := rfl
@[simp] theorem modPage_cxl (p : Nat) (f : Page → Page) : (modPage p f s).cxl = s.cxl := rfl
@[simp] theorem modPage_cfg (p : Nat) (f : Page → Page) : (modPage p f s).cfg = s.cfg := rfl
@[simp] theorem modPage_sec (p : Nat) (f : Page → Page) : (modPage p f s).sec = s.sec := rfl
@[simp] theorem modPage_ras (p : Nat) (f : Page → Page) : (modPage p f s).ras = s.ras := rfl
@[simp] theorem modPage_pwr (p : Nat) (f : Page → Page) : (modPage p f s).pwr = s.pwr := rfl
@[simp] theorem modPage_regs (p : Nat) (f : Page → Page) : (modPage p f s).regs = s.regs := rfl
@[simp] theorem modPage_counters (p : Nat) (f : Page → Page) : (modPage p f s).counters = s.counters := rfl
@[simp] theorem modPage_mem (p : Nat) (f : Page → Page) : (modPage p f s).mem = s.mem := rfl
@[simp] theorem modPage_now (p : Nat) (f : Page → Page) : (modPage p f s).now = s.now := rfl

/-! ### modNode -/

@[simp] theorem modNode_out (k : Nat) (f : Node → Node) : (modNode k f s).out = s.out := rfl
@[simp] theorem modNode_free (k : Nat) (f : Node → Node) : (modNode k f s).free = s.free := rfl
@[simp] theorem modNode_sync (k : Nat) (f : Node → Node) : (modNode k f s).sync = s.sync := rfl
@[simp] theorem modNode_tt (k : Nat) (f : Node → Node) : (modNode k f s).tt = s.tt := rfl
@[simp] theorem modNode_kvs (k : Nat) (f : Node → Node) : (modNode k f s).kvs = s.kvs := rfl
@[simp] theorem modNode_pfx (k : Nat) (f : Node → Node) : (modNode k f s).pfx = { s.pfx with dir := mmod s.pfx.dir k f } := rfl
@[simp] theorem modNode_att (k : Nat) (f : Node → Node) : (modNode k f s).att = s.att := rfl
@[simp] theorem modNode_tir (k : Nat) (f : Node → Node) : (modNode k f s).tir = s.tir := rfl
@[simp] theorem modNode_fls (k : Nat) (f : Node → Node) : (modNode k f s).fls = s.fls := rfl
@[simp] theorem modNode_auv (k : Nat) (f : Node → Node) : (modNode k f s).auv = s.auv := rfl
@[simp] theorem modNode_shp (k : Nat) (f : Node → Node) : (modNode k f s).shp = s.shp := rfl
@[simp] theorem modNode_par (k : Nat) (f : Node → Node) : (modNode k f s).par = s.par := rfl
@[simp] theorem modNode_cxl (k : Nat) (f : Node → Node) : (modNode k f s).cxl = s.cxl := rfl
@[simp] theorem modNode_cfg (k : Nat) (f : Node → Node) : (modNode k f s).cfg = s.cfg := rfl
@[simp] theorem modNode_sec (k : Nat) (f : Node → Node) : (modNode k f s).sec = s.sec := rfl
@[simp] theorem modNode_ras (k : Nat) (f : Node → Node) : (modNode k f s).ras = s.ras := rfl
@[simp] theorem modNode_pwr (k : Nat) (f : Node → Node) : (modNode k f s).pwr = s.pwr := rfl
@[simp] theorem modNode_regs (k : Nat) (f : Node → Node) : (modNode k f s).regs = s.regs := rfl
@[simp] theorem modNode_counters (k : Nat) (f : Node → Node) : (modNode k f s).counters = s.counters := rfl
@[simp] theorem modNode_mem (k : Nat) (f : Node → Node) : (modNode k f s).mem = s.mem := rfl
@[simp] theorem modNode_now (k : Nat) (f : Node → Node) : (modNode k f s).now = s.now := rfl

/-! ### modReq -/

@[simp] theorem modReq_out (id : Nat) (f : Request → Request) : (modReq id f s).out = s.out := rfl
@[simp] theorem modReq_free (id : Nat) (f : Request → Request) : (modReq id f s).free = s.free := rfl
@[simp] theorem modReq_sync (id : Nat) (f : Request → Request) : (modReq id f s).sync = s.sync := rfl
@[simp] theorem modReq_tt (id : Nat) (f : Request → Request) : (modReq id f s).tt = s.tt := rfl
@[simp] theorem modReq_kvs (id : Nat) (f : Request → Request) : (modReq id f s).kvs = s.kvs := rfl
@[simp] theorem modReq_pfx (id : Nat) (f : Request → Request) : (modReq id f s).pfx = s.pfx := rfl
@[simp] theorem modReq_att (id : Nat) (f : Request → Request) : (modReq id f s).att = { s.att with reqs := mmod s.att.reqs id f } := rfl
@[simp] theorem modReq_tir (id : Nat) (f : Request → Request) : (modReq id f s).tir = s.tir := rfl
@[simp] theorem modReq_fls (id : Nat) (f : Request → Request) : (modReq id f s).fls = s.fls := rfl
@[simp] theorem modReq_auv (id : Nat) (f : Request → Request) : (modReq id f s).auv = s.auv := rfl
@[simp] theorem modReq_shp (id : Nat) (f : Request → Request) : (modReq id f s).shp = s.shp := rfl
@[simp] theorem modReq_par (id : Nat) (f : Request → Request) : (modReq id f s).par = s.par := rfl
@[simp] theorem modReq_cxl (id : Nat) (f : Request → Request) : (modReq id f s).cxl = s.cxl := rfl
@[simp] theorem modReq_cfg (id : Nat) (f : Request → Request) : (modReq id f s).cfg = s.cfg := rfl
@[simp] theorem modReq_sec (id : Nat) (f : Request → Request) : (modReq id f s).sec = s.sec := rfl
@[simp] theorem modReq_ras (id : Nat) (f : Request → Request) : (modReq id f s).ras = s.ras := rfl
@[simp] theorem modReq_pwr (id : Nat) (f : Request → Request) : (modReq id f s).pwr = s.pwr := rfl
@[simp] theorem modReq_regs (id : Nat) (f : Request → Request) : (modReq id f s).regs = s.regs := rfl
@[simp] theorem modReq_counters (id : Nat) (f : Request → Request) : (modReq id f s).counters = s.counters := rfl
@[simp] theorem modReq_mem (id : Nat) (f : Request → Request) : (modReq id f s).mem = s.mem := rfl
@[simp] theorem modReq_now (id : Nat) (f : Request → Request) : (modReq id f s).now = s.now := rfl

/-! ### modCore -/

@[simp] theorem modCore_out (p : Nat) (f : PCore → PCore) : (modCore p f s).out = s.out := rfl
@[simp] theorem modCore_free (p : Nat) (f : PCore → PCore) : (modCore p f s).free = s.free := rfl
@[simp] theorem modCore_sync (p : Nat) (f : PCore → PCore) : (modCore p f s).sync = s.sync := rfl
@[simp] theorem modCore_tt (p : Nat) (f : PCore → PCore) : (modCore p f s).tt = s.tt := rfl
@[simp] theorem modCore_kvs (p : Nat) (f : PCore → PCore) : (modCore p f s).kvs = s.kvs := rfl
@[simp] theorem modCore_pfx (p : Nat) (f : PCore → PCore) : (modCore p f s).pfx = s.pfx := rfl
@[simp] theorem modCore_att (p : Nat) (f : PCore → PCore) : (modCore p f s).att = { s.att with pcores := mmod s.att.pcores p f } := rfl
@[simp] theorem modCore_tir (p : Nat) (f : PCore → PCore) : (modCore p f s).tir = s.tir := rfl
@[simp] theorem modCore_fls (p : Nat) (f : PCore → PCore) : (modCore p f s).fls = s.fls := rfl
@[simp] theorem modCore_auv (p : Nat) (f : PCore → PCore) : (modCore p f s).auv = s.auv := rfl
@[simp] theorem modCore_shp (p : Nat) (f : PCore → PCore) : (modCore p f s).shp = s.shp := rfl
@[simp] theorem modCore_par (p : Nat) (f : PCore → PCore) : (modCore p f s).par = s.par := rfl
@[simp] theorem modCore_cxl (p : Nat) (f : PCore → PCore) : (modCore p f s).cxl = s.cxl := rfl
@[simp] theorem modCore_cfg (p : Nat) (f : PCore → PCore) : (modCore p f s).cfg = s.cfg := rfl
@[simp] theorem modCore_sec (p : Nat) (f : PCore → PCore) : (modCore p f s).sec = s.sec := rfl
@[simp] theorem modCore_ras (p : Nat) (f : PCore → PCore) : (modCore p f s).ras = s.ras := rfl
@[simp] theorem modCore_pwr (p : Nat) (f : PCore → PCore) : (modCore p f s).pwr = s.pwr := rfl
@[simp] theorem modCore_regs (p : Nat) (f : PCore → PCore) : (modCore p f s).regs = s.regs := rfl
@[simp] theorem modCore_counters (p : Nat) (f : PCore → PCore) : (modCore p f s).counters = s.counters := rfl
@[simp] theorem modCore_mem (p : Nat) (f : PCore → PCore) : (modCore p f s).mem = s.mem := rfl
@[simp] theorem modCore_now (p : Nat) (f : PCore → PCore) : (modCore p f s).now = s.now := rfl

/-! ### modObj -/

@[simp] theorem modObj_out (o : Nat) (f : Obj → Obj) : (modObj o f s).out = s.out := rfl
@[simp] theorem modObj_free (o : Nat) (f : Obj → Obj) : (modObj o f s).free = s.free := rfl
@[simp] theorem modObj_sync (o : Nat) (f : Obj → Obj) : (modObj o f s).sync = s.sync := rfl
@[simp] theorem modObj_tt (o : Nat) (f : Obj → Obj) : (modObj o f s).tt = s.tt := rfl
@[simp] theorem modObj_kvs (o : Nat) (f : Obj → Obj) : (modObj o f s).kvs = s.kvs := rfl
@[simp] theorem modObj_pfx (o : Nat) (f : Obj → Obj) : (modObj o f s).pfx = s.pfx := rfl
@[simp] theorem modObj_att (o : Nat) (f : Obj → Obj) : (modObj o f s).att = s.att := rfl
@[simp] theorem modObj_tir (o : Nat) (f : Obj → Obj) : (modObj o f s).tir = { s.tir with objs := mmod s.tir.objs o f } := rfl
@[simp] theorem modObj_fls (o : Nat) (f : Obj → Obj) : (modObj o f s).fls = s.fls := rfl
@[simp] theorem modObj_auv (o : Nat) (f : Obj → Obj) : (modObj o f s).auv = s.auv := rfl
@[simp] theorem modObj_shp (o : Nat) (f : Obj → Obj) : (modObj o f s).shp = s.shp := rfl
@[simp] theorem modObj_par (o : Nat) (f : Obj → Obj) : (modObj o f s).par = s.par := rfl
@[simp] theorem modObj_cxl (o : Nat) (f : Obj → Obj) : (modObj o f s).cxl = s.cxl := rfl
@[simp] theorem modObj_cfg (o : Nat) (f : Obj → Obj) : (modObj o f s).cfg = s.cfg := rfl
@[simp] theorem modObj_sec (o : Nat) (f : Obj → Obj) : (modObj o f s).sec = s.sec := rfl
@[simp] theorem modObj_ras (o : Nat) (f : Obj → Obj) : (modObj o f s).ras = s.ras := rfl
@[simp] theorem modObj_pwr (o : Nat) (f : Obj → Obj) : (modObj o f s).pwr = s.pwr := rfl
@[simp] theorem modObj_regs (o : Nat) (f : Obj → Obj) : (modObj o f s).regs = s.regs := rfl
@[simp] theorem modObj_counters (o : Nat) (f : Obj → Obj) : (modObj o f s).counters = s.counters := rfl
@[simp] theorem modObj_mem (o : Nat) (f : Obj → Obj) : (modObj o f s).mem = s.mem := rfl
@[simp] theorem modObj_now (o : Nat) (f : Obj → Obj) : (modObj o f s).now = s.now := rfl

/-! ### modMove -/

@[simp] theorem modMove_out (id : Nat) (f : Move → Move) : (modMove id f s).out = s.out := rfl
@[simp] theorem modMove_free (id : Nat) (f : Move → Move) : (modMove id f s).free = s.free := rfl
@[simp] theorem modMove_sync (id : Nat) (f : Move → Move) : (modMove id f s).sync = s.sync := rfl
@[simp] theorem modMove_tt (id : Nat) (f : Move → Move) : (modMove id f s).tt = s.tt := rfl
@[simp] theorem modMove_kvs (id : Nat) (f : Move → Move) : (modMove id f s).kvs = s.kvs := rfl
@[simp] theorem modMove_pfx (id : Nat) (f : Move → Move) : (modMove id f s).pfx = s.pfx := rfl
@[simp] theorem modMove_att (id : Nat) (f : Move → Move) : (modMove id f s).att = s.att := rfl
@[simp] theorem modMove_tir (id : Nat) (f : Move → Move) : (modMove id f s).tir = { s.tir with moves := s.tir.moves.map fun m => if m.id = id then f m else m } := rfl
@[simp] theorem modMove_fls (id : Nat) (f : Move → Move) : (modMove id f s).fls = s.fls := rfl
@[simp] theorem modMove_auv (id : Nat) (f : Move → Move) : (modMove id f s).auv = s.auv := rfl
@[simp] theorem modMove_shp (id : Nat) (f : Move → Move) : (modMove id f s).shp = s.shp := rfl
@[simp] theorem modMove_par (id : Nat) (f : Move → Move) : (modMove id f s).par = s.par := rfl
@[simp] theorem modMove_cxl (id : Nat) (f : Move → Move) : (modMove id f s).cxl = s.cxl := rfl
@[simp] theorem modMove_cfg (id : Nat) (f : Move → Move) : (modMove id f s).cfg = s.cfg := rfl
@[simp] theorem modMove_sec (id : Nat) (f : Move → Move) : (modMove id f s).sec = s.sec := rfl
@[simp] theorem modMove_ras (id : Nat) (f : Move → Move) : (modMove id f s).ras = s.ras := rfl
@[simp] theorem modMove_pwr (id : Nat) (f : Move → Move) : (modMove id f s).pwr = s.pwr := rfl
@[simp] theorem modMove_regs (id : Nat) (f : Move → Move) : (modMove id f s).regs = s.regs := rfl
@[simp] theorem modMove_counters (id : Nat) (f : Move → Move) : (modMove id f s).counters = s.counters := rfl
@[simp] theorem modMove_mem (id : Nat) (f : Move → Move) : (modMove id f s).mem = s.mem := rfl
@[simp] theorem modMove_now (id : Nat) (f : Move → Move) : (modMove id f s).now = s.now := rfl

/-! ### modBand -/

@[simp] theorem modBand_out (k : Nat) (f : Band → Band) : (modBand k f s).out = s.out := rfl
@[simp] theorem modBand_free (k : Nat) (f : Band → Band) : (modBand k f s).free = s.free := rfl
@[simp] theorem modBand_sync (k : Nat) (f : Band → Band) : (modBand k f s).sync = s.sync := rfl
@[simp] theorem modBand_tt (k : Nat) (f : Band → Band) : (modBand k f s).tt = s.tt := rfl
@[simp] theorem modBand_kvs (k : Nat) (f : Band → Band) : (modBand k f s).kvs = s.kvs := rfl
@[simp] theorem modBand_pfx (k : Nat) (f : Band → Band) : (modBand k f s).pfx = s.pfx := rfl
@[simp] theorem modBand_att (k : Nat) (f : Band → Band) : (modBand k f s).att = s.att := rfl
@[simp] theorem modBand_tir (k : Nat) (f : Band → Band) : (modBand k f s).tir = s.tir := rfl
@[simp] theorem modBand_fls (k : Nat) (f : Band → Band) : (modBand k f s).fls = { s.fls with bands := mset s.fls.bands k (f (s.band k)) } := rfl
@[simp] theorem modBand_auv (k : Nat) (f : Band → Band) : (modBand k f s).auv = s.auv := rfl
@[simp] theorem modBand_shp (k : Nat) (f : Band → Band) : (modBand k f s).shp = s.shp := rfl
@[simp] theorem modBand_par (k : Nat) (f : Band → Band) : (modBand k f s).par = s.par := rfl
@[simp] theorem modBand_cxl (k : Nat) (f : Band → Band) : (modBand k f s).cxl = s.cxl := rfl
@[simp] theorem modBand_cfg (k : Nat) (f : Band → Band) : (modBand k f s).cfg = s.cfg := rfl
@[simp] theorem modBand_sec (k : Nat) (f : Band → Band) : (modBand k f s).sec = s.sec := rfl
@[simp] theorem modBand_ras (k : Nat) (f : Band → Band) : (modBand k f s).ras = s.ras := rfl
@[simp] theorem modBand_pwr (k : Nat) (f : Band → Band) : (modBand k f s).pwr = s.pwr := rfl
@[simp] theorem modBand_regs (k : Nat) (f : Band → Band) : (modBand k f s).regs = s.regs := rfl
@[simp] theorem modBand_counters (k : Nat) (f : Band → Band) : (modBand k f s).counters = s.counters := rfl
@[simp] theorem modBand_mem (k : Nat) (f : Band → Band) : (modBand k f s).mem = s.mem := rfl
@[simp] theorem modBand_now (k : Nat) (f : Band → Band) : (modBand k f s).now = s.now := rfl

/-! ### modChan -/

@[simp] theorem modChan_out (k : Nat) (f : Chan → Chan) : (modChan k f s).out = s.out := rfl
@[simp] theorem modChan_free (k : Nat) (f : Chan → Chan) : (modChan k f s).free = s.free := rfl
@[simp] theorem modChan_sync (k : Nat) (f : Chan → Chan) : (modChan k f s).sync = s.sync := rfl
@[simp] theorem modChan_tt (k : Nat) (f : Chan → Chan) : (modChan k f s).tt = s.tt := rfl
@[simp] theorem modChan_kvs (k : Nat) (f : Chan → Chan) : (modChan k f s).kvs = s.kvs := rfl
@[simp] theorem modChan_pfx (k : Nat) (f : Chan → Chan) : (modChan k f s).pfx = s.pfx := rfl
@[simp] theorem modChan_att (k : Nat) (f : Chan → Chan) : (modChan k f s).att = s.att := rfl
@[simp] theorem modChan_tir (k : Nat) (f : Chan → Chan) : (modChan k f s).tir = s.tir := rfl
@[simp] theorem modChan_fls (k : Nat) (f : Chan → Chan) : (modChan k f s).fls = s.fls := rfl
@[simp] theorem modChan_auv (k : Nat) (f : Chan → Chan) : (modChan k f s).auv = { s.auv with chans := mmod s.auv.chans k f } := rfl
@[simp] theorem modChan_shp (k : Nat) (f : Chan → Chan) : (modChan k f s).shp = s.shp := rfl
@[simp] theorem modChan_par (k : Nat) (f : Chan → Chan) : (modChan k f s).par = s.par := rfl
@[simp] theorem modChan_cxl (k : Nat) (f : Chan → Chan) : (modChan k f s).cxl = s.cxl := rfl
@[simp] theorem modChan_cfg (k : Nat) (f : Chan → Chan) : (modChan k f s).cfg = s.cfg := rfl
@[simp] theorem modChan_sec (k : Nat) (f : Chan → Chan) : (modChan k f s).sec = s.sec := rfl
@[simp] theorem modChan_ras (k : Nat) (f : Chan → Chan) : (modChan k f s).ras = s.ras := rfl
@[simp] theorem modChan_pwr (k : Nat) (f : Chan → Chan) : (modChan k f s).pwr = s.pwr := rfl
@[simp] theorem modChan_regs (k : Nat) (f : Chan → Chan) : (modChan k f s).regs = s.regs := rfl
@[simp] theorem modChan_counters (k : Nat) (f : Chan → Chan) : (modChan k f s).counters = s.counters := rfl
@[simp] theorem modChan_mem (k : Nat) (f : Chan → Chan) : (modChan k f s).mem = s.mem := rfl
@[simp] theorem modChan_now (k : Nat) (f : Chan → Chan) : (modChan k f s).now = s.now := rfl

/-! ### modPort -/

@[simp] theorem modPort_out (p : Nat) (f : Port → Port) : (modPort p f s).out = s.out := rfl
@[simp] theorem modPort_free (p : Nat) (f : Port → Port) : (modPort p f s).free = s.free := rfl
@[simp] theorem modPort_sync (p : Nat) (f : Port → Port) : (modPort p f s).sync = s.sync := rfl
@[simp] theorem modPort_tt (p : Nat) (f : Port → Port) : (modPort p f s).tt = s.tt := rfl
@[simp] theorem modPort_kvs (p : Nat) (f : Port → Port) : (modPort p f s).kvs = s.kvs := rfl
@[simp] theorem modPort_pfx (p : Nat) (f : Port → Port) : (modPort p f s).pfx = s.pfx := rfl
@[simp] theorem modPort_att (p : Nat) (f : Port → Port) : (modPort p f s).att = s.att := rfl
@[simp] theorem modPort_tir (p : Nat) (f : Port → Port) : (modPort p f s).tir = s.tir := rfl
@[simp] theorem modPort_fls (p : Nat) (f : Port → Port) : (modPort p f s).fls = s.fls := rfl
@[simp] theorem modPort_auv (p : Nat) (f : Port → Port) : (modPort p f s).auv = { s.auv with ports := mset s.auv.ports p (f (s.port p)) } := rfl
@[simp] theorem modPort_shp (p : Nat) (f : Port → Port) : (modPort p f s).shp = s.shp := rfl
@[simp] theorem modPort_par (p : Nat) (f : Port → Port) : (modPort p f s).par = s.par := rfl
@[simp] theorem modPort_cxl (p : Nat) (f : Port → Port) : (modPort p f s).cxl = s.cxl := rfl
@[simp] theorem modPort_cfg (p : Nat) (f : Port → Port) : (modPort p f s).cfg = s.cfg := rfl
@[simp] theorem modPort_sec (p : Nat) (f : Port → Port) : (modPort p f s).sec = s.sec := rfl
@[simp] theorem modPort_ras (p : Nat) (f : Port → Port) : (modPort p f s).ras = s.ras := rfl
@[simp] theorem modPort_pwr (p : Nat) (f : Port → Port) : (modPort p f s).pwr = s.pwr := rfl
@[simp] theorem modPort_regs (p : Nat) (f : Port → Port) : (modPort p f s).regs = s.regs := rfl
@[simp] theorem modPort_counters (p : Nat) (f : Port → Port) : (modPort p f s).counters = s.counters := rfl
@[simp] theorem modPort_mem (p : Nat) (f : Port → Port) : (modPort p f s).mem = s.mem := rfl
@[simp] theorem modPort_now (p : Nat) (f : Port → Port) : (modPort p f s).now = s.now := rfl

/-! ### modPath -/

@[simp] theorem modPath_out (p : Nat) (f : PathSet → PathSet) : (modPath p f s).out = s.out := rfl
@[simp] theorem modPath_free (p : Nat) (f : PathSet → PathSet) : (modPath p f s).free = s.free := rfl
@[simp] theorem modPath_sync (p : Nat) (f : PathSet → PathSet) : (modPath p f s).sync = s.sync := rfl
@[simp] theorem modPath_tt (p : Nat) (f : PathSet → PathSet) : (modPath p f s).tt = s.tt := rfl
@[simp] theorem modPath_kvs (p : Nat) (f : PathSet → PathSet) : (modPath p f s).kvs = s.kvs := rfl
@[simp] theorem modPath_pfx (p : Nat) (f : PathSet → PathSet) : (modPath p f s).pfx = s.pfx := rfl
@[simp] theorem modPath_att (p : Nat) (f : PathSet → PathSet) : (modPath p f s).att = s.att := rfl
@[simp] theorem modPath_tir (p : Nat) (f : PathSet → PathSet) : (modPath p f s).tir = s.tir := rfl
@[simp] theorem modPath_fls (p : Nat) (f : PathSet → PathSet) : (modPath p f s).fls = s.fls := rfl
@[simp] theorem modPath_auv (p : Nat) (f : PathSet → PathSet) : (modPath p f s).auv = { s.auv with paths := mset s.auv.paths p (f (s.path p)) } := rfl
@[simp] theorem modPath_shp (p : Nat) (f : PathSet → PathSet) : (modPath p f s).shp = s.shp := rfl
@[simp] theorem modPath_par (p : Nat) (f : PathSet → PathSet) : (modPath p f s).par = s.par := rfl
@[simp] theorem modPath_cxl (p : Nat) (f : PathSet → PathSet) : (modPath p f s).cxl = s.cxl := rfl
@[simp] theorem modPath_cfg (p : Nat) (f : PathSet → PathSet) : (modPath p f s).cfg = s.cfg := rfl
@[simp] theorem modPath_sec (p : Nat) (f : PathSet → PathSet) : (modPath p f s).sec = s.sec := rfl
@[simp] theorem modPath_ras (p : Nat) (f : PathSet → PathSet) : (modPath p f s).ras = s.ras := rfl
@[simp] theorem modPath_pwr (p : Nat) (f : PathSet → PathSet) : (modPath p f s).pwr = s.pwr := rfl
@[simp] theorem modPath_regs (p : Nat) (f : PathSet → PathSet) : (modPath p f s).regs = s.regs := rfl
@[simp] theorem modPath_counters (p : Nat) (f : PathSet → PathSet) : (modPath p f s).counters = s.counters := rfl
@[simp] theorem modPath_mem (p : Nat) (f : PathSet → PathSet) : (modPath p f s).mem = s.mem := rfl
@[simp] theorem modPath_now (p : Nat) (f : PathSet → PathSet) : (modPath p f s).now = s.now := rfl

/-! ### modEgress -/

@[simp] theorem modEgress_out (p : Nat) (f : Egress → Egress) : (modEgress p f s).out = s.out := rfl
@[simp] theorem modEgress_free (p : Nat) (f : Egress → Egress) : (modEgress p f s).free = s.free := rfl
@[simp] theorem modEgress_sync (p : Nat) (f : Egress → Egress) : (modEgress p f s).sync = s.sync := rfl
@[simp] theorem modEgress_tt (p : Nat) (f : Egress → Egress) : (modEgress p f s).tt = s.tt := rfl
@[simp] theorem modEgress_kvs (p : Nat) (f : Egress → Egress) : (modEgress p f s).kvs = s.kvs := rfl
@[simp] theorem modEgress_pfx (p : Nat) (f : Egress → Egress) : (modEgress p f s).pfx = s.pfx := rfl
@[simp] theorem modEgress_att (p : Nat) (f : Egress → Egress) : (modEgress p f s).att = s.att := rfl
@[simp] theorem modEgress_tir (p : Nat) (f : Egress → Egress) : (modEgress p f s).tir = s.tir := rfl
@[simp] theorem modEgress_fls (p : Nat) (f : Egress → Egress) : (modEgress p f s).fls = s.fls := rfl
@[simp] theorem modEgress_auv (p : Nat) (f : Egress → Egress) : (modEgress p f s).auv = s.auv := rfl
@[simp] theorem modEgress_shp (p : Nat) (f : Egress → Egress) : (modEgress p f s).shp = { s.shp with egress := mset s.shp.egress p (f (s.egr p)) } := rfl
@[simp] theorem modEgress_par (p : Nat) (f : Egress → Egress) : (modEgress p f s).par = s.par := rfl
@[simp] theorem modEgress_cxl (p : Nat) (f : Egress → Egress) : (modEgress p f s).cxl = s.cxl := rfl
@[simp] theorem modEgress_cfg (p : Nat) (f : Egress → Egress) : (modEgress p f s).cfg = s.cfg := rfl
@[simp] theorem modEgress_sec (p : Nat) (f : Egress → Egress) : (modEgress p f s).sec = s.sec := rfl
@[simp] theorem modEgress_ras (p : Nat) (f : Egress → Egress) : (modEgress p f s).ras = s.ras := rfl
@[simp] theorem modEgress_pwr (p : Nat) (f : Egress → Egress) : (modEgress p f s).pwr = s.pwr := rfl
@[simp] theorem modEgress_regs (p : Nat) (f : Egress → Egress) : (modEgress p f s).regs = s.regs := rfl
@[simp] theorem modEgress_counters (p : Nat) (f : Egress → Egress) : (modEgress p f s).counters = s.counters := rfl
@[simp] theorem modEgress_mem (p : Nat) (f : Egress → Egress) : (modEgress p f s).mem = s.mem := rfl
@[simp] theorem modEgress_now (p : Nat) (f : Egress → Egress) : (modEgress p f s).now = s.now := rfl

/-! ### modQueue -/

@[simp] theorem modQueue_out (p c : Nat) (f : EQueue → EQueue) : (modQueue p c f s).out = s.out := rfl
@[simp] theorem modQueue_free (p c : Nat) (f : EQueue → EQueue) : (modQueue p c f s).free = s.free := rfl
@[simp] theorem modQueue_sync (p c : Nat) (f : EQueue → EQueue) : (modQueue p c f s).sync = s.sync := rfl
@[simp] theorem modQueue_tt (p c : Nat) (f : EQueue → EQueue) : (modQueue p c f s).tt = s.tt := rfl
@[simp] theorem modQueue_kvs (p c : Nat) (f : EQueue → EQueue) : (modQueue p c f s).kvs = s.kvs := rfl
@[simp] theorem modQueue_pfx (p c : Nat) (f : EQueue → EQueue) : (modQueue p c f s).pfx = s.pfx := rfl
@[simp] theorem modQueue_att (p c : Nat) (f : EQueue → EQueue) : (modQueue p c f s).att = s.att := rfl
@[simp] theorem modQueue_tir (p c : Nat) (f : EQueue → EQueue) : (modQueue p c f s).tir = s.tir := rfl
@[simp] theorem modQueue_fls (p c : Nat) (f : EQueue → EQueue) : (modQueue p c f s).fls = s.fls := rfl
@[simp] theorem modQueue_auv (p c : Nat) (f : EQueue → EQueue) : (modQueue p c f s).auv = s.auv := rfl
@[simp] theorem modQueue_shp (p c : Nat) (f : EQueue → EQueue) : (modQueue p c f s).shp = { s.shp with egress := mset s.shp.egress p { s.egr p with queues := mset (s.egr p).queues c (f (s.queue p c)) } } := rfl
@[simp] theorem modQueue_par (p c : Nat) (f : EQueue → EQueue) : (modQueue p c f s).par = s.par := rfl
@[simp] theorem modQueue_cxl (p c : Nat) (f : EQueue → EQueue) : (modQueue p c f s).cxl = s.cxl := rfl
@[simp] theorem modQueue_cfg (p c : Nat) (f : EQueue → EQueue) : (modQueue p c f s).cfg = s.cfg := rfl
@[simp] theorem modQueue_sec (p c : Nat) (f : EQueue → EQueue) : (modQueue p c f s).sec = s.sec := rfl
@[simp] theorem modQueue_ras (p c : Nat) (f : EQueue → EQueue) : (modQueue p c f s).ras = s.ras := rfl
@[simp] theorem modQueue_pwr (p c : Nat) (f : EQueue → EQueue) : (modQueue p c f s).pwr = s.pwr := rfl
@[simp] theorem modQueue_regs (p c : Nat) (f : EQueue → EQueue) : (modQueue p c f s).regs = s.regs := rfl
@[simp] theorem modQueue_counters (p c : Nat) (f : EQueue → EQueue) : (modQueue p c f s).counters = s.counters := rfl
@[simp] theorem modQueue_mem (p c : Nat) (f : EQueue → EQueue) : (modQueue p c f s).mem = s.mem := rfl
@[simp] theorem modQueue_now (p c : Nat) (f : EQueue → EQueue) : (modQueue p c f s).now = s.now := rfl

/-! ### setPair -/

@[simp] theorem setPair_out (st : PairState) : (setPair st s).out = s.out := rfl
@[simp] theorem setPair_free (st : PairState) : (setPair st s).free = s.free := rfl
@[simp] theorem setPair_sync (st : PairState) : (setPair st s).sync = s.sync := rfl
@[simp] theorem setPair_tt (st : PairState) : (setPair st s).tt = s.tt := rfl
@[simp] theorem setPair_kvs (st : PairState) : (setPair st s).kvs = s.kvs := rfl
@[simp] theorem setPair_pfx (st : PairState) : (setPair st s).pfx = s.pfx := rfl
@[simp] theorem setPair_att (st : PairState) : (setPair st s).att = s.att := rfl
@[simp] theorem setPair_tir (st : PairState) : (setPair st s).tir = s.tir := rfl
@[simp] theorem setPair_fls (st : PairState) : (setPair st s).fls = s.fls := rfl
@[simp] theorem setPair_auv (st : PairState) : (setPair st s).auv = s.auv := rfl
@[simp] theorem setPair_shp (st : PairState) : (setPair st s).shp = s.shp := rfl
@[simp] theorem setPair_par (st : PairState) : (setPair st s).par = { s.par with state := st, since := s.now } := rfl
@[simp] theorem setPair_cxl (st : PairState) : (setPair st s).cxl = s.cxl := rfl
@[simp] theorem setPair_cfg (st : PairState) : (setPair st s).cfg = s.cfg := rfl
@[simp] theorem setPair_sec (st : PairState) : (setPair st s).sec = s.sec := rfl
@[simp] theorem setPair_ras (st : PairState) : (setPair st s).ras = s.ras := rfl
@[simp] theorem setPair_pwr (st : PairState) : (setPair st s).pwr = s.pwr := rfl
@[simp] theorem setPair_regs (st : PairState) : (setPair st s).regs = s.regs := rfl
@[simp] theorem setPair_counters (st : PairState) : (setPair st s).counters = s.counters := rfl
@[simp] theorem setPair_mem (st : PairState) : (setPair st s).mem = s.mem := rfl
@[simp] theorem setPair_now (st : PairState) : (setPair st s).now = s.now := rfl

/-! ### modLd -/

@[simp] theorem modLd_out (p l : Nat) (f : Ld → Ld) : (modLd p l f s).out = s.out := rfl
@[simp] theorem modLd_free (p l : Nat) (f : Ld → Ld) : (modLd p l f s).free = s.free := rfl
@[simp] theorem modLd_sync (p l : Nat) (f : Ld → Ld) : (modLd p l f s).sync = s.sync := rfl
@[simp] theorem modLd_tt (p l : Nat) (f : Ld → Ld) : (modLd p l f s).tt = s.tt := rfl
@[simp] theorem modLd_kvs (p l : Nat) (f : Ld → Ld) : (modLd p l f s).kvs = s.kvs := rfl
@[simp] theorem modLd_pfx (p l : Nat) (f : Ld → Ld) : (modLd p l f s).pfx = s.pfx := rfl
@[simp] theorem modLd_att (p l : Nat) (f : Ld → Ld) : (modLd p l f s).att = s.att := rfl
@[simp] theorem modLd_tir (p l : Nat) (f : Ld → Ld) : (modLd p l f s).tir = s.tir := rfl
@[simp] theorem modLd_fls (p l : Nat) (f : Ld → Ld) : (modLd p l f s).fls = s.fls := rfl
@[simp] theorem modLd_auv (p l : Nat) (f : Ld → Ld) : (modLd p l f s).auv = s.auv := rfl
@[simp] theorem modLd_shp (p l : Nat) (f : Ld → Ld) : (modLd p l f s).shp = s.shp := rfl
@[simp] theorem modLd_par (p l : Nat) (f : Ld → Ld) : (modLd p l f s).par = s.par := rfl
@[simp] theorem modLd_cxl (p l : Nat) (f : Ld → Ld) : (modLd p l f s).cxl = { s.cxl with lds := mset s.cxl.lds (ldIndex p l) (f (s.ld p l)) } := rfl
@[simp] theorem modLd_cfg (p l : Nat) (f : Ld → Ld) : (modLd p l f s).cfg = s.cfg := rfl
@[simp] theorem modLd_sec (p l : Nat) (f : Ld → Ld) : (modLd p l f s).sec = s.sec := rfl
@[simp] theorem modLd_ras (p l : Nat) (f : Ld → Ld) : (modLd p l f s).ras = s.ras := rfl
@[simp] theorem modLd_pwr (p l : Nat) (f : Ld → Ld) : (modLd p l f s).pwr = s.pwr := rfl
@[simp] theorem modLd_regs (p l : Nat) (f : Ld → Ld) : (modLd p l f s).regs = s.regs := rfl
@[simp] theorem modLd_counters (p l : Nat) (f : Ld → Ld) : (modLd p l f s).counters = s.counters := rfl
@[simp] theorem modLd_mem (p l : Nat) (f : Ld → Ld) : (modLd p l f s).mem = s.mem := rfl
@[simp] theorem modLd_now (p l : Nat) (f : Ld → Ld) : (modLd p l f s).now = s.now := rfl

/-! ### modRegion -/

@[simp] theorem modRegion_out (r : Nat) (f : Region → Region) : (modRegion r f s).out = s.out := rfl
@[simp] theorem modRegion_free (r : Nat) (f : Region → Region) : (modRegion r f s).free = s.free := rfl
@[simp] theorem modRegion_sync (r : Nat) (f : Region → Region) : (modRegion r f s).sync = s.sync := rfl
@[simp] theorem modRegion_tt (r : Nat) (f : Region → Region) : (modRegion r f s).tt = s.tt := rfl
@[simp] theorem modRegion_kvs (r : Nat) (f : Region → Region) : (modRegion r f s).kvs = s.kvs := rfl
@[simp] theorem modRegion_pfx (r : Nat) (f : Region → Region) : (modRegion r f s).pfx = s.pfx := rfl
@[simp] theorem modRegion_att (r : Nat) (f : Region → Region) : (modRegion r f s).att = s.att := rfl
@[simp] theorem modRegion_tir (r : Nat) (f : Region → Region) : (modRegion r f s).tir = s.tir := rfl
@[simp] theorem modRegion_fls (r : Nat) (f : Region → Region) : (modRegion r f s).fls = s.fls := rfl
@[simp] theorem modRegion_auv (r : Nat) (f : Region → Region) : (modRegion r f s).auv = s.auv := rfl
@[simp] theorem modRegion_shp (r : Nat) (f : Region → Region) : (modRegion r f s).shp = s.shp := rfl
@[simp] theorem modRegion_par (r : Nat) (f : Region → Region) : (modRegion r f s).par = s.par := rfl
@[simp] theorem modRegion_cxl (r : Nat) (f : Region → Region) : (modRegion r f s).cxl = { s.cxl with regions := mmod s.cxl.regions r f } := rfl
@[simp] theorem modRegion_cfg (r : Nat) (f : Region → Region) : (modRegion r f s).cfg = s.cfg := rfl
@[simp] theorem modRegion_sec (r : Nat) (f : Region → Region) : (modRegion r f s).sec = s.sec := rfl
@[simp] theorem modRegion_ras (r : Nat) (f : Region → Region) : (modRegion r f s).ras = s.ras := rfl
@[simp] theorem modRegion_pwr (r : Nat) (f : Region → Region) : (modRegion r f s).pwr = s.pwr := rfl
@[simp] theorem modRegion_regs (r : Nat) (f : Region → Region) : (modRegion r f s).regs = s.regs := rfl
@[simp] theorem modRegion_counters (r : Nat) (f : Region → Region) : (modRegion r f s).counters = s.counters := rfl
@[simp] theorem modRegion_mem (r : Nat) (f : Region → Region) : (modRegion r f s).mem = s.mem := rfl
@[simp] theorem modRegion_now (r : Nat) (f : Region → Region) : (modRegion r f s).now = s.now := rfl

/-! ### touchTxn -/

@[simp] theorem touchTxn_out : (touchTxn s).out = s.out := rfl
@[simp] theorem touchTxn_free : (touchTxn s).free = s.free := rfl
@[simp] theorem touchTxn_sync : (touchTxn s).sync = s.sync := rfl
@[simp] theorem touchTxn_tt : (touchTxn s).tt = s.tt := rfl
@[simp] theorem touchTxn_kvs : (touchTxn s).kvs = s.kvs := rfl
@[simp] theorem touchTxn_pfx : (touchTxn s).pfx = s.pfx := rfl
@[simp] theorem touchTxn_att : (touchTxn s).att = s.att := rfl
@[simp] theorem touchTxn_tir : (touchTxn s).tir = s.tir := rfl
@[simp] theorem touchTxn_fls : (touchTxn s).fls = s.fls := rfl
@[simp] theorem touchTxn_auv : (touchTxn s).auv = s.auv := rfl
@[simp] theorem touchTxn_shp : (touchTxn s).shp = s.shp := rfl
@[simp] theorem touchTxn_par : (touchTxn s).par = s.par := rfl
@[simp] theorem touchTxn_cxl : (touchTxn s).cxl = s.cxl := rfl
@[simp] theorem touchTxn_cfg : (touchTxn s).cfg = { s.cfg with txn := { s.cfg.txn with lastCmd := s.now } } := rfl
@[simp] theorem touchTxn_sec : (touchTxn s).sec = s.sec := rfl
@[simp] theorem touchTxn_ras : (touchTxn s).ras = s.ras := rfl
@[simp] theorem touchTxn_pwr : (touchTxn s).pwr = s.pwr := rfl
@[simp] theorem touchTxn_regs : (touchTxn s).regs = s.regs := rfl
@[simp] theorem touchTxn_counters : (touchTxn s).counters = s.counters := rfl
@[simp] theorem touchTxn_mem : (touchTxn s).mem = s.mem := rfl
@[simp] theorem touchTxn_now : (touchTxn s).now = s.now := rfl

/-! ### setStage -/

@[simp] theorem setStage_out (tr n : Nat) : (setStage tr n s).out = s.out := rfl
@[simp] theorem setStage_free (tr n : Nat) : (setStage tr n s).free = s.free := rfl
@[simp] theorem setStage_sync (tr n : Nat) : (setStage tr n s).sync = s.sync := rfl
@[simp] theorem setStage_tt (tr n : Nat) : (setStage tr n s).tt = s.tt := rfl
@[simp] theorem setStage_kvs (tr n : Nat) : (setStage tr n s).kvs = s.kvs := rfl
@[simp] theorem setStage_pfx (tr n : Nat) : (setStage tr n s).pfx = s.pfx := rfl
@[simp] theorem setStage_att (tr n : Nat) : (setStage tr n s).att = s.att := rfl
@[simp] theorem setStage_tir (tr n : Nat) : (setStage tr n s).tir = s.tir := rfl
@[simp] theorem setStage_fls (tr n : Nat) : (setStage tr n s).fls = s.fls := rfl
@[simp] theorem setStage_auv (tr n : Nat) : (setStage tr n s).auv = s.auv := rfl
@[simp] theorem setStage_shp (tr n : Nat) : (setStage tr n s).shp = s.shp := rfl
@[simp] theorem setStage_par (tr n : Nat) : (setStage tr n s).par = s.par := rfl
@[simp] theorem setStage_cxl (tr n : Nat) : (setStage tr n s).cxl = s.cxl := rfl
@[simp] theorem setStage_cfg (tr n : Nat) : (setStage tr n s).cfg = s.cfg := rfl
@[simp] theorem setStage_sec (tr n : Nat) : (setStage tr n s).sec = { s.sec with conns := mset s.sec.conns tr { stage := n } } := rfl
@[simp] theorem setStage_ras (tr n : Nat) : (setStage tr n s).ras = s.ras := rfl
@[simp] theorem setStage_pwr (tr n : Nat) : (setStage tr n s).pwr = s.pwr := rfl
@[simp] theorem setStage_regs (tr n : Nat) : (setStage tr n s).regs = s.regs := rfl
@[simp] theorem setStage_counters (tr n : Nat) : (setStage tr n s).counters = s.counters := rfl
@[simp] theorem setStage_mem (tr n : Nat) : (setStage tr n s).mem = s.mem := rfl
@[simp] theorem setStage_now (tr n : Nat) : (setStage tr n s).now = s.now := rfl

/-! ### modDomain -/

@[simp] theorem modDomain_out (d : Nat) (f : Domain → Domain) : (modDomain d f s).out = s.out := rfl
@[simp] theorem modDomain_free (d : Nat) (f : Domain → Domain) : (modDomain d f s).free = s.free := rfl
@[simp] theorem modDomain_sync (d : Nat) (f : Domain → Domain) : (modDomain d f s).sync = s.sync := rfl
@[simp] theorem modDomain_tt (d : Nat) (f : Domain → Domain) : (modDomain d f s).tt = s.tt := rfl
@[simp] theorem modDomain_kvs (d : Nat) (f : Domain → Domain) : (modDomain d f s).kvs = s.kvs := rfl
@[simp] theorem modDomain_pfx (d : Nat) (f : Domain → Domain) : (modDomain d f s).pfx = s.pfx := rfl
@[simp] theorem modDomain_att (d : Nat) (f : Domain → Domain) : (modDomain d f s).att = s.att := rfl
@[simp] theorem modDomain_tir (d : Nat) (f : Domain → Domain) : (modDomain d f s).tir = s.tir := rfl
@[simp] theorem modDomain_fls (d : Nat) (f : Domain → Domain) : (modDomain d f s).fls = s.fls := rfl
@[simp] theorem modDomain_auv (d : Nat) (f : Domain → Domain) : (modDomain d f s).auv = s.auv := rfl
@[simp] theorem modDomain_shp (d : Nat) (f : Domain → Domain) : (modDomain d f s).shp = s.shp := rfl
@[simp] theorem modDomain_par (d : Nat) (f : Domain → Domain) : (modDomain d f s).par = s.par := rfl
@[simp] theorem modDomain_cxl (d : Nat) (f : Domain → Domain) : (modDomain d f s).cxl = s.cxl := rfl
@[simp] theorem modDomain_cfg (d : Nat) (f : Domain → Domain) : (modDomain d f s).cfg = s.cfg := rfl
@[simp] theorem modDomain_sec (d : Nat) (f : Domain → Domain) : (modDomain d f s).sec = s.sec := rfl
@[simp] theorem modDomain_ras (d : Nat) (f : Domain → Domain) : (modDomain d f s).ras = s.ras := rfl
@[simp] theorem modDomain_pwr (d : Nat) (f : Domain → Domain) : (modDomain d f s).pwr = { s.pwr with domains := mset s.pwr.domains d (f (s.domain d)) } := rfl
@[simp] theorem modDomain_regs (d : Nat) (f : Domain → Domain) : (modDomain d f s).regs = s.regs := rfl
@[simp] theorem modDomain_counters (d : Nat) (f : Domain → Domain) : (modDomain d f s).counters = s.counters := rfl
@[simp] theorem modDomain_mem (d : Nat) (f : Domain → Domain) : (modDomain d f s).mem = s.mem := rfl
@[simp] theorem modDomain_now (d : Nat) (f : Domain → Domain) : (modDomain d f s).now = s.now := rfl

/-! ### setClock -/

@[simp] theorem setClock_out : (setClock s).out = s.out := rfl
@[simp] theorem setClock_free : (setClock s).free = s.free := rfl
@[simp] theorem setClock_sync : (setClock s).sync = s.sync := rfl
@[simp] theorem setClock_tt : (setClock s).tt = s.tt := rfl
@[simp] theorem setClock_kvs : (setClock s).kvs = s.kvs := rfl
@[simp] theorem setClock_pfx : (setClock s).pfx = s.pfx := rfl
@[simp] theorem setClock_att : (setClock s).att = s.att := rfl
@[simp] theorem setClock_tir : (setClock s).tir = s.tir := rfl
@[simp] theorem setClock_fls : (setClock s).fls = s.fls := rfl
@[simp] theorem setClock_auv : (setClock s).auv = s.auv := rfl
@[simp] theorem setClock_shp : (setClock s).shp = s.shp := rfl
@[simp] theorem setClock_par : (setClock s).par = s.par := rfl
@[simp] theorem setClock_cxl : (setClock s).cxl = s.cxl := rfl
@[simp] theorem setClock_cfg : (setClock s).cfg = s.cfg := rfl
@[simp] theorem setClock_sec : (setClock s).sec = s.sec := rfl
@[simp] theorem setClock_ras : (setClock s).ras = s.ras := rfl
@[simp] theorem setClock_pwr : (setClock s).pwr = { s.pwr with coreMhz := min s.pwr.budgetMhz s.pwr.thermalMhz } := rfl
@[simp] theorem setClock_regs : (setClock s).regs = s.regs := rfl
@[simp] theorem setClock_counters : (setClock s).counters = s.counters := rfl
@[simp] theorem setClock_mem : (setClock s).mem = s.mem := rfl
@[simp] theorem setClock_now : (setClock s).now = s.now := rfl

end Sys2Proof.Machine
end

