-- ==== Sys2Proof/Laws/Wire.lean ====
section
/-! SUPPORT. What sending and raising an event can change: a message touches the records of what left, the egress queues, the path sets
and the numbering of its channel, and nothing else of the device; an event adds the last event, the subscriptions and the logs. -/

namespace Sys2Proof.Machine

/-- `d` is `s` but for what sending touches. -/
def OnlySends (s d : Dev) : Prop :=
  d = { s with
    out := d.out
    shp := { s.shp with egress := d.shp.egress }
    auv := { s.auv with
      paths := d.auv.paths
      txCsn := d.auv.txCsn } }

theorem OnlySends.refl (s : Dev) : OnlySends s s := rfl

theorem OnlySends.trans {a b c : Dev} (h : OnlySends a b) (k : OnlySends b c) : OnlySends a c := by
  unfold OnlySends at *
  rw [k, h]

theorem onlySends_emit (o : Out) (s : Dev) : OnlySends s (emit o s) := rfl

theorem onlySends_modPath (p : Nat) (f : PathSet → PathSet) (s : Dev) : OnlySends s (modPath p f s) := rfl

theorem onlySends_enqueue (p c : Nat) (k : Packet) (s : Dev) : OnlySends s (enqueue p c k s) := rfl

theorem onlySends_sendControl (p o d : Nat) (s : Dev) : OnlySends s (sendControl p o d s) := rfl

theorem onlySends_sendProbe (p d : Nat) (m : ProbeMsg) (s : Dev) : OnlySends s (sendProbe p d m s) := rfl

theorem onlySends_transmitNow (p : Nat) (k : Packet) (s : Dev) : OnlySends s (transmitNow p k s) := by
  unfold transmitNow
  dsimp only
  split
  · exact (onlySends_modPath ..).trans (onlySends_enqueue ..)
  · exact onlySends_modPath ..

theorem onlySends_initPath (p : Nat) (s : Dev) : OnlySends s (initPath p s) := by
  unfold initPath
  split
  · exact .refl s
  · dsimp only
    split
    · exact (onlySends_modPath ..).trans (onlySends_sendProbe ..)
    · exact onlySends_modPath ..

theorem onlySends_sendPacket (p : Nat) (k : Packet) (s : Dev) : OnlySends s (sendPacket p k s) := by
  unfold sendPacket
  dsimp only
  split
  · exact (onlySends_initPath ..).trans (onlySends_transmitNow ..)
  · exact (onlySends_initPath ..).trans (onlySends_modPath ..)

theorem onlySends_fold {α : Type} (f : α → Dev → Dev) (h : ∀ a d, OnlySends d (f a d)) (l : List α) (s : Dev) :
    OnlySends s (l.foldl (fun d a => f a d) s) := by
  induction l generalizing s with
  | nil => exact .refl s
  | cons a l ih => exact (h a s).trans (ih (f a s))

/-- A message of the device's own changes nothing but what sending touches. -/
theorem onlySends_sendMsg (dst op tc tn ch id len addr : Nat) (c : Bool) (b : List Byte) (s : Dev) :
    OnlySends s (sendMsg dst op tc tn ch id len addr c b s) := by
  unfold sendMsg forN
  dsimp only
  refine OnlySends.trans ?_ (onlySends_fold _ (by intro a d; exact onlySends_sendPacket ..) _ _)
  cases c <;> rfl

theorem onlySends_sendEvents (e : EventMsg) (s : Dev) : OnlySends s (sendEvents e s) :=
  onlySends_fold _ (by intro a d; exact onlySends_sendMsg ..) _ _

/-- A reply changes nothing but what sending touches. -/
theorem onlySends_reply (rq : Requester) (st : Status) (fs : List Nat) (s : Dev) : OnlySends s (reply rq st fs s) := by
  unfold reply
  split
  · exact (onlySends_emit ..).trans (onlySends_sendMsg ..)
  · exact .refl s
  · exact onlySends_emit ..

end Sys2Proof.Machine
end

