-- ==== Sys2Proof/WellFormed.lean ====
section
/-! DEFINITION. Well-formed commands: every operand fits the field that carries it. A command that breaks this cannot reach the
device; a value that a field can carry and the manual refuses is well-formed, and the device answers it with its status. -/

namespace Sys2Proof

/-! ## The widths of operands -/

/-- Fits a port code (R66). -/
def isPort (v : Nat) : Bool := decide (v < 13)

/-- Fits a CXL port. -/
def isCxlPort (v : Nat) : Bool := decide (v < 2)

/-- Fits an LD index (R452). -/
def isLd (v : Nat) : Bool := decide (v < 16)

/-- Fits a tenant ID, 12 bits (R355). -/
def isTenant (v : Nat) : Bool := decide (v < 4096)

/-- Fits a channel number, 20 bits (R355). -/
def isChannel (v : Nat) : Bool := decide (v < 1048576)

/-- Fits a power domain (R563). -/
def isDomain (v : Nat) : Bool := decide (v < 106)

/-- Fits a rail of the supply table. -/
def isRail (v : Nat) : Bool := decide (v < 12)

/-- Fits a sensor (R595). -/
def isSensor (v : Nat) : Bool := decide (v < 101)

/-- Fits a flash group (R310). -/
def isGroup (v : Nat) : Bool := decide (v < 64)

/-- Fits a bank of the match array (R153). -/
def isBank (v : Nat) : Bool := decide (v < 32)

/-- Fits a logical core (R16). -/
def isLcore (v : Nat) : Bool := decide (v < 64)

/-- Fits a physical core (R16). -/
def isPcore (v : Nat) : Bool := decide (v < 68)

/-- Fits a management core (R558). -/
def isMgmtCore (v : Nat) : Bool := decide (v < 4)

/-- Fits an SPDM transport: DOE 0, DOE 1, MCTP (R536). -/
def isTransport (v : Nat) : Bool := decide (v < 3)

/-- Fits a path set: a device ID, or 512 + p for the partner on port p (R354); 1,024 more for the path set of a device that another
has taken over (R443). -/
def isPeer (v : Nat) : Bool := decide (v % 1024 < 520) && decide (v < 2048)

/-- Fits a 16-bit field. -/
def isEndpoint (v : Nat) : Bool := decide (v < 65536)

/-- Fits a device ID, 9 bits (R352). -/
def isDevice (v : Nat) : Bool := decide (v < 512)

/-- Fits an 8-bit field. -/
def isByte (v : Nat) : Bool := decide (v < 256)

/-- Fits a 32-bit field. -/
def isWord32 (v : Nat) : Bool := decide (v < 4294967296)

/-- Fits a 64-bit field. -/
def isWord64 (v : Nat) : Bool := decide (v < 18446744073709551616)

/-- Fits a slot index (R51). -/
def isSlot (v : Nat) : Bool := decide (v < 256)

/-- Fits a die slot of a channel (R306). -/
def isDieSlot (v : Nat) : Bool := decide (v < 16)

/-- Fits a NAND channel. -/
def isNandChannel (v : Nat) : Bool := decide (v < 64)

/-- Fits a member position of a band. -/
def isBandMember (v : Nat) : Bool := decide (v < 16)

/-- Fits a band of a group. -/
def isBandNo (v : Nat) : Bool := decide (v < 4096)

/-- Fits a lane of a port. -/
def isLane (v : Nat) : Bool := decide (v < 32)

/-- Fits a cold-record index (R84). -/
def isSeqIndex (v : Nat) : Bool := decide (v < 16777216)

/-- Fits a directory slot (R140). -/
def isDirSlot (v : Nat) : Bool := decide (v < 67108864)

/-- Fits a field that holds a batch position (R132). -/
def isBatchPosition (v : Nat) : Bool := decide (v < 65536)

/-- Fits a T1 physical address (R550). -/
def isT1Addr (v : Nat) : Bool := decide (v < 274877906944)

/-- Fits a wake source (R576). -/
def isSource (v : Nat) : Bool := decide (v < 9)

/-- Fits a part code of CFG_PART. -/
def isPart (v : Nat) : Bool := decide (v < 3)

/-- A start-up step with a limit (R502). -/
def isStep (v : Nat) : Bool := decide (1 ≤ v) && decide (v ≤ 8)

/-- One reading for each of the 101 sensors (R595). -/
def isSensorList (l : List Nat) : Bool := decide (l.length = 101)

/-! ## The widths of records -/

def MsgHdr.wf (h : MsgHdr) : Bool :=
  isEndpoint h.src && isEndpoint h.dst && isPort h.port && decide (h.tc < 8) && isTenant h.tenant && isChannel h.channel
    && isEndpoint h.msgId

def Requester.wf : Requester → Bool
  | .auvas h _ => h.wf
  | .ld p l => isCxlPort p && isLd l
  | .mctp => true
  | .device => true

def ResetPin.wf : ResetPin → Bool
  | .porst => true
  | .cxlPerst p => isCxlPort p
  | .strap i => decide (i < 4)

def Island.wf : Island → Bool
  | .core p => isPcore p
  | .link p => isPort p
  | .dram s c => decide (s < 8) && decide (c < 32)
  | .nand c => isNandChannel c
  | .mgmt => true

def AppendMsg.wf (m : AppendMsg) : Bool :=
  isWord32 m.position && isEndpoint m.count && isEndpoint m.layer && isByte m.format && isWord32 m.bodyLen

def LookupMsg.wf (m : LookupMsg) : Bool :=
  isEndpoint m.scope && isByte m.model && isByte m.format && isByte m.reservedFlags && isEndpoint m.startDepth
    && isEndpoint m.count

def AttachMsg.wf (m : AttachMsg) : Bool := isEndpoint m.depth && isEndpoint m.scope

def AttendMsg.wf (m : AttendMsg) : Bool :=
  isEndpoint m.stream && isByte m.model && isByte m.qFormat && isByte m.outFormat && isByte m.outMode && isEndpoint m.layer
    && isByte m.kvhFirst && isByte m.kvhCount && isWord32 m.window && isEndpoint m.segCount && isEndpoint m.sinkTokens
    && isEndpoint m.rowCount && isWord32 m.bodyLen

def ModelDesc.wf (d : ModelDesc) : Bool :=
  isByte d.model && isByte d.headDimCode && isEndpoint d.layers && isByte d.kvHeads && isByte d.g && isWord32 d.t0Bytes
    && isWord32 d.seats && isWord64 d.t1Bytes && isEndpoint d.slotCount && isByte d.sliceCode && isByte d.streamCount

def PromoteMsg.wf (m : PromoteMsg) : Bool :=
  isEndpoint m.layerFirst && isEndpoint m.layerCount && isWord32 m.pageFirst && isWord32 m.pageCount && isByte m.reservedFlags

def WStreamMsg.wf (m : WStreamMsg) : Bool :=
  isEndpoint m.stream && isEndpoint m.itemCount && isWord32 m.destChannel && isWord32 m.bodyLen

def WaitMsg.wf (m : WaitMsg) : Bool := isChannel m.waitChannel && isWord32 m.timeoutUs

def ObjAdmin.wf (r : ObjAdmin) : Bool :=
  isByte r.subop && isTenant r.tenant && isWord32 r.object && isWord64 r.size && isWord64 r.offset && isEndpoint r.region
    && isWord64 r.regionOffset

def ChanAdmin.wf (r : ChanAdmin) : Bool :=
  isByte r.subop && isByte r.kind && isTenant r.tenant && isWord32 r.channel && isEndpoint r.peer && isByte r.access
    && isWord32 r.target && isWord32 r.len4k

def Packet.wf (p : Packet) : Bool :=
  isEndpoint p.dst && isEndpoint p.src && isByte p.opcode && decide (p.tc < 8) && isTenant p.tenant && isChannel p.channel
    && isByte p.pathId && isEndpoint p.msgId && isEndpoint p.fragIndex && isEndpoint p.fragCount && isEndpoint p.length
    && isWord64 p.addr && isWord32 p.opWord && decide (p.payload.length ≤ 4096)

def RnrMsg.wf (m : RnrMsg) : Bool := isEndpoint m.msgId && isEndpoint m.fragIndex && isWord32 m.retryAfterNs

def ProbeMsg.wf (m : ProbeMsg) : Bool := isByte m.kind && isDevice m.device && isByte m.pairState && isEndpoint m.subject

def CmplMsg.wf (m : CmplMsg) : Bool := isEndpoint m.msgId

def LinkIdentity.wf (i : LinkIdentity) : Bool := isDevice i.device && decide (i.port < 16)

def SyncMsg.wf (m : SyncMsg) : Bool := isDevice m.gmDevice && isByte m.gmRank

def Flit.wf : Flit → Bool
  | .control c => decide (c.starts.length ≤ 31) && decide (c.credits.length = 8)
  | .data i => decide (1 ≤ i) && decide (i < 32)

def RegionReq.wf (r : RegionReq) : Bool :=
  isEndpoint r.region && isByte r.arg && isByte r.slot && isByte r.window && isEndpoint r.srcRegion && isWord64 r.offset
    && isWord64 r.length && isWord64 r.dpaBase

def ExportReq.wf (r : ExportReq) : Bool :=
  isEndpoint r.region && isEndpoint r.layerFirst && isEndpoint r.layerCount && isWord32 r.pageFirst && isWord32 r.pageCount

/-- A command whose operands fit their fields. -/
def Instr.WellFormed : Instr → Bool
  | .resetRelease _ _ => true
  | .porstLow _ _ => true
  | .resetGlitchFiltered _ pin _ => pin.wf
  | .clk25Stop _ _ => true
  | .railMonitorTrip _ rail _ => isRail rail
  | .thermalTrip _ sensor _ _ => isSensor sensor
  | .sensorSample _ celsius => isSensorList celsius
  | .powerBudgetTick _ _ => true
  | .romSelftestDone _ _ _ => true
  | .bankVerifyDone _ _ _ _ => true
  | .dramTrainingDone _ part _ healthyCores => isPart part && healthyCores.all isPcore
  | .nandDiscoveryDone _ _ => true
  | .directoryRecoveryDone _ _ _ => true
  | .startupStepTimeout _ step => isStep step
  | .sync _ port m => isPort port && m.wf
  | .syncInterval _ => true
  | .syncSilenceTimeout _ => true
  | .gmAnnounceTimeout _ => true
  | .acquireTimeout _ => true
  | .holdoverTimeout _ => true
  | .gmReturn _ => true
  | .ppsInEdge _ _ => true
  | .ppsMissingTimeout _ => true
  | .fabricTimeReadLow _ rq => rq.wf
  | .frameBoundary _ => true
  | .timetableActivate _ => true
  | .timetableDistribution _ sender _ => isDevice sender
  | .resultSlotStart _ slot => isSlot slot
  | .wstreamSlotStart _ slot => isSlot slot
  | .append _ rq m => rq.wf && m.wf
  | .seqAdminOpen _ rq tenant model format scope => rq.wf && isTenant tenant && isByte model && isByte format && isEndpoint scope
  | .seqAdminClose _ rq tenant _ => rq.wf && isTenant tenant
  | .seqAdminPark _ rq tenant _ => rq.wf && isTenant tenant
  | .seqAdminResume _ rq tenant _ => rq.wf && isTenant tenant
  | .seqAdminTruncate _ rq tenant _ length => rq.wf && isTenant tenant && isWord32 length
  | .seqAdminQuery _ rq tenant _ => rq.wf && isTenant tenant
  | .seqAdminJoin _ rq tenant _ stream position => rq.wf && isTenant tenant && isEndpoint stream && isBatchPosition position
  | .seqAdminLeave _ rq tenant _ stream => rq.wf && isTenant tenant && isEndpoint stream
  | .idlePark _ index => isSeqIndex index
  | .parkComplete _ index => isSeqIndex index
  | .resumeComplete _ index => isSeqIndex index
  | .closeComplete _ index => isSeqIndex index
  | .appendHoldTimeout _ index => isSeqIndex index
  | .evictionParkTimeout _ _ => true
  | .lookup _ rq m _ => rq.wf && m.wf
  | .attach _ rq m => rq.wf && m.wf
  | .nodeRetentionExpired _ slot => isDirSlot slot
  | .arrayBlockMoveComplete _ bank => isBank bank
  | .shadowSweepRead _ _ => true
  | .dirProbeWaitTimeout _ _ => true
  | .pinGranted _ _ _ => true
  | .pinWaitTimeout _ _ => true
  | .pinRelease _ _ _ => true
  | .pageReclaim _ _ => true
  | .attend _ rq port m => rq.wf && isPort port && m.wf
  | .tileComplete _ _ _ _ => true
  | .mergeStep _ _ _ _ _ index _ => isSeqIndex index
  | .spareTakeover _ lcore _ => isLcore lcore
  | .modelLoad _ rq d => rq.wf && d.wf
  | .modelUnload _ rq model => rq.wf && isByte model
  | .modelUnloadComplete _ model => isByte model
  | .promote _ rq m => rq.wf && m.wf
  | .moveStart _ _ => true
  | .moveCopyComplete _ _ _ => true
  | .pinGrantHoldTimeout _ _ => true
  | .drainFree _ _ => true
  | .drainWaitTimeout _ _ => true
  | .t1AllocGranted _ _ => true
  | .t1AllocTimeout _ _ => true
  | .heatAgeTick _ => true
  | .refetchArrived _ _ => true
  | .refetchTimeout _ _ => true
  | .objAdminCreate _ rq r => rq.wf && r.wf
  | .objAdminSeal _ rq tenant object => rq.wf && isTenant tenant && isEndpoint object
  | .objAdminDelete _ rq tenant object => rq.wf && isTenant tenant && isEndpoint object
  | .objAdminQuery _ rq tenant object => rq.wf && isTenant tenant && isEndpoint object
  | .objAdminReopen _ rq tenant object => rq.wf && isTenant tenant && isEndpoint object
  | .objAdminCopyIn _ rq r => rq.wf && r.wf
  | .objectDeleteComplete _ object => isEndpoint object
  | .wstream _ rq port m => rq.wf && isPort port && m.wf
  | .nandReadComplete _ _ _ => true
  | .nandProgramComplete _ group _ failed => isGroup group && failed.all isBandMember
  | .nandEraseComplete _ group band position _ => isGroup group && isBandNo band && isBandMember position
  | .nandOpTimeout _ channel slot _ => isNandChannel channel && isDieSlot slot
  | .rowFillTimeout _ group _ => isGroup group
  | .patrolRead _ _ _ _ => true
  | .checkpointStart _ => true
  | .dramPatrol _ addr _ => isT1Addr addr
  | .portSignalDetect _ port => isPort port
  | .portRetrainTimer _ port => isPort port
  | .portTrainingComplete _ port id lanes _ => isPort port && id.wf && lanes.all isLane
  | .portTrainingTimeout _ port => isPort port
  | .laneFault _ port lane _ => isPort port && isLane lane
  | .lossOfSignal _ port _ => isPort port
  | .retrainBackoffExpiry _ port => isPort port
  | .sleepOrderedSet _ port => isPort port
  | .wakeOrderedSet _ port => isPort port
  | .flitReceived _ port _ f => isPort port && f.wf
  | .packetReceived _ port p => isPort port && p.wf
  | .write _ h addr _ => h.wf && isWord64 addr
  | .read _ h addr _ => h.wf && isWord64 addr
  | .send _ h _ => h.wf
  | .wait _ h m => h.wf && m.wf
  | .waitTimeout _ channel => isChannel channel
  | .ack _ peer _ => isPeer peer
  | .ackDelayTimeout _ peer => isPeer peer
  | .retransmitTimeout _ peer _ => isPeer peer
  | .failedPathProbe _ peer path => isPeer peer && isByte path
  | .pathProbe _ port m => isPort port && m.wf
  | .pathReply _ peer path m => isPeer peer && isByte path && m.wf
  | .probeInit _ peer _ => isPeer peer
  | .rnr _ peer m => isPeer peer && m.wf
  | .rnrRetry _ peer msgId fragIndex => isPeer peer && isEndpoint msgId && isEndpoint fragIndex
  | .readNotPresentTimeout _ channel msgId => isChannel channel && isEndpoint msgId
  | .contextFetchComplete _ channel => isChannel channel
  | .contextFetchTimeout _ channel => isChannel channel
  | .reassemblyTimeout _ src dst msgId => isEndpoint src && isEndpoint dst && isEndpoint msgId
  | .eventReceived _ src _ => isEndpoint src
  | .cmplReceived _ src dst m => isEndpoint src && isEndpoint dst && m.wf
  | .chanAdminOpen _ rq r => rq.wf && r.wf
  | .chanAdminClose _ rq tenant channel => rq.wf && isTenant tenant && isChannel channel
  | .chanAdminSubscribe _ rq r => rq.wf && r.wf
  | .chanAdminUnsubscribe _ rq r => rq.wf && r.wf
  | .chanAdminQuery _ rq tenant channel => rq.wf && isTenant tenant && isChannel channel
  | .transmitChoice _ port => isPort port
  | .gateEntryChange _ port => isPort port
  | .gateListActivate _ port => isPort port
  | .bucketCreditTick _ => true
  | .heartbeatTimer _ => true
  | .heartbeat _ port m _ => isPort port && m.wf
  | .partnerProbe _ port m => isPort port && m.wf
  | .partnerReply _ port m => isPort port && m.wf
  | .witnessQuery _ port m => isPort port && m.wf
  | .witnessReply _ port m => isPort port && m.wf
  | .partnerProbeRepeat _ => true
  | .pairSilenceTimeout _ => true
  | .pairLossTimeout _ => true
  | .joinTimeout _ => true
  | .pausedRestore _ => true
  | .forceTakeover _ rq => rq.wf
  | .parTakeoverReceived _ lost survivor => isDevice lost && isDevice survivor
  | .pairCommitReceived _ _ _ => true
  | .pairCommitComplete _ _ _ => true
  | .mirrorCopyComplete _ _ => true
  | .resyncComplete _ => true
  | .cxlMemRead _ port ld dpa _ => isCxlPort port && isLd ld && isWord64 dpa
  | .cxlMemWrite _ port ld dpa _ => isCxlPort port && isLd ld && isWord64 dpa
  | .bisnpResponse _ port ld _ _ => isCxlPort port && isLd ld
  | .bisnpTimeout _ port ld _ => isCxlPort port && isLd ld
  | .cxlLinkDown _ port _ => isCxlPort port
  | .cxlLinkUp _ port => isCxlPort port
  | .ldReset _ port ld => isCxlPort port && isLd ld
  | .cxlPerst _ port _ => isCxlPort port
  | .hostFail _ rq port ld => rq.wf && isByte port && isByte ld
  | .regionCreate _ rq r => rq.wf && r.wf
  | .regionDelete _ rq region => rq.wf && isEndpoint region
  | .regionReset _ rq region => rq.wf && isEndpoint region
  | .regionMap _ rq r => rq.wf && r.wf
  | .regionPublish _ rq r => rq.wf && r.wf
  | .publishCrcComplete _ port ld => isCxlPort port && isLd ld
  | .regionRetire _ rq region _ => rq.wf && isEndpoint region
  | .regionHint _ rq r => rq.wf && r.wf
  | .regionExport _ rq r => rq.wf && r.wf
  | .exportCopyComplete _ port ld => isCxlPort port && isLd ld
  | .regionQuery _ rq region => rq.wf && isEndpoint region
  | .statusSnapshot _ rq cls index => rq.wf && isByte cls && isWord32 index
  | .identifyMemoryDevice _ rq => rq.wf
  | .getTimestamp _ rq => rq.wf
  | .setTimestamp _ rq _ => rq.wf
  | .getSupportedLogs _ rq => rq.wf
  | .getLog _ rq _ offset length => rq.wf && isWord32 offset && isWord32 length
  | .getEventRecords _ rq log => rq.wf && isByte log
  | .clearEventRecords _ rq log _ => rq.wf && isByte log
  | .getEventInterruptPolicy _ rq => rq.wf
  | .setEventInterruptPolicy _ rq _ => rq.wf
  | .getPoisonList _ rq dpa length => rq.wf && isWord64 dpa && isWord32 length
  | .injectPoison _ rq dpa => rq.wf && isWord64 dpa
  | .clearPoison _ rq dpa _ => rq.wf && isWord64 dpa
  | .getFwInfo _ rq => rq.wf
  | .transferFw _ rq _ => rq.wf
  | .transferFwIdentity _ rq _ _ => rq.wf
  | .activateFw _ rq slot _ => rq.wf && isByte slot
  | .getLdInfo _ port => isCxlPort port
  | .getLdAllocations _ port => isCxlPort port
  | .setLdAllocations _ port first _ => isCxlPort port && isByte first
  | .cdatRead _ port entry => isCxlPort port && isEndpoint entry
  | .getVersion _ transport => isTransport transport
  | .getCapabilities _ transport => isTransport transport
  | .negotiateAlgorithms _ transport _ _ _ => isTransport transport
  | .getDigests _ transport => isTransport transport
  | .getCertificate _ transport slot offset length => isTransport transport && isByte slot && isWord32 offset && isWord32 length
  | .challenge _ transport slot _ summary => isTransport transport && isByte slot && isByte summary
  | .getMeasurements _ transport index _ _ => isTransport transport && isByte index
  | .respondIfReady _ transport _ => isTransport transport
  | .spdmSignatureComplete _ => true
  | .cfgTxnBegin _ rq => rq.wf
  | .cfgTxnWrite _ rq _ _ => rq.wf
  | .cfgTxnCommit _ rq _ _ _ => rq.wf
  | .cfgTxnRollback _ rq _ => rq.wf
  | .txnIdleTimeout _ => true
  | .nvmWriteComplete _ _ => true
  | .rwlWrite _ rq _ _ _ => rq.wf
  | .registerWrite _ rq _ _ => rq.wf
  | .handshakeTimeout _ island => island.wf
  | .mgmtWatchdogTimeout _ core => isMgmtCore core
  | .livenessTimeout _ => true
  | .livenessWrite _ core => isMgmtCore core
  | .powerRequest _ rq first count target => rq.wf && isByte first && isByte count && isByte target
  | .ownerAnswer _ domain _ => isDomain domain
  | .drainEnd _ domain => isDomain domain
  | .drainTimeout _ domain => isDomain domain
  | .quiesceComplete _ domain => isDomain domain
  | .clampComplete _ domain => isDomain domain
  | .lowerComplete _ domain => isDomain domain
  | .domainWake _ domain source => isDomain domain && isSource source
  | .wakeComplete _ domain => isDomain domain
  | .idlePolicyTimeout _ domain => isDomain domain
  | .timetableLeadWake _ slot => isSlot slot
  | .vddAonRemoval _ => true
  | .portWakeTimeout _ port => isPort port

end Sys2Proof
end

