-- ==== Sys2Proof/Tests/Slice0.lean ====
section
/-! SUPPORT. Tests of the model: a well-formedness smoke test, the manual's worked examples, and for every statement with hypotheses a witness
that they can hold together. -/

open Sys2Proof Sys2Proof.Machine

namespace Sys2Proof.Tests
open Sys2Proof.Machine

set_option Elab.async false

/-! ## Small states -/

/-- A device that runs alone, ten seconds after its start, with nothing in its tables. -/
def dev0 : Dev :=
  { Dev.reset with
    sync.time := ms 10000
    sync.starting := false
    cfg.internalReset := false
    cfg.phase := .run
    par.state := .solo }

/-- That device with something changed, and nothing waiting. -/
def w (f : Dev → Dev) : State := ⟨[], f dev0⟩

def straps0 : Straps := { testEn := false, rcv := false, i3cAddr := 0 }

/-- A domain in a state. -/
def domIn (d : Nat) (st : PowerState) : State := w (modDomain d fun q => { q with state := st })

/-! ## Witnesses: each shows that the hypotheses of a statement can hold together -/

theorem witness_StepTakesTheFront : step ⟨[.resetRelease 0 straps0], Dev.reset⟩ = exec (.resetRelease 0 straps0) ⟨[], Dev.reset⟩ := rfl

theorem witness_SleepIsKept : Dormant ⟨[.frameBoundary 0], Dev.reset⟩ ∧ step ⟨[.frameBoundary 0], Dev.reset⟩ = .next State.reset :=
  ⟨⟨by decide, by decide⟩, rfl⟩

theorem witness_TripIsKept :
    let s : State := ⟨[.railMonitorTrip 0 3 1000], { dev0 with pwr.tripped := true }⟩
    s.dev.pwr.tripped = true ∧ step s = exec (.railMonitorTrip 0 3 1000) ⟨[], s.dev⟩ ∧ (199 < 200) := ⟨rfl, rfl, by decide⟩

/-- Serial comparison at its edges: equal, next, half the range less one, half the range. -/
theorem witness_SerialOrder :
    serialLt (5 : BitVec 8) 5 = false ∧ serialLe (5 : BitVec 8) 5 = true ∧ serialLt (255 : BitVec 8) 0 = true
    ∧ serialLt (0 : BitVec 8) 127 = true ∧ serialLe (0 : BitVec 8) 128 = false ∧ serialLt (128 : BitVec 8) 0 = false := by decide

theorem witness_OffsetCorrection : (-16001 : Int) < -16000 ∧ (16000 : Int) < 16001 ∧ (-16000 : Int) ≤ 16000 := by decide

theorem witness_EventPaths : 2 ≤ logClass St.cfgRomFail := by decide

theorem witness_CountersSaturate : ∀ e ∈ [(0x1000, 0xFFFFFFFF)], e.2 < 2 ^ 32 := by decide

theorem witness_MemoryLaws : Memory.wf (memWriteN [] 63 [1, 2]) = true := by decide

theorem witness_ResetsAndTrips_resets :
    Dev.reset.cfg.internalReset = true ∧ Dev.reset.pwr.tripped = false ∧ 200 ≤ 200 ∧ Dev.reset.cfg.nvmJobs = [] ∧ 1000 ≤ 1000 := by decide

theorem witness_ResetsAndTrips_trips :
    (115 ≤ 115 ∧ 10000 ≤ 10000 ∧ dev0.pwr.tripped = false) ∧ 199 < 200
    ∧ (Awake (w id) ∧ profileMilliwatts ((w id).at 0).tt.profile < profileMilliwatts ((w id).at 0).tt.profile + 1)
    ∧ (Awake (w id) ∧ ((w id).at 0).pwr.thermalClamp = false
      ∧ ((w id).at 0).throttleC ≤ (hottestFrom 0 0 0 ((List.replicate 101 105).take 93)).2) := by
  repeat' apply And.intro
  all_goals first | decide +kernel | (show (_ : Bool) = _; decide +kernel)

theorem witness_PowerEntrySteps :
    (Admits (w id) 0 .mctp true ∧ onOnly 105 = false ∧ 105 < 106 ∧ (((w id).at 0).domain 105).state = .on)
    ∧ (Awake (domIn 4 .asking) ∧ (((domIn 4 .asking).at 0).domain 4).state = .asking
      ∧ ownerSays ((domIn 4 .asking).at 0) 4 (((domIn 4 .asking).at 0).domain 4).target { workEnds := none, longNand := false, linkActive := false } = .ack)
    ∧ (∃ v x, ownerSays ((domIn 4 .asking).at 0) 4 (((domIn 4 .asking).at 0).domain 4).target v = .defer x)
    ∧ (Awake (domIn 4 .draining) ∧ (((domIn 4 .draining).at 0).domain 4).state = .draining)
    ∧ (Awake (domIn 4 .quiescing) ∧ (((domIn 4 .quiescing).at 0).domain 4).state = .quiescing
      ∧ (((domIn 4 .quiescing).at 0).domain 4).wakeHeld = none)
    ∧ (Awake (domIn 4 .clamping) ∧ (((domIn 4 .clamping).at 0).domain 4).state = .clamping
      ∧ (((domIn 4 .clamping).at 0).domain 4).wakeHeld = none ∧ isPortDomain 4 = false)
    ∧ (let s := w (modDomain 4 fun q => { q with state := .lowering, target := 1 })
     Awake s ∧ ((s.at 0).domain 4).state = .lowering ∧ ((s.at 0).domain 4).wakeHeld = none ∧ ((s.at 0).domain 4).target = 1) := by
  repeat' apply And.intro
  all_goals first
    | decide +kernel
    | (show (_ : Bool) = _; decide +kernel)
    | rfl
    | exact ⟨{ workEnds := some (ms 10001), longNand := false, linkActive := false }, _, rfl⟩

theorem witness_PowerWakes :
    (let s := w (modDomain 4 fun q => { q with state := .draining, drainBy := ms 10000 })
     Awake s ∧ ((s.at 0).domain 4).state = .draining ∧ serialLe ((s.at 0).domain 4).drainBy (s.at 0).now = true)
    ∧ (let s := w (modDomain 4 fun q => { q with state := .asking, fromOn := true })
     Awake s ∧ neverWakes (s.at 0) 4 = false ∧ ((s.at 0).domain 4).state = .asking ∧ ((s.at 0).domain 4).fromOn = true)
    ∧ (Awake (domIn 4 .quiescing) ∧ neverWakes ((domIn 4 .quiescing).at 0) 4 = false
      ∧ (((domIn 4 .quiescing).at 0).domain 4).state = .quiescing ∧ (((domIn 4 .quiescing).at 0).domain 4).wakeHeld = none)
    ∧ (Awake (domIn 4 .ret) ∧ neverWakes ((domIn 4 .ret).at 0) 4 = false ∧ isPortDomain 4 = false
      ∧ (((domIn 4 .ret).at 0).domain 4).state = .ret)
    ∧ (Awake (domIn 4 .waking) ∧ (((domIn 4 .waking).at 0).domain 4).state = .waking)
    ∧ (let s := w fun d => { d with regs := [(Reg.pwrPolicy + 4, fieldAt 31 31 1)] }
     Awake s ∧ (s.at 0).autoRet 4 = 1 ∧ (s.at 0).autoOff 4 = 0 ∧ ((s.at 0).domain 4).state = .on ∧ onOnly 4 = false
      ∧ past ((s.at 0).domain 4).idleSince (us ((s.at 0).idleUs 4)) (s.at 0).now = true ∧ tooLateToEnter (s.at 0) 4 1 = false) := by
  repeat' apply And.intro
  all_goals first
    | decide +kernel
    | (show (_ : Bool) = _; decide +kernel)
    | rfl

def slot0 : SlotEntry :=
  { framePos := 0, slot := 0, startNs := 0, lengthNs := 400, cls := .attend, port := 0, stream := 32, resultDframes := 2, resultSlot := 1,
    maxRows := 16, budgetQ := 4 }

def slot1 : SlotEntry :=
  { framePos := 0, slot := 1, startNs := 2000, lengthNs := 400, cls := .result, port := 0, stream := 33, resultDframes := 0,
    resultSlot := 0, maxRows := 0, budgetQ := 4 }

def slot2 : SlotEntry :=
  { framePos := 0, slot := 2, startNs := 4000, lengthNs := 400, cls := .wstream, port := 0, stream := 34, resultDframes := 0,
    resultSlot := 0, maxRows := 0, budgetQ := 4 }

def tt0 : Timetable :=
  { id := 7, variant := .solo, profile := .throughput, frameLenQ := 32, cycleFrames := 1, baseTime := 0, slotCount := 3, maxAbsent := 0,
    slackPct := 10, distLead := 4, hyperId := 1, containerLen := 112, slots := [slot0, slot1, slot2] }

/-- The running device within frame 9 of a timetable with one slot of each kind. -/
def ttOn (d : Dev) : Dev :=
  { d with
    tt.set := [tt0]
    tt.running := some tt0
    tt.started := true
    tt.variant := .solo
    tt.frame := 9
    tt.frameStart := ms 10000 - ns 5000
    tt.origin := ms 10000 - ns 5000
    tt.profile := .throughput }

def syncMsg0 : SyncMsg :=
  { gmDevice := 6, announce := 1, hops := 1, gmRank := 9, t1 := ms 9999, t2 := ms 9999, t3 := ms 9999, t4 := ms 9999 }

def locked (gm : Bool) : State :=
  w fun d => { d with
    sync.state := .locked
    sync.gmSelf := gm
    sync.gmDevice := 6
    par.deviceId := 8
    regs := [(Reg.iatConfig, fieldAt 31 24 5 ||| fieldAt 11 11 1)]
    auv.ports := [(3, { Port.idle with state := .up })] }

theorem witness_SyncExchanges :
    (Awake (locked false) ∧ keepsTime ((locked false).at 0) = true ∧ (follow (hear 3 syncMsg0 ((locked false).at 0))).sync.gmSelf = false
      ∧ (follow (hear 3 syncMsg0 ((locked false).at 0))).sync.followed = some 3)
    ∧ (Awake (locked true) ∧ keepsTime ((locked true).at 0) = true ∧ ((locked true).at 0).sync.gmSelf = true
      ∧ ((locked true).at 0).ppsEnable = 1 ∧ 100 ≤ 100 ∧ 500000000 ≤ 500000000
      ∧ 2 * (((locked true).at 0).now.toNat % secondUnits) ≤ secondUnits)
    ∧ past (ms 8000) (ms 2000) ((locked true).at 0).now = true
    ∧ isOperator ((locked true).at 0) .mctp = true ∧ isOperator ((locked true).at 0) (.ld 0 0) = false := by
  repeat' apply And.intro
  all_goals first
    | decide +kernel
    | (show (_ : Bool) = _; decide +kernel)
    | rfl

def model0 : ModelDesc :=
  { model := 1, headDimCode := 0, layers := 2, kvHeads := 2, g := 2, uid := 5, t0Bytes := 1048576, seats := 8, t1Bytes := 1048576,
    slotCount := 1, sliceCode := 2, streamCount := 1, streams := [32, 0, 0, 0, 0] }

def body0 : ImageBody :=
  { sectionsOk := true, startProfile := .throughput, permitted := 1, gmDevice := 8, part := 0, spareBlocks := 8, minDies := 1,
    pools := { staging := 1024, region := 4096, weight := 4096, reserve := 4096, table := 1024, plist := 1024 },
    models := [model0], tenants := [], scopes := [], streams := [⟨32, 0, 0, 2000, 500, 0⟩, ⟨34, 0, 0, 2000, 500, 0⟩], timetables := [tt0, { tt0 with id := 8, variant := .normal }],
    gateLists := [], policers := [], powerCount := 106, powerStart := List.replicate 106 0, posX := 1, posY := 8, deviceId := 8,
    registers := [] }

def img0 : Image :=
  { magicOk := true, seq := 1, bodyLen := 100000, crcOk := true, digest := 0, microcode := 0, secVersion := 1, secFloor := 1, signer := 0,
    sigOk := true, signerId := 9, configId := 4, body := body0 }

theorem witness_SyncTimeouts :
    (Awake (locked false) ∧ keepsTime ((locked false).at 0) = true ∧ ((locked false).at 0).sync.state = .locked
      ∧ ((locked false).at 0).sync.gmSelf = false
      ∧ past ((locked false).at 0).sync.lastSync (eightIntervals ((locked false).at 0)) ((locked false).at 0).now = true)
    ∧ (let s := w fun d => { d with sync.state := .holdover, sync.since := ms 9990 }
     Awake s ∧ keepsTime (s.at 0) = true ∧ (s.at 0).sync.state = .holdover ∧ past (s.at 0).sync.since (ms 10) (s.at 0).now = true)
    ∧ (let d := { (locked false).at 0 with sync.peers := mkeep ((locked false).at 0).sync.peers fun _ q => decide (q.gmDevice ≠ 6) }
     past ((locked false).at 0).sync.gmAnnounceAt (eightIntervals ((locked false).at 0)) ((locked false).at 0).now = true
      ∧ (follow d).sync.gmDevice ≠ 6)
    ∧ (let s := w fun d => { d with cfg.phase := .sync, sync.state := .acquire, sync.starting := true, sync.since := ms 9000 }
     Awake s ∧ (s.at 0).cfg.phase = .sync ∧ (s.at 0).sync.state = .acquire ∧ (s.at 0).sync.starting = true ∧ (s.at 0).sync.heard = false
      ∧ past (s.at 0).sync.since (ms 1000) (s.at 0).now = true)
    ∧ (let s : State := ⟨[], { (locked false).dev with cfg.image := some img0, sync.namedSince := some (ms 9000) }⟩
     Awake s ∧ keepsTime (s.at 0) = true ∧ namedGm (s.at 0) = some (s.at 0).par.deviceId ∧ (s.at 0).sync.namedSince = some (ms 9000)
      ∧ (s.at 0).sync.gmSelf = false ∧ (s.at 0).sync.state = .locked ∧ past (ms 9000) (ms 1000) (s.at 0).now = true) := by
  repeat' apply And.intro
  all_goals first
    | decide +kernel
    | (show (_ : Bool) = _; decide +kernel)
    | rfl

theorem witness_FrameStarts :
    (let s := w fun d => { ttOn d with tt.frameStart := ms 10000 - ns 8000 }
     Awake s ∧ (s.at 0).tt.started = true ∧ (s.at 0).tt.pending = none ∧ serialLe (s.at 0).nextBoundary (s.at 0).now = true)
    ∧ (let p : PendingTt := { set := [tt0], effective := ms 10000, lists := [] }
     let s := w fun d => { ttOn d with tt.pending := some p }
     Awake s ∧ (s.at 0).tt.pending = some p ∧ serialLe p.effective (s.at 0).now = true)
    ∧ (let s := w fun d => { ttOn d with cfg.permitted := 1 }
     let set := [tt0, { tt0 with id := 8, variant := .normal }]
     Awake s ∧ (s.at 0).serving = true ∧ (s.at 0).tt.started = true
      ∧ distributionFault (s.at 0) set ((s.at 0).tt.frameStart + ns 16000) = St.ok
      ∧ serialLt ((s.at 0).now + BitVec.ofNat 64 (s.at 0).frameUnits - 1) ((s.at 0).now + BitVec.ofNat 64 (s.at 0).frameUnits) = true)
    ∧ (let s := w fun d => { d with cfg.phase := .sync }
     Awake s ∧ (s.at 0).tt.started = false ∧ (s.at 0).cfg.phase ≠ .run
      ∧ ((s.at 0).tt.set.find? fun x => decide (x.id = 7)) = none) := by
  repeat' apply And.intro
  all_goals first
    | decide +kernel
    | (show (_ : Bool) = _; decide +kernel)
    | rfl

/-- First ID, number and value of the registers in a run: each field at its least value, LD 0 an operator of tenant 3. -/
def regRuns : List (Nat × Nat × BitVec 64) :=
  [(0x1000, 1, 0), (0x2000, 1, 0), (0x2001, 1, 0x32000000), (0x4000, 1, 0x13200001), (0x4001, 1, 0x100), (0x5000, 1, 0x402040),
   (0x5001, 1, 0x10010), (0x5002, 1, 0), (0x6001, 2, 0), (0x6005, 1, 0), (0x701A, 1, 0x28050000000000),
   (0x8000, 13, 0x0101010101000000), (0x800D, 78, 0x4002), (0x805B, 1, 0x4000000), (0x9000, 1, 0), (0x9001, 1, 0x900000),
   (0xA000, 1, 0x7C000000), (0xA001, 1, 0xC0000003), (0xA002, 31, 0), (0xB004, 1, 0), (0xD000, 1, 0x10000000), (0xE0D4, 106, 0),
   (0xE144, 1, 0x55000000)]

def img1 : Image :=
  { img0 with body := { body0 with
    registers := (regRuns.flatMap fun r => (List.range r.2.1).map fun k => (BitVec.ofNat 16 (r.1 + k), r.2.2)).reverse } }

def dieFound (c : Nat) : DieFound :=
  { channel := c
    slot := 0
    bad := []
    params := ⟨16384, 2048, 4, 512, 1000, true, 60000, 7⟩ }

/-- In step 2 with one bank or two, whose signer the identity names. -/
def verifying (a b : Option Image) : State :=
  w fun d => { d with
    cfg.phase := .verify
    cfg.step := 2
    cfg.bankA := a
    cfg.bankB := b
    sec.signers := [9] }

theorem witness_BankChoice :
    (goodBanks (verifying (some img0) (some { img0 with seq := 0x80000000 })).dev
        = [(false, img0), (true, { img0 with seq := 0x80000000 })]
      ∧ img0.secFloor ≤ img0.secVersion ∧ serialLt (1 : BitVec 32) 0x80000000 = true
      ∧ ((0x80000001 : BitVec 32) - 1).toNat = 2 ^ 31)
    ∧ goodBanks (verifying none (some img0)).dev = [(true, img0)] ∧ goodBanks (verifying none none).dev = [] := by decide +kernel

theorem witness_StartupSteps_rom :
    let s := w fun d => { d with cfg.phase := .boot }
    Awake s ∧ (s.at 0).cfg.phase = .boot
      ∧ (firstEpoch (takeIdentity 55 { s.at 0 with ras.running := [0, 1, 2, 3] })).pwr.straps.rcv = false := ⟨rfl, rfl, rfl⟩

theorem witness_StartupSteps_banks :
    (Awake (w fun d => { d with cfg.phase := .boot, cfg.romFailed := true })
      ∧ ((w fun d => { d with cfg.phase := .boot, cfg.romFailed := true }).at 0).cfg.phase = .boot
      ∧ ((w fun d => { d with cfg.phase := .boot, cfg.romFailed := true }).at 0).cfg.romFailed = true)
    ∧ (Awake (verifying (some img1) none) ∧ ((verifying (some img1) none).at 0).cfg.phase = .verify
      ∧ selectBank (checkBanks ((verifying (some img1) none).at 0)) = some (false, img1) ∧ sectionsHold img1.body = true) := by
  repeat' apply And.intro
  all_goals first
    | (rw [foundDies]; decide +kernel)
    | decide +kernel
    | (show (_ : Bool) = _; decide +kernel)
    | rfl

theorem foundDies : ((List.range 1024).filter fun n => ((List.range 64).map dieFound).any fun x => decide (dieNumber x = n))
    = (List.range 1024).filter fun n => decide (n % 16 = 0) := by
  refine List.filter_congr fun n hn => ?_
  rw [Bool.eq_iff_iff]
  simp only [List.any_map, List.any_eq_true, List.mem_range, Function.comp_apply, decide_eq_true_eq] at *
  exact ⟨fun ⟨c, _, h⟩ => by change 16 * c + 0 = n at h; omega, fun h => ⟨n / 16, by omega, by show 16 * (n / 16) + 0 = n; omega⟩⟩

theorem witness_StartupSteps_memory :
    (let s := w fun d => { d with cfg.phase := .nand, cfg.image := some img0 }
     Awake s ∧ (s.at 0).cfg.phase = .nand ∧ (∀ x ∈ (List.range 64).map dieFound, dieOk (s.at 0) x = true) ∧ (∀ x ∈ (List.range 64).map dieFound, x.slot ≤ 0 ∧ x.channel < 64 ∧ 0 < 16)
      ∧ fittedCount ((List.range 1024).filter fun n => ((List.range 64).map dieFound).any fun x => decide (dieNumber x = n)) = 0 + 1
      ∧ (((List.range 64).map dieFound).find? fun x => decide (dieNumber x = 0)) = some (dieFound 0)
      ∧ ((s.at 0).cfg.image.any fun i => decide (0 + 1 < i.body.minDies)) = false)
    ∧ chosenRoot [] [] = none
    ∧ (let s := w fun d => { d with cfg.phase := .train, cfg.step := 3 }
     Awake s ∧ (s.at 0).cfg.phase = .train ∧ stepDue 3 (s.at 0) = true)
    ∧ (let s := w fun d => { d with cfg.phase := .nand, cfg.step := 4 }
     Awake s ∧ stepDue 4 (s.at 0) = true) := by
  repeat' apply And.intro
  all_goals first
    | (rw [foundDies]; decide +kernel)
    | decide +kernel
    | (show (_ : Bool) = _; decide +kernel)
    | rfl

def hdr0 : MsgHdr := { src := 0x440, dst := 0x401, port := 0, tc := 7, cmplReq := true, tenant := 3, channel := 300, csn := 0, msgId := 1 }

/-- Partner endpoint 0 of port 0, on behalf of tenant 3. -/
def rqA : Requester := .auvas hdr0 0

def seq0 : Machine.Seq :=
  { handle := 0, tenant := 3, model := 1, scope := 5, format := .bf16, mirror := .m0, state := .seated, length := 16, sharedTokens := 0,
    maxLen := 16, seat := some 0, prevSeat := none, ptRoot := 0, pendingBase := 0, ptExtent := none, ptSet := [], ptNext := [],
    pendingExtent := none, tailKey := 0, lastFrame := 0, layers := 2, kvHeads := 2, headDim := 64,
    openTable := [⟨1, 0, false, none⟩, ⟨1, 0, false, none⟩], ring := [], blockCount := [], log := [], logPieces := [], l3 := [],
    held := [], evictedFor := none, cold := ⟨0, 0, 0, 0⟩ }

/-- Tenant 3 with scope 5, model 1 loaded, and the sequences given. -/
def seqDev (l : List (Nat × Machine.Seq)) (d : Dev) : Dev :=
  { ttOn d with
    cfg.tenants := [(3, { tenant := 3, valid := true, mirror := .m0, defaultScope := 5, scopes := [] })]
    pfx.scopes := [(5, { Scope.unused with share := true, retainK := 1 })]
    att.models := [(1, { desc := model0, state := .active, granted := 8, borrowed := 0 })]
    tir.stagingUnits := 1024
    kvs.seqs := l
    kvs.freeNext := l.length }

/-- That device with one sequence in a state. -/
def seqIn (st : SeqState) : State := w (seqDev [(0, { seq0 with state := st })])

theorem witness_PairChangePaths :
    (w fun d => { d with par.state := .isolated }).dev.par.state = .isolated ∧ (w id).dev.par.state = .solo
      ∧ ({ (w id).dev with par.state := .paired, par.deviceId := 1 } : Dev).sideA = false
      ∧ ({ status := St.ok, fields := [], state := (w id).dev } : Applied).status = St.ok
      ∧ ({ status := St.kvsLost, fields := [], state := (w id).dev } : Applied).status ≠ St.ok := by decide +kernel

theorem witness_SeqAdmin :
    (let s := w (seqDev [])
     Admits s 0 rqA false ∧ Alone s 0 ∧ formatOf 3 = some .e5m2 ∧ tenantOk (s.at 0) rqA 3 = true ∧ tenantValid (s.at 0) 3 = true
      ∧ modelLoaded (s.at 0) 1 = true ∧ isMember (s.at 0) 3 (namedScope (s.at 0) 3 0xFFFF) = true ∧ (takeIndex (s.at 0)).isSome = true
      ∧ seekSeat (s.at 0) 1 none = .seat 0)
    ∧ (let s := seqIn .seated
     Admits s 0 rqA false ∧ Alone s 0 ∧ checkSeq (s.at 0) rqA 3 0 true = (St.ok, 0)
      ∧ mget (s.at 0).kvs.seqs 0 = some seq0 ∧ seq0.state = .seated ∧ seq0.held = [] ∧ returning (s.at 0) 0 = false
      ∧ 16 ≤ seq0.length ∧ (applyJoin 0 32 4095 (s.at 0)).status = St.ok ∧ checkSeq (s.at 0) rqA 3 0 false = (St.ok, 0))
    ∧ (let s := w fun d => { seqDev [(0, seq0)] d with tt.batch := [(batchKey 32 4095, 0)] }
     Admits s 0 rqA false ∧ (applyLeave 0 32 (s.at 0)).status = St.ok ∧ positionHeld (s.at 0) 32 0 = some 4095)
    ∧ (let s := seqIn .parked
     Admits s 0 rqA false ∧ Alone s 0 ∧ mget (s.at 0).kvs.seqs 0 = some { seq0 with state := .parked }
      ∧ seekSeat (s.at 0) seq0.model seq0.prevSeat = .seat 0)
    ∧ (findSeq (seqIn .seated).dev 0 = some (0, seq0) ∧ findSeq (seqIn .lost).dev 0 = some (0, { seq0 with state := .lost })
      ∧ isAttendStream (seqIn .seated).dev 32 = true ∧ mhas (batchAfter (seqIn .seated).dev) (batchKey 32 4095) = false
      ∧ positionHeld (seqIn .seated).dev 32 0 = none ∧ 4095 < 4096) := by
  repeat' apply And.intro
  all_goals first
    | decide +kernel
    | (show (_ : Bool) = _; decide +kernel)
    | rfl

/-- One more token of layer `l` at a position. -/
def append0 (pos l : Nat) : AppendMsg :=
  { handle := 0, position := pos, count := 1, layer := l, format := 0, bodyLen := 544, tokens := [7],
    kv := [⟨List.replicate 256 1, List.replicate 256 2⟩] }

def ext0 : Extent := ⟨5, 1, 0⟩

/-- A sequence in a state with its saved areas in T2. -/
def savedIn (st : SeqState) : Machine.Seq :=
  { seq0 with state := st, seat := none, pendingExtent := some ext0, ptExtent := some ext0 }

theorem witness_SequenceLife_append :
    (let s := seqIn .seated
     Serves s 0 ∧ (s.at 0).par.state ≠ .isolated ∧ tenantOf (s.at 0) rqA = some 3 ∧ findSeq (s.at 0) 0 = some (0, seq0)
      ∧ ownsSeq (s.at 0) 0 = true ∧ seq0.state = .seated ∧ seq0.held = [] ∧ returning (s.at 0) 0 = false ∧ seq0.mirror ≠ .m2
      ∧ appendCheck (s.at 0) seq0 (append0 16 1) = St.ok ∧ appendCheck (s.at 0) seq0 (append0 15 1) ≠ St.ok
      ∧ appendCheck (s.at 0) seq0 (append0 15 1) ≠ St.kvsBattFull
      ∧ appendCheck { s.at 0 with tir.stagingUnits := 0 } seq0 (append0 16 1) = St.kvsBattFull)
    ∧ (let s := w fun d => { seqDev [(0, seq0)] d with tt.frame := 1024, regs := [(Reg.kvsConfig, fieldAt 31 16 1)] }
     Serves s 0 ∧ mget (s.at 0).kvs.seqs 0 = some seq0 ∧ seq0.state = .seated ∧ (s.at 0).idleParkK ≠ 0 ∧ (s.at 0).tt.profile ≠ .density
      ∧ ownsSeq (s.at 0) 0 = true ∧ (s.at 0).par.state ≠ .isolated ∧ idleFor (s.at 0) seq0 (s.at 0).idleParkK = true) := by
  repeat' apply And.intro
  all_goals first
    | decide +kernel
    | (show (_ : Bool) = _; decide +kernel)
    | rfl

theorem witness_SequenceLife_completions :
    (let s := w (seqDev [(0, savedIn .parking)])
     Awake s ∧ mget (s.at 0).kvs.seqs 0 = some (savedIn .parking) ∧ movesOf (s.at 0) 0 .park = []
      ∧ homeOf (s.at 0) (.pendingArea 0) = some (.t2 ext0) ∧ homeOf (s.at 0) (.tables 0) = some (.t2 ext0))
    ∧ (let s := w (seqDev [(0, savedIn .resuming)])
     Awake s ∧ mget (s.at 0).kvs.seqs 0 = some (savedIn .resuming) ∧ openInT2 (s.at 0) (savedIn .resuming) = []
      ∧ stagingFits (s.at 0) 0 = true)
    ∧ (let s := w (seqDev [(0, savedIn .closing)])
     Awake s ∧ mget (s.at 0).kvs.seqs 0 = some (savedIn .closing) ∧ (savedIn .closing).seat = none
      ∧ (savedIn .closing).pendingExtent.isSome = true ∧ (savedIn .closing).ptExtent.isSome = true)
    ∧ (let h : Held := ⟨.append 0 rqA (append0 16 0), ms 10000 - us 200⟩
     let s := w (seqDev [(0, { seq0 with held := [h] })])
     Awake s ∧ (s.at 0).kvs.seatWaits = [] ∧ h.limited = true ∧ past h.since (us 200) (s.at 0).now = true)
    ∧ (let x : SeatWait := ⟨4, .seqAdminOpen 0 rqA 3 1 0 5, ms 9995, some 0⟩
     let s := w fun d => { seqDev [(0, seq0)] d with kvs.seatWaits := [x] }
     Awake s ∧ (s.at 0).kvs.seatWaits = [x] ∧ x.victim = some 0 ∧ past x.since (ms 5) (s.at 0).now = true) := by
  repeat' apply And.intro
  all_goals first
    | decide +kernel
    | (show (_ : Bool) = _; decide +kernel)
    | rfl

/-- A sealed page of sequence 0 at a T1 address. -/
def page0 : Page :=
  { owner := some 0, layer := 0, index := 0, nodeGen := 0, plEntry := 0, state := .sealed, home := .t1 4096, kvHeads := 2, headDim := 64,
    format := .bf16, toks := [], refs := 1, retireFrame := 0, tenant := 3, model := 1, mirror := .m0, mirrored := false }

/-- A LIVE node of scope 5 under key 5, in slot 20, with a page for each layer. -/
def node0 : Node :=
  { key := 5, parent := 0, tokens := List.replicate 16 7, depth := 1, refCount := 0, gen := 2, lastHit := 0, plist := 0, scope := 5, model := 1,
    format := .bf16, mirror := .m0, inArray := false, state := .live, saltEpoch := 0, layers := 2, children := 0, pages := [0, 1] }

def empty0 : Machine.Seq := { seq0 with length := 0, maxLen := 0, openTable := [⟨0, 0, false, none⟩, ⟨0, 0, false, none⟩] }

/-- The prefix store with that node and an empty sequence. -/
def nodeDev (d : Dev) : Dev :=
  { seqDev [(0, empty0)] d with
    pfx.dir := [(20, node0)]
    kvs.pages := [(0, page0), (1, { page0 with layer := 1 })]
    tt.frame := 1024
    regs := [(Reg.pfxBankCfg, 2)] }

def lookup0 (scope : Nat) : LookupMsg :=
  { handle := 0, scope, model := 1, attach := false, startFrom := false, format := 0, reservedFlags := 0, startKey := 0, startGen := 0,
    startDepth := 0, count := 16, tokens := List.replicate 16 7 }

def attach0 : AttachMsg := { handle := 0, depth := 1, nodeKey := 5, nodeGen := 2, scope := 0xFFFF }

theorem witness_PrefixLookups :
    (let s := w nodeDev
     let shut := w fun d => { nodeDev d with pfx.scopes := [(5, Scope.unused)] }
     Serves s 0 ∧ lookupCheck (upsetRows [] (s.at 0)) rqA (lookup0 6) ≠ St.ok
      ∧ lookupCheck (upsetRows [⟨0, 0, 1⟩] (s.at 0)) rqA (lookup0 5) = St.ok
      ∧ ((upsetRows [] (s.at 0)).scope 5).share = true ∧ (lookup0 5).attach = false
      ∧ Serves shut 0 ∧ lookupCheck (upsetRows [] (shut.at 0)) rqA (lookup0 5) = St.ok
      ∧ ((upsetRows [] (shut.at 0)).scope 5).share = false)
    ∧ (let s := w nodeDev
     Serves s 0 ∧ Alone s 0 ∧ namedScope (s.at 0) (actingTenant (s.at 0) rqA 0) 0xFFFF = 5 ∧ isMember (s.at 0) 3 5 = true
      ∧ attachSeqCheck (s.at 0) rqA 3 0 5 = (St.ok, 0) ∧ namedNode (s.at 0) attach0 5 = some (20, node0)
      ∧ mget (s.at 0).kvs.seqs 0 = some empty0 ∧ node0.model = empty0.model ∧ node0.format = empty0.format ∧ empty0.state = .seated
      ∧ empty0.held = [] ∧ returning (s.at 0) 0 = false) := by
  repeat' apply And.intro
  all_goals first
    | decide +kernel
    | (show (_ : Bool) = _; decide +kernel)
    | rfl

theorem witness_PrefixTimersAndPins_timers :
    (let s := w nodeDev
     Serves s 0 ∧ (s.at 0).par.state ≠ .isolated ∧ mget (s.at 0).pfx.dir 20 = some node0 ∧ node0.unreferenced = true
      ∧ ((s.at 0).scope 5).retainK ≠ 0xFFFF ∧ ((s.at 0).tt.frame - node0.lastHit).toNat < 2 ^ 31
      ∧ 1024 * ((s.at 0).scope 5).retainK ≤ ((s.at 0).tt.frame - node0.lastHit).toNat)
    ∧ (let ins : ArrInsert := ⟨0, ⟨entryUnits ((nodeDev dev0).scope 5) 20 node0, 20⟩, true⟩
     let s := w fun d => { nodeDev d with pfx.inserts := [ins] }
     Awake s ∧ (s.at 0).pfx.inserts = [ins] ∧ mget (s.at 0).pfx.dir ins.entry.slot = some node0 ∧ node0.state = .live
      ∧ entryUnits ((s.at 0).scope 5) ins.entry.slot node0 = ins.entry.units
      ∧ leastFrom (fun p => !mhas (s.at 0).pfx.arr (8192 * 0 + p)) 0 (bankEntries (s.at 0) 0) = some 0 ∧ 0 < bankEntries (s.at 0) 0) := by
  repeat' apply And.intro
  all_goals first
    | decide +kernel
    | (show (_ : Bool) = _; decide +kernel)
    | rfl

theorem witness_SweepRepairs : Awake (w nodeDev) ∧ ((w nodeDev).at 0).pfx.arr = ((w nodeDev).at 0).pfx.shadow := ⟨rfl, rfl⟩

theorem witness_PrefixTimersAndPins_pins :
    (let h : PinHold := ⟨8, 0, .t1 4096⟩
     let s := w fun d => { nodeDev d with pfx.pinOps := [h], pfx.pins := [(0, 2)] }
     Awake s ∧ ((s.at 0).pfx.pinOps.find? fun h => decide (h.op = 8) && decide (h.page = 0)) = some h ∧ 1 < pinCount (s.at 0) 0)
    ∧ (let x : PinWait := ⟨8, 0, ms 9999⟩
     let s := w fun d => { nodeDev d with pfx.pinWaits := [x] }
     Awake s ∧ (s.at 0).pfx.pinWaits = [x] ∧ mget (s.at 0).kvs.pages 0 = some page0 ∧ pinRefused (s.at 0) page0 = false
      ∧ grantsHeld (s.at 0) 0 = false ∧ pinRoom (s.at 0) 0 = true ∧ x ∈ (s.at 0).pfx.pinWaits ∧ 8 % 2 = 0
      ∧ past x.since (ms 1) (s.at 0).now = true)
    ∧ (let pg : Page := { page0 with state := .retiring, retireFrame := 1022 }
     let s := w fun d => { nodeDev d with kvs.pages := [(0, pg)] }
     Awake s ∧ mget (s.at 0).kvs.pages 0 = some pg ∧ pg.owner = some 0 ∧ pinCount (s.at 0) 0 = 0
      ∧ serialLe (pg.retireFrame + 2) (s.at 0).tt.frame = true ∧ (s.at 0).ras.reclaimHalted = false) := by
  repeat' apply And.intro
  all_goals first
    | decide +kernel
    | (show (_ : Bool) = _; decide +kernel)
    | rfl

/-- One row of model 1 on stream 32, over the sequence with handle 0. -/
def attend0 : AttendMsg :=
  { stream := 32, model := 1, qFormat := 0, outFormat := 0, outMode := 0, layer := 0, kvhFirst := 0, kvhCount := 2, flags := 0, window := 0,
    scale := 0x3F800000, softcap := 0, segCount := 1, sinkTokens := 0, rowCount := 1, statsVa := 0, bodyLen := 704,
    segs := [⟨0, 16⟩], rows := [⟨15, 0⟩], query := List.replicate 256 0x3F80 }

def due0 : SlotRef := ⟨9, 1, ms 10000 - ns 3000⟩

def view0 : SegView :=
  { handle := 0, status := St.ok, format := .bf16, known := true, keyEnd := 32, widened := false, emptyRows := false,
    pages := [⟨0, 0, [], .resident⟩, ⟨1, 1, [], .resident⟩] }

def slice0 : Slice :=
  { g := 0, seg := 0, kvHead := 0, index := 0, nSlices := 2, ords := [0, 1], core := 0, queued := true, next := 0, states := [], done := false }

def request0 : Request :=
  { rq := rqA, port := 0, msg := attend0, arrived := 0, timing := St.ok, refusal := St.ok, declared := due0, due := due0, named := none,
    lateCount := 0, delays := [], run := [], charged := 0, tenant := 3, resStream := 33, maxRows := 16, segs := [], follow := none,
    inFollowup := false, firstPart := [], slices := [], tree := [], finished := [] }

/-- A device with that request in its table, changed by `f`. -/
def withReq (f : Request → Request) : State :=
  w fun d => { seqDev [(0, seq0)] d with
    att.reqs := [(0, f request0)]
    att.lmap := [(0, 5)]
    att.pcores := [(5, { state := .active, lcore := 0, mismatches := 0, lastMismatch := none })] }

theorem witness_AttendAndResults :
    (let s := seqIn .seated
     Serves s 0 ∧ streamOnPort (s.at 0) 32 1 .attend = false ∧ streamOnPort (s.at 0) 32 0 .attend = true ∧ tenantOf (s.at 0) rqA = some 3
      ∧ attendCheck (s.at 0) 3 { attend0 with model := 2 } ≠ St.ok ∧ attendCheck (s.at 0) 3 { attend0 with model := 2 } ≠ St.iatVariantAbsent
      ∧ (placeOf (count Reg.attRefuseCount { s.at 0 with att.refused := true }) 32 (s.at 0).now).isSome = true
      ∧ attendCheck (s.at 0) 3 attend0 = St.ok ∧ (placeOf (s.at 0) 32 (s.at 0).now).isSome = true ∧ descOf (s.at 0) 1 = some model0)
    ∧ (let s := withReq fun r => { r with refusal := St.attRange }
     Serves s 0 ∧ (s.at 0).att.reqs = [(0, { request0 with refusal := St.attRange })] ∧ due0.frame = (s.at 0).tt.frame ∧ due0.slot = 1
      ∧ serialLe due0.start (s.at 0).now = true ∧ St.attRange ≠ St.ok)
    ∧ (let s := withReq id
     Serves s 0 ∧ (s.at 0).att.reqs = [(0, request0)] ∧ request0.refusal = St.ok ∧ lateBy request0 = none ∧ allFinished request0 = true)
    ∧ (let r := { request0 with segs := [view0] }
     let s := withReq fun _ => r
     Serves s 0 ∧ (s.at 0).att.reqs = [(0, r)] ∧ r.due.frame = (s.at 0).tt.frame ∧ serialLe r.due.start (s.at 0).now = true
      ∧ r.refusal = St.ok ∧ lateBy r = none ∧ allFinished r = false ∧ latestDelay r.delays = none ∧ runningRead (s.at 0) r = none
      ∧ awaitsT2 (s.at 0) r = false) := by
  repeat' apply And.intro
  all_goals first
    | decide +kernel
    | (show (_ : Bool) = _; decide +kernel)
    | rfl

theorem witness_CoreWork :
    (let r := { request0 with segs := [view0], slices := [slice0] }
     let s := withReq fun _ => r
     Awake s ∧ mget (s.at 0).att.reqs 0 = some r ∧ (r.slices.find? fun y => decide (y.g = 0)) = some slice0 ∧ slice0.done = false
      ∧ slice0.queued = true ∧ notRunning (s.at 0) slice0.core = false ∧ (tileCtx (s.at 0) r slice0.seg).map (·.2) = some view0
      ∧ slice0.ords[slice0.next]? = some 0 ∧ (partPages view0 r.inFollowup)[0]? = some ⟨0, 0, [], .resident⟩
      ∧ slice0.next + 1 < slice0.ords.length ∧ standInCore (s.at 0) slice0.core = some 0 ∧ mget (s.at 0).att.lmap 0 = some 5
      ∧ mget (s.at 0).att.pcores 5 = some { state := .active, lcore := 0, mismatches := 0, lastMismatch := none })
    ∧ (let r := { request0 with segs := [view0], slices := [slice0], tree := [⟨0, 0, 0, 0, 0, []⟩, ⟨0, 0, 0, 1, 0, []⟩] }
     let s := withReq fun _ => r
     Awake s ∧ mget (s.at 0).att.reqs 0 = some r ∧ treeNode r 0 0 0 (2 * 0) = some ⟨0, 0, 0, 0, 0, []⟩
      ∧ treeNode r 0 0 0 (2 * 0 + 1) = some ⟨0, 0, 0, 1, 0, []⟩
      ∧ (r.slices.find? fun x => decide (x.seg = 0) && decide (x.kvHead = 0)) = some slice0 ∧ notRunning (s.at 0) 0 = false)
    ∧ (let k : Takeover := ⟨3, 33, ms 10000 - us 20⟩
     let s := w fun d => { d with att.takeovers := [k] }
     Awake s ∧ (s.at 0).att.takeovers = [k] ∧ k.lcore = 3 ∧ past k.since (us 20) (s.at 0).now = true) := by
  repeat' apply And.intro
  all_goals first
    | decide +kernel
    | (show (_ : Bool) = _; decide +kernel)
    | rfl

theorem witness_ModelChanges :
    (let s := w (seqDev [])
     Admits s 0 .mctp true ∧ Alone s 0 ∧ mget (s.at 0).att.models 2 = none ∧ geometryFault { model0 with model := 2 } = none
      ∧ mget (s.at 0).att.models 1 = some { desc := model0, state := .active, granted := 8, borrowed := 0 }
      ∧ hasSequences (s.at 0) 1 = false ∧ hasSequences ((seqIn .seated).at 0) 1 = true)
    ∧ (let m : Model := { desc := model0, state := .unloading, granted := 8, borrowed := 0 }
     let s := w fun d => { d with att.models := [(1, m)] }
     Awake s ∧ mget (s.at 0).att.models 1 = some m ∧ m.state = .unloading ∧ hasRequests (s.at 0) 1 = false) := by
  repeat' apply And.intro
  all_goals first
    | decide +kernel
    | (show (_ : Bool) = _; decide +kernel)
    | rfl

def move0 (st : MoveState) (kind : MoveKind) : Move :=
  { id := 6, datum := .page 0, kind, state := st, needBy := 0, order := 0, dest := some (.t1 8192), drainWait := none, grantHold := none }

/-- A device with one move and one page. -/
def moving (m : Move) (pg : Page) (f : Dev → Dev) : State :=
  w fun d => f { seqDev [(0, seq0)] d with
    tir.moves := [m]
    kvs.pages := [(0, pg)] }

theorem witness_MovesRun :
    (let m := move0 .queued .abortReturn
     let s := moving m { page0 with state := .opened } fun d => { d with pfx.pinOps := [⟨moveOp 6, 0, .t1 4096⟩] }
     Awake s ∧ (s.at 0).tir.moves = [m] ∧ m.id = 6 ∧ m.state = .queued ∧ m.kind ≠ .relocation ∧ mayStart (s.at 0) m = true
      ∧ sourcePinned (s.at 0) m = true ∧ (destination m (s.at 0)).isSome = true)
    ∧ (let m := move0 .copying .promotion
     let s := moving m page0 id
     Awake s ∧ (s.at 0).tir.moves = [m] ∧ m.state = .copying ∧ m.dest = some (.t1 8192)
      ∧ ((s.at 0).fls.reads.any fun r => decide (r.move = some m.id)) = false ∧ destGood (s.at 0) m (.t1 8192) = true ∧ m.drainWait = none
      ∧ (s.at 0).tir.drains.length < drainEntries)
    ∧ (let m := { move0 .switching .demotion with grantHold := some (ms 10000 - us 1) }
     let s := moving m page0 id
     Awake s ∧ (s.at 0).tir.moves = [m] ∧ m.state = .switching ∧ m.kind = .demotion
      ∧ past (ms 10000 - us 1) (us 1) (s.at 0).now = true)
    ∧ (let e : Drain := ⟨.page 0, .t1 4096, 0, 7⟩
     let s := w fun d => { ttOn d with tir.drains := [e] }
     Awake s ∧ (s.at 0).tir.drains = [e] ∧ e.count = 0 ∧ serialLe (e.frame + 2) (s.at 0).tt.frame = true
      ∧ (s.at 0).ras.reclaimHalted = false ∧ (s.at 0).tir.moves = [])
    ∧ (let m := move0 .queued .promotion
     let s := moving m page0 fun d => { d with tir.allocWaits := [⟨6, 0⟩] }
     Awake s ∧ (s.at 0).tir.moves = [m] ∧ m.kind ≠ .refetch ∧ ((s.at 0).tir.allocWaits.any fun x => decide (x.move = 6)) = true) := by
  repeat' apply And.intro
  all_goals first
    | decide +kernel
    | (show (_ : Bool) = _; decide +kernel)
    | rfl

theorem witness_MoveLimits :
    (let m := { move0 .copying .promotion with drainWait := some (ms 9999) }
     let s := moving m page0 id
     Awake s ∧ (s.at 0).tir.moves = [m] ∧ m.drainWait = some (ms 9999) ∧ m.dest = some (.t1 8192)
      ∧ past (ms 9999) (ms 1) (s.at 0).now = true)
    ∧ (let m := move0 .queued .promotion
     let s := moving m page0 fun d => { d with tir.allocWaits := [⟨6, ms 9999⟩] }
     Awake s ∧ (s.at 0).tir.moves = [m] ∧ (s.at 0).tir.allocWaits = [⟨6, ms 9999⟩] ∧ m.kind = .promotion
      ∧ past (ms 9999) (ms 1) (s.at 0).now = true)
    ∧ (let s := w fun d => { d with tt.frame := 1024 }
     Awake s ∧ 1024 ≤ ((s.at 0).tt.frame - (s.at 0).tir.heatFrame).toNat)
    ∧ (let s := w fun d => { seqDev [(0, seq0)] d with tir.refetches := [⟨.page 0, ms 9998⟩], kvs.pages := [(0, page0)] }
     let d1 := pushMove (.page 0) .refetch 0 (cancelMoves (.page 0) (endRefetch (.page 0) (s.at 0)))
     Awake s ∧ refetchSince (s.at 0) (.page 0) = some (ms 9998) ∧ (moveOf d1 (.page 0)).isSome = true
      ∧ past (ms 9998) (ms 2) (s.at 0).now = true) := by
  repeat' apply And.intro
  all_goals first
    | decide +kernel
    | (show (_ : Bool) = _; decide +kernel)
    | rfl

theorem witness_Promotions :
    let s := seqIn .seated
    let m : PromoteMsg := ⟨0, 1, 1, 65535, 1, 0, false, 0⟩
    let d := modSeq 0 (fun q => { q with lastFrame := (s.at 0).tt.frame }) (s.at 0)
    Serves s 0 ∧ checkSeq (s.at 0) rqA (actingTenant (s.at 0) rqA m.handle) m.handle true = (St.ok, 0)
      ∧ mget (s.at 0).kvs.seqs 0 = some seq0 ∧ seq0.state = .seated ∧ seq0.held = [] ∧ returning (s.at 0) 0 = false
      ∧ promoteRangeOk seq0 m = true ∧ m.cancel = false ∧ promoteRangeOk seq0 { m with cancel := true } = true
      ∧ ((promoteRange seq0 m).foldl (fun x p => promoteOne m.needBy p x) (⟨0, 0, 0, (s.at 0).now, false⟩, d)).1.full = false := by
  repeat' apply And.intro
  all_goals first
    | decide +kernel
    | (show (_ : Bool) = _; decide +kernel)
    | rfl

def obj0 (st : ObjState) : Obj :=
  { tenant := 3, state := st, mirror := .m0, elem := 2, resident := false, stats := false, size := 8192, mapBase := 0, version := 0,
    readers := 0, lostBlocks := 0, blocks := [(0, .t1 8192)], mirrored := [] }

def region0 (kind : Nat) : Region :=
  { tenant := 3, kind, tenantOnly := false, cold := false, owner := 0, currentSlot := none, size := 2097152, current := 0, mapBase := 0,
    versions := [], poison := [], coldGranules := [] }

def objDev (st : ObjState) : State :=
  w fun d => { seqDev [(0, seq0)] d with tir.objs := [(4, obj0 st)], cxl.regions := [(9, region0 2)] }

def objReq : ObjAdmin := ⟨0, 0x2A, 3, 4, 4096, 4096, 9, 511⟩

theorem witness_WeightObjects :
    (Admits (objDev .opened) 0 rqA false ∧ Alone (objDev .opened) 0 ∧ tenantOk ((objDev .opened).at 0) rqA objReq.tenant = true
      ∧ createRange objReq = true ∧ objCheck ((objDev .opened).at 0) rqA 3 4 true = St.ok
      ∧ mget ((objDev .opened).at 0).tir.objs 4 = some (obj0 .opened) ∧ (obj0 .opened).state = .opened
      ∧ objCheck ((objDev .opened).at 0) rqA 3 4 false = St.ok ∧ ((objDev .opened).at 0).par.state ≠ .isolated
      ∧ mget ((objDev .opened).at 0).cxl.regions 9 = some (region0 2) ∧ (region0 2).kind = 2 ∧ objReq.size ≠ 0
      ∧ objReq.offset + objReq.size ≤ (obj0 .opened).size ∧ 4096 * objReq.regionOffset + objReq.size ≤ (region0 2).size
      ∧ (region0 2).tenant = objReq.tenant ∧ poisonedRange (region0 2) 0 (4096 * objReq.regionOffset) objReq.size = false)
    ∧ (mget ((objDev .sealed).at 0).tir.objs 4 = some (obj0 .sealed) ∧ (obj0 .sealed).state ≠ .opened
      ∧ objCheck ((objDev .sealed).at 0) rqA 3 4 true = St.ok)
    ∧ (Awake (objDev .deleting) ∧ mget ((objDev .deleting).at 0).tir.objs 4 = some (obj0 .deleting)
      ∧ (obj0 .deleting).state = .deleting ∧ (obj0 .deleting).readers = 0) := by
  repeat' apply And.intro
  all_goals first
    | decide +kernel
    | (show (_ : Bool) = _; decide +kernel)
    | rfl

def wstream0 : WStreamMsg :=
  { stream := 34, itemCount := 1, flags := 0, startTime := 0, destChannel := 300, bodyLen := 96,
    items := [⟨0, 0, 0, 4, 0, 4096, 0, ⟨0, 0, 0, 0, 0, 0, 0, 0, 0, 0⟩⟩] }

def wlist0 (skip : Nat) : WList := { rq := rqA, port := 0, msg := wstream0, tenant := 3, item := 0, sent := 0, skip, lateCount := 0 }

theorem witness_WeightStreams :
    (let s := objDev .sealed
     Serves s 0 ∧ tenantOf (s.at 0) rqA = some 3 ∧ (s.at 0).tt.absentService = false ∧ wstreamCheck (s.at 0) 3 0 wstream0 = St.ok
      ∧ (firstListSlot (s.at 0) wstream0).isSome = true)
    ∧ (let s := w fun d => { d with tt.absentService := true }
     Serves s 0 ∧ (s.at 0).tt.absentService = true)
    ∧ (let s (k : Nat) := w fun d => { ttOn d with tir.lists := [(34, wlist0 k)] }
     Serves (s 1) 0 ∧ Serves (s 0) 0 ∧ ((s 1).at 0).frameRef 0 = some ⟨9, ms 10000 - ns 5000, [slot0, slot1, slot2]⟩
      ∧ ([slot0, slot1, slot2].find? fun e => decide (e.slot = 2) && decide (e.cls = .wstream)) = some slot2
      ∧ mget ((s 1).at 0).tir.lists slot2.stream = some (wlist0 1) ∧ mget ((s 0).at 0).tir.lists slot2.stream = some (wlist0 0)
      ∧ serialLt (slotStart (ms 10000 - ns 5000) slot2) wstream0.startTime = false
      ∧ serialLe (slotStart (ms 10000 - ns 5000) slot2) ((s 0).at 0).now = true) := by
  repeat' apply And.intro
  all_goals first
    | decide +kernel
    | (show (_ : Bool) = _; decide +kernel)
    | rfl

def ladder (good : Bool) : Ladder := { retryLevels := 0, rebuilt := false, good, codeword := 0 }

/-- A flash of one die a channel, with a page in T2 at unit 5 of band 0 of group 0 and a read of it. -/
def reading (projection : Time) : State :=
  w fun d => { seqDev [(0, seq0)] d with
    kvs.pages := [(0, { page0 with home := .t2 ⟨5, 1, 0⟩ })]
    fls.diesPerChannel := 1
    fls.planes := 4
    fls.pagesPerBlock := 512
    fls.blocksPerPlane := 1000
    fls.groups := 4
    fls.dies := [(0, { state := .active, timeouts := 1 })]
    fls.reads := [⟨2, 5, 1, none, .page 0, projection, 1⟩] }

def bandDev (b : Band) (f : Dev → Dev) : State :=
  w fun d => f { d with
    fls.diesPerChannel := 1
    fls.planes := 4
    fls.pagesPerBlock := 512
    fls.blocksPerPlane := 1000
    fls.groups := 4
    fls.bands := [(bandKey 1 7, b)] }

theorem witness_FlashOperations :
    (let s := reading (ms 10000)
     let late := reading (ms 9999)
     let after (s : State) (l : Ladder) := countReads 5 1 (countLadder l (dieAnswers (dieOfUnit 5) { s.at 0 with fls.reads := [] }))
     Awake s ∧ (s.at 0).fls.reads = [⟨2, 5, 1, none, .page 0, ms 10000, 1⟩] ∧ (ladder true).good = true
      ∧ serialLt (ms 10000) (noteRebuild 5 (ladder true) (after s (ladder true))).now = false
      ∧ Awake late ∧ serialLt (ms 9999) (noteRebuild 5 (ladder true) (after late (ladder true))).now = true
      ∧ (ladder false).good = false ∧ namesUnit (uncorrectableAt 5 (after s (ladder false))) (.page 0) 5 = true
      ∧ mget (s.at 0).fls.dies (16 * 0 + 0) = some { state := .active, timeouts := 1 } ∧ 1 < 2 ∧ 1 + 1 < 3)
    ∧ (let s := bandDev { Band.fresh with state := .opened, writePoint := 60 } id
     Awake s ∧ programBand (s.at 0) 1 false = some (bandKey 1 7))
    ∧ (let last := bandDev { Band.fresh with state := .erasing, eraseLeft := [15] } id
     let more := bandDev { Band.fresh with state := .erasing, eraseLeft := [0, 15] } id
     let after (s : State) := modBand (bandKey 1 7) (fun x => { x with eraseLeft := x.eraseLeft.filter fun y => !decide (y = 15) })
       (dieAnswers (dieAt 1 15) (s.at 0))
     Awake last ∧ ((last.at 0).band (bandKey 1 7)).state = .erasing
      ∧ ((last.at 0).band (bandKey 1 7)).eraseLeft.contains 15 = true ∧ ((after last).band (bandKey 1 7)).eraseLeft = []
      ∧ Awake more ∧ ((more.at 0).band (bandKey 1 7)).eraseLeft.contains 15 = true
      ∧ ((after more).band (bandKey 1 7)).eraseLeft ≠ []) := by
  repeat' apply And.intro
  all_goals first
    | decide +kernel
    | (show (_ : Bool) = _; decide +kernel)
    | rfl

theorem witness_FlashBackground :
    (let s := bandDev { Band.fresh with state := .opened, writePoint := 1 } fun d => { d with fls.writers := [(1, ⟨bandKey 1 7, some (ms 10000 - us 50)⟩)] }
     Awake s ∧ (s.at 0).writer 1 false = some ⟨bandKey 1 7, some (ms 10000 - us 50)⟩ ∧ past (ms 10000 - us 50) (us 50) (s.at 0).now = true
      ∧ ((s.at 0).band (bandKey 1 7)).writePoint % 60 ≠ 0
      ∧ extentFits (s.at 0) ((s.at 0).band (bandKey 1 7)) (60 - ((s.at 0).band (bandKey 1 7)).writePoint % 60) = true)
    ∧ (let s := bandDev { Band.fresh with state := .closed, writePoint := 60 } id
     let u := 1048576 * bandKey 1 7 + 59
     Awake s ∧ ((s.at 0).band (bandOfUnit u)).state = .closed ∧ unitInBand u < ((s.at 0).band (bandOfUnit u)).writePoint
      ∧ (ladder true).good = true ∧ (ladder true).rebuilt = false ∧ (ladder true).retryLevels = 0)
    ∧ (let s := w fun d => { ttOn d with regs := [(Reg.flsConfig, fieldAt 31 22 1)] }
     Awake s ∧ (s.at 0).tt.started = true ∧ past (s.at 0).fls.ckptAt (ms (100 * (s.at 0).ckptQ)) (s.at 0).now = true
      ∧ (s.at 0).now ≠ (s.at 0).tt.frameStart ∧ (s.at 0).fls.ckpt = none
      ∧ ((w fun d => { ttOn d with tt.frameStart := ms 10000 }).at 0).now
        = ((w fun d => { ttOn d with tt.frameStart := ms 10000 }).at 0).tt.frameStart) := by
  repeat' apply And.intro
  all_goals first
    | decide +kernel
    | (show (_ : Bool) = _; decide +kernel)
    | rfl

theorem witness_Supervision :
    (Awake (w id) ∧ ((w id).at 0).ras.retired.contains (frameOf 0x3FFFFFF000) = false
      ∧ ((w id).at 0).ras.lostChannels.contains (lostKey (frameOf 0x3FFFFFF000)) = false
      ∧ past ((w id).at 0).ras.scrubAt (ms 86400000) ((w id).at 0).now = false
      ∧ (count Reg.rasHandshakeCount ((w id).at 0)).ras.expired = []
      ∧ (count Reg.rasHandshakeCount ((w fun d => { d with ras.expired := [.link 12] }).at 0)).ras.expired = [.link 12])
    ∧ (((((w id).at 0).ras.resetTimes.filter fun x => !past x (ms 1000) ((w id).at 0).now)).length < 2
      ∧ (let s := w fun d => { d with ras.resetTimes := [ms 9001, ms 9999] }
       Awake s ∧ 2 ≤ ((s.at 0).ras.resetTimes.filter fun x => !past x (ms 1000) (s.at 0).now).length))
    ∧ (let s := w fun d => { d with ras.lastLive := ms 10000 - us 40, ras.running := [3] }
     Awake s ∧ (s.at 0).cfg.phase = .run ∧ past (s.at 0).ras.lastLive (us 40) (s.at 0).now = true ∧ (s.at 0).ras.selfFenced = false
      ∧ (s.at 0).ras.running.contains 3 = true) := by
  repeat' apply And.intro
  all_goals first
    | decide +kernel
    | (show (_ : Bool) = _; decide +kernel)
    | rfl

/-- Device 34 of a torus of 2 by 2 positions, port `p` as given. -/
def portIn (p : Nat) (f : Port → Port) : State :=
  w fun d => modPort p f { d with
    par.deviceId := 34
    par.partnerId := 35
    par.dimX := 2
    par.dimY := 2
    auv.epoch := some 1 }

def partner0 : LinkIdentity := ⟨0, 0, true, 0, 0⟩

theorem witness_PortTraining :
    (let s := portIn 3 id
     Awake s ∧ ((s.at 0).port 3).state = .down ∧ portEnabled (s.at 0) 3 = true ∧ ((s.at 0).port 3).backoff = false
      ∧ staysDown (s.at 0) 3 = false ∧ past ((s.at 0).port 3).trainedAt (ms 1000) (s.at 0).now = true ∧ ((s.at 0).port 3).slept = false)
    ∧ (let s := portIn 3 fun q => { q with state := .training, trainedAt := ms 9800, retained := true }
     Awake s ∧ ((s.at 0).port 3).state = .training ∧ identityOk (s.at 0) 3 ⟨9, 3, false, 0, 0⟩ = false
      ∧ identityOk (s.at 0) 3 partner0 = true ∧ (usableLanes (s.at 0) 3 (List.range 16) []).length = portLanes 3 ∧ portLanes 3 ≠ 0
      ∧ (usableLanes (s.at 0) 3 (List.range 15) []).length < portLanes 3
      ∧ portLanes 3 ≤ 2 * (usableLanes (s.at 0) 3 (List.range 8) []).length
      ∧ (usableLanes (s.at 0) 3 (List.range 8) []).length < portLanes 3
      ∧ 2 * (usableLanes (s.at 0) 3 (List.range 7) []).length < portLanes 3
      ∧ past ((s.at 0).port 3).trainedAt (ms 200) (s.at 0).now = true ∧ ((s.at 0).port 3).retained = true
      ∧ past ((s.at 0).port 3).trainedAt (us 10) (s.at 0).now = true) := by
  repeat' apply And.intro
  all_goals first
    | decide +kernel
    | (show (_ : Bool) = _; decide +kernel)
    | rfl

theorem witness_PortLife :
    (let s := portIn 3 fun q => { q with state := .up, retrainTimes := [ms 1] }
     Awake s ∧ 16 ≤ 16 ∧ 16 < 17 ∧ (s.at 0).linkUp 3 = true ∧ ((s.at 0).port 3).state ≠ .failed
      ∧ (((s.at 0).port 3).retrainTimes.filter fun x => !past x (ms 10000) (s.at 0).now).length < 2)
    ∧ (let s := portIn 3 fun q => { q with state := .degraded, retrainTimes := [ms 5, ms 9] }
     Awake s ∧ (s.at 0).linkUp 3 = true ∧ 2 ≤ (((s.at 0).port 3).retrainTimes.filter fun x => !past x (ms 10000) (s.at 0).now).length)
    ∧ (let s := portIn 3 fun q => { q with state := .failed }
     Awake s ∧ ((s.at 0).port 3).state = .failed)
    ∧ (let s := portIn 3 fun q => { q with backoff := true }
     Awake s ∧ ((s.at 0).port 3).backoff = true ∧ past ((s.at 0).port 3).trainedAt (ms 10000) (s.at 0).now = true)
    ∧ (let s := w fun d => modDomain 90 (fun q => { q with state := .ret }) d
     Awake s ∧ ((s.at 0).domain (87 + 3)).state ≠ .on ∧ (s.at 0).linkUp 3 = false)
    ∧ (let s := portIn 3 id
     ((s.at 0).domain (87 + 3)).state = .on ∧ ((s.at 0).port 3).state = .down ∧ portEnabled (s.at 0) 3 = true
      ∧ ((s.at 0).port 3).backoff = false ∧ staysDown (s.at 0) 3 = false) := by
  repeat' apply And.intro
  all_goals first
    | decide +kernel
    | (show (_ : Bool) = _; decide +kernel)
    | rfl

/-- A packet of device 64's endpoint 1 for the service endpoint of device `d`. -/
def packet0 (d : Nat) (psn : BitVec 24) : Packet :=
  { dst := 128 * d + 1, src := 128 * 64 + 1, opcode := 0x01, tc := 3, cmplReq := false, resend := false, tenant := 3, channel := 300, psn,
    pathId := 0, csn := 0, msgId := 1, fragIndex := 0, fragCount := 1, length := 4, epoch := 7, addr := 0, opWord := 0, headerOk := true,
    payloadOk := true, payload := [1, 2, 3, 4], body := .write }

def heard (e : Option (BitVec 8)) : State :=
  let s := portIn 8 fun q => { q with state := .up }
  ⟨[], modPath 64 (fun ps => { ps with peerEpoch := e, cum := 5 }) s.dev⟩

theorem witness_PacketArrivals :
    (let s := portIn 8 id
     Awake s ∧ (s.at 0).linkUp 8 = false)
    ∧ (let s := heard (some 7)
     let p := portIn 2 fun q => { q with state := .up }
     Awake s ∧ (s.at 0).linkUp 8 = true ∧ ((s.at 0).port 8).rxDropped.length ≠ 32
      ∧ headerWhole { packet0 34 5 with headerOk := false } = false ∧ headerWhole (packet0 34 5) = true ∧ opcodeKnown 0x01 = true
      ∧ (freeRoom 8 (packet0 66 5) (s.at 0)).isMine (endpointDevice (packet0 66 5).dst) = false
      ∧ (freeRoom 8 (packet0 34 5) (s.at 0)).isMine (endpointDevice (packet0 34 5).dst) = true ∧ sequenced 0x01 = true
      ∧ Awake p ∧ (p.at 0).linkUp 2 = true ∧ sourceOk (freeRoom 2 (packet0 34 5) (p.at 0)) 2 (packet0 34 5) = false)
    ∧ (let d := freeRoom 8 (packet0 34 5) ((heard (some 7)).at 0)
     rxPeer d 8 (packet0 34 5).src (packet0 34 5).dst = 64
      ∧ checkPsn (freeRoom 8 (packet0 34 5) ((heard none).at 0)) 64 (packet0 34 5) = .reinit ∧ checkPsn d 64 (packet0 34 4) = .duplicate
      ∧ checkPsn d 64 (packet0 34 4101) = .beyond ∧ checkPsn d 64 (packet0 34 4100) = .fresh ∧ checkPsn d 64 (packet0 34 5) = .fresh
      ∧ endpointNumber (packet0 34 5).dst < 64) := by
  repeat' apply And.intro
  all_goals first
    | decide +kernel
    | (show (_ : Bool) = _; decide +kernel)
    | rfl

def chan0 : Chan :=
  { tenant := 3, kind := 0, privileged := false, access := 7, tcMask := 0xFF, peer := 0x440, nextCsn := 0, completions := 0, done := [], target := 0,
    waiting := none, aborting := false, cached := true }

/-- Channel 300 of tenant 3 as given, over 8 KiB of object 4. -/
def chanDev (c : Chan) (f : Dev → Dev) : State :=
  let s := objDev .opened
  ⟨[], f { s.dev with
    auv.chans := [(300, c)]
    auv.ranges := [(0, { base := BitVec.ofNat 64 (objVa 4 0), len4k := 2, tenant := 3, access := 7 })] }⟩

def wait0 : WaitMsg := ⟨300, 1, 0, true⟩

theorem witness_ChannelMessages :
    (let s := chanDev chan0 id
     Serves s 0 ∧ 256 ≤ hdr0.channel ∧ mget (s.at 0).auv.chans (chanKey hdr0) = some chan0 ∧ csnPassed chan0 hdr0.csn = false
      ∧ csnAhead chan0 hdr0.csn < 64 ∧ csnAhead chan0 63 < 64
      ∧ checkMsg (s.at 0) { hdr0 with tc := 3 } 0x01 8188 4 = .pass
      ∧ targetStatus (s.at 0) 3 (targetVa (s.at 0) hdr0 8188) 4 true = St.ok
      ∧ targetPresent (s.at 0) (targetVa (s.at 0) hdr0 0) 4 = true ∧ checkMsg (s.at 0) { hdr0 with tc := 3 } 0x02 0 8192 = .pass
      ∧ targetStatus (s.at 0) 3 (targetVa (s.at 0) hdr0 0) 8192 false = St.ok
      ∧ hostLines (s.at 0) (targetVa (s.at 0) hdr0 0) 8192 false = [] ∧ checkMsg (s.at 0) { hdr0 with tc := 3 } 0x0B 0 0 = .pass)
    ∧ (let s := chanDev { chan0 with kind := 2, target := 1 } id
     Serves s 0 ∧ checkMsg (s.at 0) { hdr0 with tc := 3 } 0x03 0 0 = .pass)
    ∧ (Serves (chanDev chan0 id) 0 ∧ checkMsg ((chanDev chan0 id).at 0) { hdr0 with tc := 3 } 0x03 0 0 = .refuse St.auvOpcode true)
    ∧ (let x : Waiting := ⟨hdr0, wait0, ms 9990⟩
     let s := chanDev { chan0 with waiting := some x } id
     Serves s 0 ∧ mget (s.at 0).auv.chans 300 = some { chan0 with waiting := some x } ∧ past x.since (waitLimit x.msg) (s.at 0).now = true) := by
  repeat' apply And.intro
  all_goals first
    | decide +kernel
    | (show (_ : Bool) = _; decide +kernel)
    | rfl

theorem witness_Acknowledgements :
    (let s := w (modPath 64 fun ps => { ps with ackSince := some (ms 10000 - us 1) })
     Awake s ∧ ((s.at 0).path 64).ackSince = some (ms 10000 - us 1) ∧ past (ms 10000 - us 1) (us 1) (s.at 0).now = true
      ∧ past (ms 10000 - us 1 + 1) (us 1) (s.at 0).now = false)
    ∧ (Awake (w id) ∧ ((w id).at 0).auv.reasm = []) := by
  repeat' apply And.intro
  all_goals first
    | decide +kernel
    | (show (_ : Bool) = _; decide +kernel)
    | rfl

def probe0 (kind : Nat) : ProbeMsg :=
  { kind, init := false, tookOver := false, device := 9, hbCount := 0, sendTime := 0, commitSeq := 0, takeoverEpoch := 0, pairState := 0,
    subject := 0 }

theorem witness_PathRecovery :
    (let u : Unacked := ⟨packet0 64 5, 0, ms 1⟩
     let s := w fun d => modPath 64 (fun ps => { ps with unacked := [u], strikes := [(0, 14)] }) { d with regs := [(Reg.auvTransportConfig, fieldAt 63 49 20)] }
     Awake s ∧ ((s.at 0).path 64).unacked = [u] ∧ u.packet.psn = 5 ∧ past u.sentAt (rto (s.at 0)) (s.at 0).now = true
      ∧ mgetD ((s.at 0).path 64).strikes u.path 0 + 1 < 16)
    ∧ (let s := w (modPath 64 fun ps => { ps with failed := [1] })
     Awake s ∧ ((s.at 0).path 64).failed.contains 1 = true ∧ ((s.at 0).path 64).failed.contains 0 = false)
    ∧ (probe0 0).kind = 0 ∧ (probe0 1).kind = 1 := by
  repeat' apply And.intro
  all_goals first
    | decide +kernel
    | (show (_ : Bool) = _; decide +kernel)
    | rfl

theorem witness_NotReady :
    (let u : Unacked := ⟨packet0 64 5, 0, ms 1⟩
     let s (n : Nat) := w (modPath 64 fun ps => { ps with unacked := [u], rnrCounts := [(1, n)] })
     Awake (s 62) ∧ ((s 62).at 0 |>.path 64).unacked = [u] ∧ u.packet.psn = 5 ∧ u.packet.msgId = 1
      ∧ mgetD (((s 62).at 0).path 64).rnrCounts 1 0 + 1 < 64 ∧ 64 ≤ mgetD (((s 63).at 0).path 64).rnrCounts 1 0 + 1)
    ∧ (let x : RnrWait := ⟨packet0 64 5, ms 10000⟩
     let s := w (modPath 64 fun ps => { ps with rnrWaits := [x] })
     Awake s ∧ ((s.at 0).path 64).rnrWaits = [x] ∧ x.packet.fragIndex = 0 ∧ serialLe x.notBefore (s.at 0).now = true)
    ∧ (let x : ReadStall := ⟨hdr0, 0, 64, ms 10000 - us 200, 5⟩
     let s := w fun d => { d with auv.stalls := [x] }
     Awake s ∧ (s.at 0).auv.stalls = [x] ∧ past x.since (us 200) (s.at 0).now = true) := by
  repeat' apply And.intro
  all_goals first
    | decide +kernel
    | (show (_ : Bool) = _; decide +kernel)
    | rfl

theorem witness_ContextsAndMessages :
    (let m : Miss := ⟨8, packet0 34 5, ms 10000 - ns 1500⟩
     let s := w fun d => { d with auv.misses := [m] }
     Awake s ∧ (s.at 0).auv.misses = [m] ∧ past m.since (ns 1500) (s.at 0).now = true)
    ∧ (let r : Reasm := ⟨8193, 4353, 1, 7, 300, hdr0, none, [0], .write, 0, 0, ms 9000, 0, none⟩
     let s := w fun d => { d with auv.reasm := [r], regs := [(Reg.auvTransportConfig, fieldAt 48 39 1000)] }
     Awake s ∧ (s.at 0).auv.reasm = [r] ∧ past r.since (ms (s.at 0).reasmMs) (s.at 0).now = true ∧ r.dead = none
      ∧ { r with dead := some St.auvReasmTimeout }.dead = some St.auvReasmTimeout)
    ∧ (St.iatUnsync ≠ St.parTakeover ∧ endpointNumber 0x401 < 64 ∧ endpointDevice 0x440 = 8 ∧ 64 ≤ endpointNumber 0x440) := by
  repeat' apply And.intro
  all_goals first
    | decide +kernel
    | (show (_ : Bool) = _; decide +kernel)
    | rfl

def open0 (kind : Nat) : ChanAdmin :=
  { subop := 0, kind, tenant := 3, channel := 1048575, peer := 0x440, access := 7, tcMask := 0xFF, target := 256, base := 0, len4k := 0, mask := 1 }

theorem witness_ChannelAdmin :
    (let s := chanDev chan0 id
     let r := { open0 1 with target := 127 }
     Admits s 0 rqA false ∧ tenantOk (s.at 0) rqA r.tenant = true ∧ openRange r = true ∧ r.kind ≠ 0 ∧ r.channel ≠ 0xFFFFFFFF
      ∧ mhas (s.at 0).auv.chans r.channel = false ∧ tenantMirror (s.at 0) 3 = .m0 ∧ chanCheck (s.at 0) rqA 3 300 = St.ok
      ∧ mget (s.at 0).auv.chans 301 = none)
    ∧ (let s := chanDev chan0 fun d => { d with cfg.tenants := [(3, { tenant := 3, valid := true, mirror := .m2, defaultScope := 5, scopes := [] })] }
     tenantMirror (s.at 0) 3 ≠ .m0)
    ∧ (let u : Subscription := { dst := 0x440, channel := 256, tenant := 3, mask := 1, all := false, seq := 0, queue := [], lost := 0 }
     let s := w fun d => { seqDev [] d with auv.subs := [u] }
     Admits s 0 rqA false ∧ tenantOk (s.at 0) rqA (open0 0).tenant = true ∧ (open0 0).kind = 0 ∧ 256 ≤ (open0 0).target
      ∧ (open0 0).target < 1048576 ∧ ((s.at 0).auv.subs.filter fun u => !namedSub (open0 0) u).length < 256
      ∧ (s.at 0).auv.subs.any (namedSub (open0 0)) = true ∧ (s.at 0).auv.subs.any (namedSub { open0 0 with target := 257 }) = false) := by
  repeat' apply And.intro
  all_goals first
    | decide +kernel
    | (show (_ : Bool) = _; decide +kernel)
    | rfl

def list0 : GateList :=
  { id := 1, port := 3, entryCount := 2, cycleFrames := 1, baseTime := 0, profile := .throughput, variant := .normal,
    entries := [⟨0xFF, 4000⟩, ⟨0x80, 4000⟩] }

theorem witness_EgressEvents :
    (let s := portIn 3 fun q => { q with state := .up, credits := List.replicate 8 100 }
     let q : State := ⟨[], modQueue 3 6 (fun e => { e with items := [⟨packet0 34 5, none, 0⟩] }) s.dev⟩
     let busy : State := ⟨[], modEgress 3 (fun e => { e with busyUntil := ms 10000 + 1 }) s.dev⟩
     Awake s ∧ (s.at 0).linkUp 3 = true ∧ serialLe ((s.at 0).egr 3).busyUntil (s.at 0).now = true ∧ selectQueue (s.at 0) 3 = none
      ∧ (selectQueue (q.at 0) 3).isSome = true ∧ serialLe ((busy.at 0).egr 3).busyUntil (busy.at 0).now = false)
    ∧ (let r : GateRun := ⟨list0, ms 10000, true⟩
     let s := w (modEgress 3 fun e => { e with running := some r, entry := 1, entryStart := ms 10000 - ns 4000 })
     Awake s ∧ ((s.at 0).egr 3).running = some r ∧ r.list.entries[((s.at 0).egr 3).entry]? = some ⟨0x80, 4000⟩
      ∧ past ((s.at 0).egr 3).entryStart (ns 4000) (s.at 0).now = true)
    ∧ (let r : GateRun := ⟨list0, ms 10000, true⟩
     let s := w (modEgress 3 fun e => { e with pending := some r })
     Awake s ∧ ((s.at 0).egr 3).pending = some r ∧ serialLe r.start (s.at 0).now = true
      ∧ serialLe (r.start + 1) (s.at 0).now = false) := by
  repeat' apply And.intro
  all_goals first
    | decide +kernel
    | (show (_ : Bool) = _; decide +kernel)
    | rfl

/-- A device of a pair, in a state, with device ID 8 (side A) or 9 and the other's. -/
def pairDev (id : Nat) (st : PairState) (f : Dev → Dev) : State :=
  ⟨[], f (modPort 12 (fun q => { q with state := .up }) (modDomain 92 (fun q => { q with state := .on })
    { dev0 with
      par.state := st
      par.deviceId := id
      par.partnerId := 17 - id
      par.dimX := 2
      par.dimY := 2
      par.since := ms 10000 - us 200
      par.lastHeartbeat := ms 10000 - us 50 }))⟩

def probeOf (kind device : Nat) : ProbeMsg := { probe0 kind with device }

theorem witness_PairProbes :
    (let s := pairDev 8 .paired id
     Awake s ∧ (s.at 0).cfg.phase = .run ∧ (s.at 0).ras.selfFenced = false ∧ (s.at 0).par.state = .paired ∧ (s.at 0).linkUp portPair = true
      ∧ (probeOf 2 9).device = (s.at 0).par.partnerId ∧ (probeOf 2 9).kind = 2 ∧ (probeOf 2 9).tookOver = false)
    ∧ (let s := pairDev 8 .suspect id
     Awake s ∧ (s.at 0).cfg.phase = .run ∧ (s.at 0).ras.selfFenced = false ∧ (s.at 0).par.state = .suspect
      ∧ (probeOf 3 9).device = (s.at 0).par.partnerId ∧ (probeOf 3 9).kind = 3 ∧ (probeOf 4 9).kind = 4
      ∧ ({ probeOf 6 32 with subject := 9 }).subject = (s.at 0).par.partnerId ∧ (probeOf 6 32).device ≠ (s.at 0).par.partnerId)
    ∧ (let s := pairDev 8 .joining id
     Awake s ∧ (s.at 0).cfg.phase = .run ∧ (s.at 0).par.state = .joining ∧ (probeOf 5 32).kind = 5)
    ∧ (let s := w fun d => { d with ras.selfFenced := true }
     Awake s ∧ (s.at 0).ras.selfFenced = true) := by
  repeat' apply And.intro
  all_goals first
    | decide +kernel
    | (show (_ : Bool) = _; decide +kernel)
    | rfl

theorem witness_PairTimers :
    (let s (st : PairState) := pairDev 8 st fun d => { d with par.since := ms 9000 }
     Awake (s .paired) ∧ ((s .paired).at 0).cfg.phase = .run ∧ ((s .paired).at 0).ras.selfFenced = false
      ∧ past ((s .paired).at 0).par.lastHeartbeat (us 50) ((s .paired).at 0).now = true
      ∧ past (((s .paired).at 0).par.lastHeartbeat + 1) (us 50) ((s .paired).at 0).now = false
      ∧ ((s .resync).at 0).par.state = .resync ∧ ((s .suspect).at 0).par.state = .suspect
      ∧ past ((s .suspect).at 0).par.since (us 200) ((s .suspect).at 0).now = true ∧ mayTakeOver ((s .suspect).at 0) = false
      ∧ mayTakeOver { (s .suspect).at 0 with par.witness := true } = true
      ∧ ((s .joining).at 0).par.partnerHeard = false ∧ past ((s .joining).at 0).par.since (ms 1000) ((s .joining).at 0).now = true)
    ∧ (let s := pairDev 8 .paused fun d => { d with par.heartbeatsSince := some (ms 10000 - us 100), par.pairHeartbeat := ms 10000 - us 1 }
     Awake s ∧ (s.at 0).par.state = .paused ∧ ((s.at 0).port portPair).state = .up ∧ past (ms 10000 - us 100) (us 100) (s.at 0).now = true
      ∧ (s.at 0).par.heartbeatsSince = some (ms 10000 - us 100) ∧ past (s.at 0).par.pairHeartbeat (us 50) (s.at 0).now = false)
    ∧ (isOperator ((pairDev 8 .isolated id).at 0) .mctp = true ∧ ((pairDev 8 .isolated id).at 0).par.state = .isolated
      ∧ ((pairDev 8 .paired id).at 0).par.state ≠ .isolated ∧ 32 ≠ ((pairDev 8 .paired id).at 0).par.deviceId) := by
  repeat' apply And.intro
  all_goals first
    | decide +kernel
    | (show (_ : Bool) = _; decide +kernel)
    | rfl

def commit0 (proposal : Bool) (seq : BitVec 32) : CommitHdr :=
  { seq, originB := proposal, proposal, resync := false, boundary := none, tag := 4 }

def undo0 : Undo :=
  { seqs := [], seats := [], pages := [], nodes := [], objs := [], models := [], chans := [], batch := [], conf := none }

def wait1 : CommitWait :=
  { tag := 4, op := .seqClose 0, rq := rqA, reply := [], status := St.ok, proposal := false, held := false, applied := true,
    answered := none, undo := undo0 }

theorem witness_PairCommits :
    (let s := pairDev 8 .paired (seqDev [(0, seq0)])
     Awake s ∧ (s.at 0).cfg.phase = .run ∧ (s.at 0).ras.selfFenced = false ∧ (s.at 0).par.state = .paired ∧ (s.at 0).sideA = true
      ∧ (wholly (applyPeer (commit0 true 0) (.seqClose 0)) (s.at 0)).status = St.ok
      ∧ (wholly (applyPeer (commit0 true 0) (.seqClose 1)) (s.at 0)).status ≠ St.ok)
    ∧ (let s := pairDev 9 .paired fun d => { seqDev [(0, seq0)] d with par.commitSeq := 0xFFFFFFFF }
     Awake s ∧ (s.at 0).par.state = .paired ∧ (s.at 0).sideA = false ∧ serialLt (s.at 0).par.commitSeq (commit0 false 0).seq = true
      ∧ serialLt (s.at 0).par.commitSeq (commit0 false 0xFFFFFFFF).seq = false ∧ atBoundary (.seqClose 0) = false)
    ∧ (let s := pairDev 8 .paired fun d => { d with par.waits := [wait1] }
     Awake s ∧ (s.at 0).par.waits = [wait1] ∧ wait1.applied = true ∧ St.kvsLost ≠ St.ok)
    ∧ (let s := pairDev 8 .paired fun d => { seqDev [(0, seq0)] d with kvs.pages := [(0, page0)], par.copies := [(.page 0, 0)] }
     Awake s ∧ (s.at 0).par.state = .paired ∧ ((s.at 0).par.copies.any fun c => decide (c.1 = .page 0)) = true
      ∧ (copyOp (s.at 0) (.page 0)).isSome = true)
    ∧ (let s := pairDev 8 .resync id
     Awake s ∧ (s.at 0).par.state = .resync ∧ (s.at 0).par.copies = [] ∧ (s.at 0).par.resyncOps = [] ∧ (s.at 0).cfg.phase = .run)
    ∧ ((pairDev 9 .joining id).at 0).par.state = .joining := by
  repeat' apply And.intro
  all_goals first
    | decide +kernel
    | (show (_ : Bool) = _; decide +kernel)
    | rfl

/-- A window over the start of region 9 at DPA 0. -/
def window0 (region : Nat) : Window := { dpaBase := 0, len2m := 1, region, bind := 1, slot := 0, offset := 0 }

/-- Port 0 with its link up; LD 2 of it is enabled for tenant 3 and ACTIVE, with the windows given. -/
def hostDev (ws : List (Nat × Window)) (gs : List (Nat × Region)) (f : Dev → Dev) : State :=
  ⟨[], f (modLd 0 2 (fun l => { l with
      state := .active
      windows := ws })
    (modDomain 100 (fun q => { q with state := .on }) { seqDev [(0, seq0)] dev0 with
      cxl.links := [0]
      cxl.regions := gs
      regs := [(Reg.cxlLdBind + 2, fieldAt 31 31 1 + 3)] }))⟩

/-- A region of tenant 3, private regions those of LD 2 of port 0. -/
def region1 (kind : Nat) (vs : List (Nat × Version)) : Region :=
  { region0 kind with
    owner := 2
    versions := vs }

def version0 (v : BitVec 32) : Version := { version := v, len64k := 1, mapBase := 0 }

theorem witness_HostMemory :
    (Awake (w id) ∧ memServed ((w id).at 0) 0 2 = false)
    ∧ (let s := hostDev [(0, window0 9)] [(9, region1 2 [])] id
     Awake s ∧ memServed (s.at 0) 0 2 = true ∧ windowAt ((s.at 0).ld 0 2) (2097152 / 64 * 64) = none
      ∧ windowAt ((s.at 0).ld 0 2) (2097151 / 64 * 64) = some (window0 9)
      ∧ windowVa (s.at 0) (window0 9) (2097151 / 64 * 64) = some (regionVa 9 0 2097088)
      ∧ windowAt ((s.at 0).ld 0 2) 2097088 = some (window0 9) ∧ mget (s.at 0).cxl.regions (window0 9).region = some (region1 2 [])
      ∧ windowVa (s.at 0) (window0 9) 2097088 = some (regionVa 9 0 2097088) ∧ (region1 2 []).kind = 2 ∧ (region1 2 []).owner = ldIndex 0 2
      ∧ vaOffset (regionVa 9 0 2097088) + (List.replicate 64 (1 : Byte)).length ≤ (region1 2 []).size
      ∧ isFrozen (s.at 0) (window0 9).region (vaOffset (regionVa 9 0 2097088)) 64 = false)
    ∧ (let s := hostDev [(0, window0 9)] [(9, region1 2 [])] fun d => { d with cxl.frozen := [(9, 2031616, 65536)] }
     isFrozen (s.at 0) (window0 9).region (vaOffset (regionVa 9 0 2097088)) 64 = true)
    ∧ (let s := hostDev [(0, window0 8)] [] id
     memServed (s.at 0) 0 2 = true ∧ windowAt ((s.at 0).ld 0 2) (64 / 64 * 64) = some (window0 8)
      ∧ windowVa (s.at 0) (window0 8) (64 / 64 * 64) = none)
    ∧ (let e : Snoop := ⟨2, .s, 0, some (ms 9999)⟩
     let s := w fun d => { d with cxl.snoop0 := [(snoopKey 7 2, e)] }
     Awake s ∧ mget ((s.at 0).filter 0) (snoopKey 7 2) = some e ∧ e.snooped = some (ms 9999)
      ∧ past (ms 9999) (ms 1) (s.at 0).now = true ∧ past (ms 9999 + 1) (ms 1) (s.at 0).now = false) := by
  repeat' apply And.intro
  all_goals first
    | decide +kernel
    | (show (_ : Bool) = _; decide +kernel)
    | rfl

theorem witness_HostLinks :
    (let s := hostDev [] [] id
     Awake s ∧ (s.at 0).cxl.links.contains 0 = true ∧ cxlTrains (s.at 0) 0 = true)
    ∧ (let s := hostDev [] [] fun d => { d with cxl.links := [] }
     Awake s ∧ cxlTrains (s.at 0) 0 = true ∧ (s.at 0).cxl.links.contains 0 = false)
    ∧ Admits (w id) 0 .mctp true := by
  repeat' apply And.intro
  all_goals first
    | decide +kernel
    | (show (_ : Bool) = _; decide +kernel)
    | rfl

def req0 : RegionReq :=
  { region := 9, arg := 1, flags := 3, slot := 0, window := 63, srcRegion := 8, expected := 0, newVersion := 1, offset := 0, length := 2097152,
    dpaBase := 0, crc := 0 }

theorem witness_RegionCommands :
    (let s := hostDev [] [(9, region1 1 [])] id
     Admits s 0 (.ld 0 2) false ∧ createRegionOk req0 = true ∧ tenantValid (s.at 0) ((s.at 0).tenantOfLd 0 2) = true
      ∧ newRegionId (s.at 0) 0xFFFF = some 0 ∧ newRegionId (s.at 0) 65534 = some 65534 ∧ newRegionId (s.at 0) 9 = none ∧ req0.arg ≠ 2
      ∧ mget (s.at 0).cxl.regions 9 = some (region1 1 []) ∧ ownTenant (s.at 0) 0 2 (region1 1 []) = true ∧ (region1 1 []).kind ≠ 2
      ∧ windowCovers (s.at 0) 9 (fun _ => true) = false ∧ rangeCovers (s.at 0) 9 (fun _ => true) = false
      ∧ mget (s.at 0).cxl.regions 8 = none ∧ req0.window < 64 ∧ windowOk (s.at 0) 0 2 req0 (region1 1 []) = true)
    ∧ (let s := hostDev [] [(9, region1 1 [(0, version0 1)])] id
     windowOk (s.at 0) 0 2 { req0 with arg := 2 } (region1 1 [(0, version0 1)]) = true)
    ∧ (let s := hostDev [] [(9, region1 2 [])] id
     Admits s 0 (.ld 0 2) false ∧ ownTenant (s.at 0) 0 2 (region1 2 []) = true ∧ (region1 2 []).owner = ldIndex 0 2
      ∧ windowOk (s.at 0) 0 2 req0 (region1 2 []) = true) := by
  repeat' apply And.intro
  all_goals first
    | decide +kernel
    | (show (_ : Bool) = _; decide +kernel)
    | rfl

/-- A publish of one granule of private region 8 into published region 9. -/
def publish0 : RegionReq :=
  { req0 with
    length := 65536
    offset := 2031616 }

/-- An export of the first page of the first layer of sequence 0 into compatibility region 9. -/
def export0 : ExportReq :=
  { region := 9, handle := 0, expected := 0, newVersion := 1, layerFirst := 0, layerCount := 1, pageFirst := 0, pageCount := 1 }

theorem witness_RegionVersions_publish :
    (let s := hostDev [] [(8, region1 2 []), (9, region1 1 [])] id
     Admits s 0 (.ld 0 2) false ∧ ((s.at 0).ld 0 2).background = none ∧ publishCheck (s.at 0) 0 2 publish0 = St.ok)
    ∧ (let b : Background := .publish { publish0 with length := 64 } false
     let s := hostDev [] [(8, region1 2 []), (9, region1 1 [])] (modLd 0 2 fun x => { x with background := some b })
     Admits s 0 (.ld 0 2) false ∧ ((s.at 0).ld 0 2).background = some b
      ∧ ((s.at 0).cxl.snoopWaits.any fun x => decide (x.what = .freeze 0 2)) = false
      ∧ crc32c (memReadN (s.at 0).mem (regionVa 8 0 2031616) 64) ≠ 0)
    ∧ (let g := region1 1 [(0, version0 1), (1, version0 2)]
     let s := hostDev [] [(9, { g with currentSlot := some 1 })] id
     Admits s 0 (.ld 0 2) false ∧ mget (s.at 0).cxl.regions 9 = some { g with currentSlot := some 1 }
      ∧ (g.versions.find? fun x => decide (x.2.version = 1)) = some (0, version0 1) ∧ ({ g with currentSlot := some 1 }).currentSlot ≠ some 0
      ∧ windowCovers (s.at 0) 9 (fun w => decide (w.bind = 2) && decide (w.slot = 0)) = false
      ∧ rangeCovers (s.at 0) 9 (fun k => decide (k = 0)) = false) := by
  repeat' apply And.intro
  all_goals first
    | decide +kernel
    | (show (_ : Bool) = _; decide +kernel)
    | rfl

theorem witness_RegionVersions_export :
    (let q : Machine.Seq := { seq0 with l3 := [(l3Key 0 0, ⟨0, false⟩)] }
     let s := hostDev [] [(9, region1 3 [])] fun d => { d with kvs.seqs := [(0, q)], kvs.pages := [(0, page0)] }
     Admits s 0 (.ld 0 2) false ∧ ((s.at 0).ld 0 2).background = none ∧ exportCheck (s.at 0) 0 2 export0 = St.ok
      ∧ findSeq (s.at 0) 0 = some (0, q) ∧ exportPages (s.at 0) q export0 = some [0])
    ∧ (let b : Background := .exportCopy export0 3
     let s := hostDev [] [] fun d => modLd 0 2 (fun x => { x with background := some b })
      { d with
        kvs.pages := [(0, page0)]
        tir.lostUnlisted := [0]
        pfx.pinOps := [⟨exportOp 0 2, 0, page0.home⟩] }
     Awake s ∧ ((s.at 0).ld 0 2).background = some b
      ∧ ((s.at 0).pfx.pinWaits.any fun w => decide (w.op = exportOp 0 2)) = false
      ∧ (((s.at 0).pfx.pinOps.filter fun h => decide (h.op = exportOp 0 2)).map (·.page)).any (pageIsLost (s.at 0)) = true)
    ∧ (let r := { req0 with slot := 0xFF }
     let s := hostDev [] [(9, region1 1 [])] id
     Admits s 0 (.ld 0 2) false ∧ r.arg ≤ 1 ∧ (r.slot < 8 ∨ r.slot = 0xFF) ∧ r.offset % mib2 = 0 ∧ r.length % mib2 = 0 ∧ r.length ≠ 0
      ∧ r.offset + r.length ≤ (region1 1 []).size) := by
  repeat' apply And.intro
  all_goals first
    | decide +kernel
    | (show (_ : Bool) = _; decide +kernel)
    | rfl

theorem witness_MailboxReads :
    (let s := hostDev [] [(9, region1 2 []), (8, { region1 2 [] with tenant := 4 })] id
     Admits s 0 (.ld 0 2) false ∧ tenantOf (s.at 0) (.ld 0 2) = some 3 ∧ isOperator (s.at 0) (.ld 0 2) = false ∧ 10 < 11
      ∧ snapshotOf (s.at 0) (some 3) 10 65535 = .record none (regionRecord (s.at 0) 65535)
      ∧ snapshotOf (s.at 0) (some 3) 10 9 = .record (some 3) (regionRecord (s.at 0) 9)
      ∧ snapshotOf (s.at 0) (some 3) 10 8 = .record (some 4) (regionRecord (s.at 0) 8)
      ∧ snapshotOf (s.at 0) (some 3) 10 65536 = .beyond)
    ∧ (Awake (w id) ∧ ((w id).at 0).cfg.phase = .run ∧ ((w id).at 0).ras.selfFenced = false) := by
  repeat' apply And.intro
  all_goals first
    | decide +kernel
    | (show (_ : Bool) = _; decide +kernel)
    | rfl

theorem witness_PoisonAndAllocations :
    (let s := hostDev [(0, window0 9)] [(9, region1 2 [])] id
     Awake s ∧ (s.at 0).cfg.phase = .run ∧ (s.at 0).ras.selfFenced = false
      ∧ privateLine (s.at 0) 0 2 2097151 = some (regionVa 9 0 2097151 / 64) ∧ privateLine (s.at 0) 0 2 2097152 = none)
    ∧ (let s := hostDev [(0, window0 9)] [(9, region1 1 [])] id
     privateLine (s.at 0) 0 2 0 = none) ∧ 15 + [(1, 1)].length ≤ 16 := by
  repeat' apply And.intro
  all_goals first
    | decide +kernel
    | (show (_ : Bool) = _; decide +kernel)
    | rfl

def copy0 : IdentityCopy :=
  { formatOk := true, chainOk := true, storeSeq := 1, pubHash := 5, chainDigest := 6, chain := [1, 2, 3], signers := [9] }

/-- A device that holds that identity. -/
def identified (f : Dev → Dev) : State :=
  w fun d => f { d with
    sec.identity := .valid
    sec.copy0 := some copy0
    sec.signers := [9]
    sec.pubHash := 5 }

theorem witness_FirmwareCommands :
    (let s := identified id
     Awake s ∧ (s.at 0).cfg.phase = .run ∧ (s.at 0).ras.selfFenced = false ∧ isOperator (s.at 0) .mctp = true ∧ (s.at 0).cfg.nvmJobs = []
      ∧ imageFault (s.at 0) img0 = St.ok ∧ imageFault (s.at 0) { img0 with bodyLen := 4095 } ≠ St.ok
      ∧ imageFault (s.at 0) { img0 with bodyLen := 50331648 } = St.ok ∧ imageFault (s.at 0) { img0 with bodyLen := 50331649 } ≠ St.ok
      ∧ bundleFault (s.at 0) copy0 5 = none ∧ bundleFault (s.at 0) copy0 4 = some 3)
    ∧ (let s := identified fun d => { d with cfg.nvmJobs := [.firmware img0] }
     (s.at 0).cfg.nvmJobs ≠ [])
    ∧ (let s := w fun d => { d with cfg.phase := .recovery }
     Awake s ∧ (s.at 0).cfg.phase = .recovery ∧ isOperator (s.at 0) .mctp = true) := by
  repeat' apply And.intro
  all_goals first
    | decide +kernel
    | (show (_ : Bool) = _; decide +kernel)
    | rfl

def job0 (ready : Bool) (token : Option Nat) : SpdmJob :=
  { transport := 2, req := .challenge 0 7 0, snapshot := [], since := ms 9999, token, ready }

theorem witness_SpdmRequests :
    (let s (n : Nat) := identified (setStage 2 n)
     Awake (s 1) ∧ ((s 1).at 0).cfg.phase = .run ∧ ((s 1).at 0).ras.selfFenced = false ∧ spdmStage ((s 1).at 0) 2 = 1
      ∧ spdmStage ((s 2).at 0) 2 = 2 ∧ spdmStage ((s 3).at 0) 2 = 3 ∧ identityCopy ((s 3).at 0) = some copy0 ∧ 2 < copy0.chain.length
      ∧ (((s 3).at 0).sec.jobs.filter fun j => !j.ready).length < 2
      ∧ blocksOf 0xFF (measurements ((s 3).at 0)) = some (measurements ((s 3).at 0)) ∧ (blocksOf 5 (measurements ((s 3).at 0))).isSome = true)
    ∧ (let s := w (setStage 2 3)
     Awake s ∧ spdmStage (s.at 0) 2 = 3 ∧ identityCopy (s.at 0) = none)
    ∧ (let s (ready : Bool) := identified fun d => setStage 2 3 { d with sec.jobs := [job0 ready (some 6)] }
     ((s true).at 0).sec.jobs = [job0 true (some 6)] ∧ (job0 true (some 6)).token = some 6 ∧ (job0 false (some 6)).ready = false
      ∧ (job0 true (some 6)).transport = 2)
    ∧ (let s := identified fun d => setStage 2 3 { d with sec.jobs := [job0 false none] }
     Awake s ∧ (s.at 0).sec.jobs = [job0 false none] ∧ (job0 false none).token = none
      ∧ past (job0 false none).since (ctTime + 1) (s.at 0).now = false) := by
  repeat' apply And.intro
  all_goals first
    | decide +kernel
    | (show (_ : Bool) = _; decide +kernel)
    | rfl

/-- A device that runs alone with a timetable running, and a transaction of the management controller in a state. -/
def txnDev (st : TxnState) (at_ : Time) (f : Dev → Dev) : State :=
  w fun d => f { ttOn d with
    tt.set := [tt0, { tt0 with variant := .normal, id := 8 }]
    tir.deadlines := [(32, ⟨0, false, 2000, 500, 0⟩), (34, ⟨0, false, 2000, 500, 0⟩)]
    regs := [(Reg.pfxDirConfig, fieldAt 31 24 1), (Reg.tirConfig, fieldAt 27 20 1)]
    cfg.permitted := 1
    cfg.txn := { d.cfg.txn with
      state := st
      id := 1
      holder := some .mctp
      mine := true
      lastCmd := at_ } }

theorem witness_Transactions :
    (Admits (w id) 0 .mctp true ∧ Alone (w id) 0 ∧ ((w id).at 0).cfg.txn.state = .idle)
    ∧ (let s := txnDev .opened (ms 9999) id
     let d := touchTxn (s.at 0)
     let b := boundaryAfter d (d.now + BitVec.ofNat 64 d.frameUnits)
     Admits s 0 .mctp true ∧ Alone s 0 ∧ (s.at 0).cfg.txn.state = .opened ∧ (s.at 0).cfg.txn.mine = true
      ∧ (s.at 0).cfg.txn.holder = some .mctp ∧ txnDue (s.at 0) = false ∧ [TxnItem.floor 0] ≠ [] ∧ [TxnItem.floor 0].length ≤ 4096
      ∧ firstItemFault d d.cfg.txn.items d.cfg.txn.bytes 0 [.fields 0x1001 1 1] = some (St.cfgItemInvalid, 0)
      ∧ firstItemFault d d.cfg.txn.items d.cfg.txn.bytes 0 [.fields 0x1000 1 1] = none
      ∧ d.timeInHorizon b = true ∧ txnCheck d d.cfg.txn.items false d.now b = St.ok)
    ∧ (let s := txnDev .opened (ms 10000 - ms 30000) id
     Awake s ∧ txnDue (s.at 0) = true ∧ txnDue ((txnDev .opened (ms 10000 - ms 30000 + 1) id).at 0) = false) := by
  repeat' apply And.intro
  all_goals first
    | decide +kernel
    | (show (_ : Bool) = _; decide +kernel)
    | rfl

theorem witness_RegisterWrites :
    (let s := w fun d => { d with cfg.nvmJobs := [.derived img0] }
     Awake s ∧ (s.at 0).cfg.nvmJobs = [.derived img0])
    ∧ (let s := w fun d => { d with cfg.nvmJobs := [.firmware img0] }
     Awake s ∧ (s.at 0).cfg.nvmJobs = [.firmware img0] ∧ (s.at 0).cfg.phase = .run)
    ∧ (txnDue ((w id).at 0) = false ∧ ((w id).at 0).cfg.txn.state ≠ .opened)
    ∧ (let s := txnDev .opened (ms 9999) id
     let d := touchTxn (s.at 0)
     Awake s ∧ txnDue (s.at 0) = false ∧ firstItemFault d d.cfg.txn.items d.cfg.txn.bytes 0 [.fields 0x1000 1 1] = none)
    ∧ counterRegs.contains Reg.kvsOccupancy = false ∧ counterRegs ≠ [] := by
  repeat' apply And.intro
  all_goals first
    | decide +kernel
    | (show (_ : Bool) = _; decide +kernel)
    | rfl

theorem witness_PowerWakes_lead :
    let e := { slot1 with startNs := 8000 }
    let s := w fun d => modDomain 87 (fun q => { q with state := .ret }) { ttOn d with tt.running := some { tt0 with slots := [slot0, e] } }
    Awake s ∧ firstBy (fun a b => serialLt a.1 b.1) ((slotsAhead (s.at 0)).filter fun x => decide (x.2.slot = 1)) = some (ms 10000 + ns 3000, e)
      ∧ e.cls = .result ∧ ((s.at 0).domain (87 + e.port)).state = .ret ∧ isPortDomain (87 + e.port) = true
      ∧ serialLe (ms 10000 + ns 3000) ((s.at 0).now + ns 10000) = true ∧ neverWakes (s.at 0) (87 + e.port) = false := by
  repeat' apply And.intro
  all_goals first
    | decide +kernel
    | (show (_ : Bool) = _; decide +kernel)
    | rfl

/-! ## Well-formedness: every check refuses a term that breaks it -/

def promote0 : PromoteMsg := ⟨0, 0, 1, 0, 1, 0, false, 0⟩
def rnr0 : RnrMsg := ⟨St.ok, 1, 0, 1000, 5⟩
def cmpl0 : CmplMsg := ⟨St.ok, 1, 0, 0⟩

/-- Commands with one operand that no field can carry. -/
theorem test_wf_refuses_1 (t : Time) (xDistribution : Distribution) :
    List.map Instr.WellFormed
      ([.resetGlitchFiltered t (.strap 4) 0,
       .railMonitorTrip t 12 0,
       .thermalTrip t 101 0 0,
       .sensorSample t (List.replicate 100 40),
       .dramTrainingDone t 3 [] [],
       .dramTrainingDone t 2 [] [68],
       .startupStepTimeout t 0,
       .sync t 13 syncMsg0,
       .sync t 12 { syncMsg0 with gmDevice := 512 },
       .fabricTimeReadLow t (.ld 2 0),
       .timetableDistribution t 512 xDistribution,
       .resultSlotStart t 256,
       .wstreamSlotStart t 256,
       .append t (.ld 2 0) (append0 16 0),
       .append t .mctp { append0 16 0 with count := 65536 },
       .seqAdminOpen t (.ld 2 0) 4095 255 255 65535,
       .seqAdminOpen t .mctp 4096 255 255 65535,
       .seqAdminOpen t .mctp 4095 256 255 65535,
       .seqAdminOpen t .mctp 4095 255 256 65535,
       .seqAdminOpen t .mctp 4095 255 255 65536,
       .seqAdminClose t (.ld 2 0) 4095 0,
       .seqAdminClose t .mctp 4096 0,
       .seqAdminPark t (.ld 2 0) 4095 0,
       .seqAdminPark t .mctp 4096 0,
       .seqAdminResume t (.ld 2 0) 4095 0,
       .seqAdminResume t .mctp 4096 0,
       .seqAdminTruncate t (.ld 2 0) 4095 0 4294967295,
       .seqAdminTruncate t .mctp 4096 0 4294967295,
       .seqAdminTruncate t .mctp 4095 0 4294967296,
       .seqAdminQuery t (.ld 2 0) 4095 0,
       .seqAdminQuery t .mctp 4096 0,
       .seqAdminJoin t (.ld 2 0) 4095 0 65535 65535,
       .seqAdminJoin t .mctp 4096 0 65535 65535,
       .seqAdminJoin t .mctp 4095 0 65536 65535,
       .seqAdminJoin t .mctp 4095 0 65535 65536,
       .seqAdminLeave t (.ld 2 0) 4095 0 65535,
       .seqAdminLeave t .mctp 4096 0 65535,
       .seqAdminLeave t .mctp 4095 0 65536,
       .idlePark t 16777216,
       .parkComplete t 16777216,
       .resumeComplete t 16777216,
       .closeComplete t 16777216,
       .appendHoldTimeout t 16777216,
       .lookup t (.ld 2 0) (lookup0 5) [],
       .lookup t .mctp (lookup0 65536) [],
       .attach t (.ld 2 0) attach0,
       .attach t .mctp { attach0 with depth := 65536 },
       .nodeRetentionExpired t 67108864] : List Instr)
      = List.replicate 48 false := by
  simp only [List.map_cons, List.map_nil]
  rfl

/-- Commands with one operand that no field can carry. -/
theorem test_wf_refuses_2 (t : Time) (xNandOp : NandOp) (xDramRead : DramRead) :
    List.map Instr.WellFormed
      ([.arrayBlockMoveComplete t 32,
       .attend t (.ld 2 0) 12 attend0,
       .attend t .mctp 13 attend0,
       .attend t .mctp 12 { attend0 with layer := 65536 },
       .mergeStep t 0 0 0 0 16777216 false,
       .spareTakeover t 64 false,
       .modelLoad t (.ld 2 0) model0,
       .modelLoad t .mctp { model0 with model := 256 },
       .modelUnload t (.ld 2 0) 255,
       .modelUnload t .mctp 256,
       .modelUnloadComplete t 256,
       .promote t (.ld 2 0) promote0,
       .promote t .mctp { promote0 with pageCount := 4294967296 },
       .objAdminCreate t (.ld 2 0) objReq,
       .objAdminCreate t .mctp { objReq with tenant := 4096 },
       .objAdminSeal t (.ld 2 0) 4095 65535,
       .objAdminSeal t .mctp 4096 65535,
       .objAdminSeal t .mctp 4095 65536,
       .objAdminDelete t (.ld 2 0) 4095 65535,
       .objAdminDelete t .mctp 4096 65535,
       .objAdminDelete t .mctp 4095 65536,
       .objAdminQuery t (.ld 2 0) 4095 65535,
       .objAdminQuery t .mctp 4096 65535,
       .objAdminQuery t .mctp 4095 65536,
       .objAdminReopen t (.ld 2 0) 4095 65535,
       .objAdminReopen t .mctp 4096 65535,
       .objAdminReopen t .mctp 4095 65536,
       .objAdminCopyIn t (.ld 2 0) objReq,
       .objAdminCopyIn t .mctp { objReq with tenant := 4096 },
       .objectDeleteComplete t 65536,
       .wstream t (.ld 2 0) 12 wstream0,
       .wstream t .mctp 13 wstream0,
       .wstream t .mctp 12 { wstream0 with itemCount := 65536 },
       .nandProgramComplete t 64 false none,
       .nandProgramComplete t 63 false (some 16),
       .nandEraseComplete t 64 4095 15 false,
       .nandEraseComplete t 63 4096 15 false,
       .nandEraseComplete t 63 4095 16 false,
       .nandOpTimeout t 64 15 xNandOp,
       .nandOpTimeout t 63 16 xNandOp,
       .rowFillTimeout t 64 false,
       .dramPatrol t 274877906944 xDramRead,
       .portSignalDetect t 13,
       .portRetrainTimer t 13,
       .portTrainingComplete t 13 partner0 [] [],
       .portTrainingComplete t 12 { partner0 with port := 16 } [] [],
       .portTrainingComplete t 12 partner0 [32] [],
       .portTrainingTimeout t 13] : List Instr)
      = List.replicate 48 false := by
  simp only [List.map_cons, List.map_nil]
  rfl

/-- Commands with one operand that no field can carry. -/
theorem test_wf_refuses_3 (t : Time) (xSendBody : SendBody) (xAckMsg : AckMsg) (xEventMsg : EventMsg) :
    List.map Instr.WellFormed
      ([.laneFault t 13 31 0,
       .laneFault t 12 32 0,
       .lossOfSignal t 13 false,
       .retrainBackoffExpiry t 13,
       .sleepOrderedSet t 13,
       .wakeOrderedSet t 13,
       .flitReceived t 13 false (.data 31),
       .flitReceived t 12 false (.data 32),
       .packetReceived t 13 (packet0 8 5),
       .packetReceived t 12 { packet0 8 5 with tenant := 4096 },
       .write t { hdr0 with tc := 8 } 18446744073709551615 [],
       .write t hdr0 18446744073709551616 [],
       .read t { hdr0 with tc := 8 } 18446744073709551615 0,
       .read t hdr0 18446744073709551616 0,
       .send t { hdr0 with tc := 8 } xSendBody,
       .wait t { hdr0 with tc := 8 } wait0,
       .wait t hdr0 { wait0 with waitChannel := 1048576 },
       .waitTimeout t 1048576,
       .ack t 520 xAckMsg,
       .ackDelayTimeout t 520,
       .retransmitTimeout t 520 0,
       .failedPathProbe t 520 255,
       .failedPathProbe t 519 256,
       .pathProbe t 13 (probe0 0),
       .pathProbe t 12 (probe0 256),
       .pathReply t 520 255 (probe0 0),
       .pathReply t 519 256 (probe0 0),
       .pathReply t 519 255 (probe0 256),
       .probeInit t 520 0,
       .rnr t 520 rnr0,
       .rnr t 519 { rnr0 with msgId := 65536 },
       .rnrRetry t 520 65535 65535,
       .rnrRetry t 519 65536 65535,
       .rnrRetry t 519 65535 65536,
       .readNotPresentTimeout t 1048576 65535,
       .readNotPresentTimeout t 1048575 65536,
       .contextFetchComplete t 1048576,
       .contextFetchTimeout t 1048576,
       .reassemblyTimeout t 65536 65535 65535,
       .reassemblyTimeout t 65535 65536 65535,
       .reassemblyTimeout t 65535 65535 65536,
       .eventReceived t 65536 xEventMsg,
       .cmplReceived t 65536 65535 cmpl0,
       .cmplReceived t 65535 65536 cmpl0,
       .cmplReceived t 65535 65535 { cmpl0 with msgId := 65536 },
       .chanAdminOpen t (.ld 2 0) (open0 1),
       .chanAdminOpen t .mctp (open0 256),
       .chanAdminClose t (.ld 2 0) 4095 1048575] : List Instr)
      = List.replicate 48 false := by
  simp only [List.map_cons, List.map_nil]
  rfl

/-- Commands with one operand that no field can carry. -/
theorem test_wf_refuses_4 (t : Time) :
    List.map Instr.WellFormed
      ([.chanAdminClose t .mctp 4096 1048575,
       .chanAdminClose t .mctp 4095 1048576,
       .chanAdminSubscribe t (.ld 2 0) (open0 1),
       .chanAdminSubscribe t .mctp (open0 256),
       .chanAdminUnsubscribe t (.ld 2 0) (open0 1),
       .chanAdminUnsubscribe t .mctp (open0 256),
       .chanAdminQuery t (.ld 2 0) 4095 1048575,
       .chanAdminQuery t .mctp 4096 1048575,
       .chanAdminQuery t .mctp 4095 1048576,
       .transmitChoice t 13,
       .gateEntryChange t 13,
       .gateListActivate t 13,
       .heartbeat t 13 (probe0 0) none,
       .heartbeat t 12 (probe0 256) none,
       .partnerProbe t 13 (probe0 0),
       .partnerProbe t 12 (probe0 256),
       .partnerReply t 13 (probe0 0),
       .partnerReply t 12 (probe0 256),
       .witnessQuery t 13 (probe0 0),
       .witnessQuery t 12 (probe0 256),
       .witnessReply t 13 (probe0 0),
       .witnessReply t 12 (probe0 256),
       .forceTakeover t (.ld 2 0),
       .parTakeoverReceived t 512 511,
       .parTakeoverReceived t 511 512,
       .cxlMemRead t 2 15 18446744073709551615 none,
       .cxlMemRead t 1 16 18446744073709551615 none,
       .cxlMemRead t 1 15 18446744073709551616 none,
       .cxlMemWrite t 2 15 18446744073709551615 [],
       .cxlMemWrite t 1 16 18446744073709551615 [],
       .cxlMemWrite t 1 15 18446744073709551616 [],
       .bisnpResponse t 2 15 0 none,
       .bisnpResponse t 1 16 0 none,
       .bisnpTimeout t 2 15 0,
       .bisnpTimeout t 1 16 0,
       .cxlLinkDown t 2 false,
       .cxlLinkUp t 2,
       .ldReset t 2 15,
       .ldReset t 1 16,
       .cxlPerst t 2 0,
       .hostFail t (.ld 2 0) 255 255,
       .hostFail t .mctp 256 255,
       .hostFail t .mctp 255 256,
       .regionCreate t (.ld 2 0) req0,
       .regionCreate t .mctp { req0 with window := 256 },
       .regionDelete t (.ld 2 0) 65535,
       .regionDelete t .mctp 65536,
       .regionReset t (.ld 2 0) 65535] : List Instr)
      = List.replicate 48 false := by
  simp only [List.map_cons, List.map_nil]
  rfl

/-- Commands with one operand that no field can carry. -/
theorem test_wf_refuses_5 (t : Time) (xImage : Image) (xIdentityCopy : IdentityCopy) :
    List.map Instr.WellFormed
      ([.regionReset t .mctp 65536,
       .regionMap t (.ld 2 0) req0,
       .regionMap t .mctp { req0 with window := 256 },
       .regionPublish t (.ld 2 0) req0,
       .regionPublish t .mctp { req0 with window := 256 },
       .publishCrcComplete t 2 15,
       .publishCrcComplete t 1 16,
       .regionRetire t (.ld 2 0) 65535 0,
       .regionRetire t .mctp 65536 0,
       .regionHint t (.ld 2 0) req0,
       .regionHint t .mctp { req0 with window := 256 },
       .regionExport t (.ld 2 0) export0,
       .regionExport t .mctp { export0 with layerFirst := 65536 },
       .exportCopyComplete t 2 15,
       .exportCopyComplete t 1 16,
       .regionQuery t (.ld 2 0) 65535,
       .regionQuery t .mctp 65536,
       .statusSnapshot t (.ld 2 0) 255 4294967295,
       .statusSnapshot t .mctp 256 4294967295,
       .statusSnapshot t .mctp 255 4294967296,
       .identifyMemoryDevice t (.ld 2 0),
       .getTimestamp t (.ld 2 0),
       .setTimestamp t (.ld 2 0) 0,
       .getSupportedLogs t (.ld 2 0),
       .getLog t (.ld 2 0) 0 4294967295 4294967295,
       .getLog t .mctp 0 4294967296 4294967295,
       .getLog t .mctp 0 4294967295 4294967296,
       .getEventRecords t (.ld 2 0) 255,
       .getEventRecords t .mctp 256,
       .clearEventRecords t (.ld 2 0) 255 [],
       .clearEventRecords t .mctp 256 [],
       .getEventInterruptPolicy t (.ld 2 0),
       .setEventInterruptPolicy t (.ld 2 0) 0,
       .getPoisonList t (.ld 2 0) 18446744073709551615 4294967295,
       .getPoisonList t .mctp 18446744073709551616 4294967295,
       .getPoisonList t .mctp 18446744073709551615 4294967296,
       .injectPoison t (.ld 2 0) 18446744073709551615,
       .injectPoison t .mctp 18446744073709551616,
       .clearPoison t (.ld 2 0) 18446744073709551615 [],
       .clearPoison t .mctp 18446744073709551616 [],
       .getFwInfo t (.ld 2 0),
       .transferFw t (.ld 2 0) xImage,
       .transferFwIdentity t (.ld 2 0) xIdentityCopy 0,
       .activateFw t (.ld 2 0) 255 false,
       .activateFw t .mctp 256 false,
       .getLdInfo t 2,
       .getLdAllocations t 2,
       .setLdAllocations t 2 255 []] : List Instr)
      = List.replicate 48 false := by
  simp only [List.map_cons, List.map_nil]
  rfl

/-- Commands with one operand that no field can carry. -/
theorem test_wf_refuses_6 (t : Time) (xOwnerView : OwnerView) :
    List.map Instr.WellFormed
      ([.setLdAllocations t 1 256 [],
       .cdatRead t 2 65535,
       .cdatRead t 1 65536,
       .getVersion t 3,
       .getCapabilities t 3,
       .negotiateAlgorithms t 3 false false false,
       .getDigests t 3,
       .getCertificate t 3 255 4294967295 4294967295,
       .getCertificate t 2 256 4294967295 4294967295,
       .getCertificate t 2 255 4294967296 4294967295,
       .getCertificate t 2 255 4294967295 4294967296,
       .challenge t 3 255 0 255,
       .challenge t 2 256 0 255,
       .challenge t 2 255 0 256,
       .getMeasurements t 3 255 false 0,
       .getMeasurements t 2 256 false 0,
       .respondIfReady t 3 0,
       .cfgTxnBegin t (.ld 2 0),
       .cfgTxnWrite t (.ld 2 0) 0 [],
       .cfgTxnCommit t (.ld 2 0) 0 false t,
       .cfgTxnRollback t (.ld 2 0) 0,
       .rwlWrite t (.ld 2 0) 0 0 0,
       .registerWrite t (.ld 2 0) 0 0,
       .handshakeTimeout t (.dram 8 0),
       .mgmtWatchdogTimeout t 4,
       .livenessWrite t 4,
       .powerRequest t (.ld 2 0) 255 255 255,
       .powerRequest t .mctp 256 255 255,
       .powerRequest t .mctp 255 256 255,
       .powerRequest t .mctp 255 255 256,
       .ownerAnswer t 106 xOwnerView,
       .drainEnd t 106,
       .drainTimeout t 106,
       .quiesceComplete t 106,
       .clampComplete t 106,
       .lowerComplete t 106,
       .domainWake t 106 8,
       .domainWake t 105 9,
       .wakeComplete t 106,
       .idlePolicyTimeout t 106,
       .timetableLeadWake t 256,
       .portWakeTimeout t 13] : List Instr)
      = List.replicate 42 false := by
  simp only [List.map_cons, List.map_nil]
  rfl

/-- Every command with its operands at the largest values that their fields carry. -/
theorem test_wf_accepts_1 (t : Time) (xStraps : Straps) (xDistribution : Distribution) (xProbeWait : ProbeWait) :
    List.map Instr.WellFormed
      ([.resetRelease t xStraps,
       .porstLow t 0,
       .resetGlitchFiltered t (.strap 3) 0,
       .clk25Stop t 0,
       .railMonitorTrip t 11 0,
       .thermalTrip t 100 0 0,
       .sensorSample t (List.replicate 101 40),
       .powerBudgetTick t 0,
       .romSelftestDone t false 0,
       .bankVerifyDone t false false false,
       .dramTrainingDone t 2 [] [],
       .nandDiscoveryDone t [],
       .directoryRecoveryDone t [] [],
       .startupStepTimeout t 8,
       .sync t 12 syncMsg0,
       .syncInterval t,
       .syncSilenceTimeout t,
       .gmAnnounceTimeout t,
       .acquireTimeout t,
       .holdoverTimeout t,
       .gmReturn t,
       .ppsInEdge t 0,
       .ppsMissingTimeout t,
       .fabricTimeReadLow t .mctp,
       .frameBoundary t,
       .timetableActivate t,
       .timetableDistribution t 511 xDistribution,
       .resultSlotStart t 255,
       .wstreamSlotStart t 255,
       .append t .mctp (append0 16 0),
       .seqAdminOpen t .mctp 4095 255 255 65535,
       .seqAdminClose t .mctp 4095 0,
       .seqAdminPark t .mctp 4095 0,
       .seqAdminResume t .mctp 4095 0,
       .seqAdminTruncate t .mctp 4095 0 4294967295,
       .seqAdminQuery t .mctp 4095 0,
       .seqAdminJoin t .mctp 4095 0 65535 65535,
       .seqAdminLeave t .mctp 4095 0 65535,
       .idlePark t 16777215,
       .parkComplete t 16777215,
       .resumeComplete t 16777215,
       .closeComplete t 16777215,
       .appendHoldTimeout t 16777215,
       .evictionParkTimeout t 0,
       .lookup t .mctp (lookup0 5) [],
       .attach t .mctp attach0,
       .nodeRetentionExpired t 67108863,
       .arrayBlockMoveComplete t 31,
       .shadowSweepRead t 0,
       .dirProbeWaitTimeout t xProbeWait,
       .pinGranted t 0 0,
       .pinWaitTimeout t 0,
       .pinRelease t 0 0,
       .pageReclaim t 0,
       .attend t .mctp 12 attend0,
       .tileComplete t 0 0 false] : List Instr)
      = List.replicate 56 true := by
  simp only [List.map_cons, List.map_nil]
  rfl

/-- Every command with its operands at the largest values that their fields carry. -/
theorem test_wf_accepts_2 (t : Time) (xDatum : Datum) (xLadder : Ladder) (xNandOp : NandOp) (xDramRead : DramRead) (xSendBody : SendBody) (xAckMsg : AckMsg) :
    List.map Instr.WellFormed
      ([.mergeStep t 0 0 0 0 16777215 false,
       .spareTakeover t 63 false,
       .modelLoad t .mctp model0,
       .modelUnload t .mctp 255,
       .modelUnloadComplete t 255,
       .promote t .mctp promote0,
       .moveStart t 0,
       .moveCopyComplete t 0 false,
       .pinGrantHoldTimeout t 0,
       .drainFree t xDatum,
       .drainWaitTimeout t 0,
       .t1AllocGranted t 0,
       .t1AllocTimeout t 0,
       .heatAgeTick t,
       .refetchArrived t xDatum,
       .refetchTimeout t xDatum,
       .objAdminCreate t .mctp objReq,
       .objAdminSeal t .mctp 4095 65535,
       .objAdminDelete t .mctp 4095 65535,
       .objAdminQuery t .mctp 4095 65535,
       .objAdminReopen t .mctp 4095 65535,
       .objAdminCopyIn t .mctp objReq,
       .objectDeleteComplete t 65535,
       .wstream t .mctp 12 wstream0,
       .nandReadComplete t 0 xLadder,
       .nandProgramComplete t 63 false none,
       .nandEraseComplete t 63 4095 15 false,
       .nandOpTimeout t 63 15 xNandOp,
       .rowFillTimeout t 63 false,
       .patrolRead t 0 false xLadder,
       .checkpointStart t,
       .dramPatrol t 274877906943 xDramRead,
       .portSignalDetect t 12,
       .portRetrainTimer t 12,
       .portTrainingComplete t 12 partner0 [] [],
       .portTrainingTimeout t 12,
       .laneFault t 12 31 0,
       .lossOfSignal t 12 false,
       .retrainBackoffExpiry t 12,
       .sleepOrderedSet t 12,
       .wakeOrderedSet t 12,
       .flitReceived t 12 false (.data 31),
       .packetReceived t 12 (packet0 8 5),
       .write t hdr0 18446744073709551615 [],
       .read t hdr0 18446744073709551615 0,
       .send t hdr0 xSendBody,
       .wait t hdr0 wait0,
       .waitTimeout t 1048575,
       .ack t 519 xAckMsg,
       .ackDelayTimeout t 519,
       .retransmitTimeout t 519 0,
       .failedPathProbe t 519 255,
       .pathProbe t 12 (probe0 0),
       .pathReply t 519 255 (probe0 0),
       .probeInit t 519 0,
       .rnr t 519 rnr0] : List Instr)
      = List.replicate 56 true := by
  simp only [List.map_cons, List.map_nil]
  rfl

/-- Every command with its operands at the largest values that their fields carry. -/
theorem test_wf_accepts_3 (t : Time) (xEventMsg : EventMsg) (xCommitHdr : CommitHdr) (xPairOp : PairOp) (xStatus : Status) (xDatum : Datum) :
    List.map Instr.WellFormed
      ([.rnrRetry t 519 65535 65535,
       .readNotPresentTimeout t 1048575 65535,
       .contextFetchComplete t 1048575,
       .contextFetchTimeout t 1048575,
       .reassemblyTimeout t 65535 65535 65535,
       .eventReceived t 65535 xEventMsg,
       .cmplReceived t 65535 65535 cmpl0,
       .chanAdminOpen t .mctp (open0 1),
       .chanAdminClose t .mctp 4095 1048575,
       .chanAdminSubscribe t .mctp (open0 1),
       .chanAdminUnsubscribe t .mctp (open0 1),
       .chanAdminQuery t .mctp 4095 1048575,
       .transmitChoice t 12,
       .gateEntryChange t 12,
       .gateListActivate t 12,
       .bucketCreditTick t,
       .heartbeatTimer t,
       .heartbeat t 12 (probe0 0) none,
       .partnerProbe t 12 (probe0 0),
       .partnerReply t 12 (probe0 0),
       .witnessQuery t 12 (probe0 0),
       .witnessReply t 12 (probe0 0),
       .partnerProbeRepeat t,
       .pairSilenceTimeout t,
       .pairLossTimeout t,
       .joinTimeout t,
       .pausedRestore t,
       .forceTakeover t .mctp,
       .parTakeoverReceived t 511 511,
       .pairCommitReceived t xCommitHdr xPairOp,
       .pairCommitComplete t 0 xStatus,
       .mirrorCopyComplete t xDatum,
       .resyncComplete t,
       .cxlMemRead t 1 15 18446744073709551615 none,
       .cxlMemWrite t 1 15 18446744073709551615 [],
       .bisnpResponse t 1 15 0 none,
       .bisnpTimeout t 1 15 0,
       .cxlLinkDown t 1 false,
       .cxlLinkUp t 1,
       .ldReset t 1 15,
       .cxlPerst t 1 0,
       .hostFail t .mctp 255 255,
       .regionCreate t .mctp req0,
       .regionDelete t .mctp 65535,
       .regionReset t .mctp 65535,
       .regionMap t .mctp req0,
       .regionPublish t .mctp req0,
       .publishCrcComplete t 1 15,
       .regionRetire t .mctp 65535 0,
       .regionHint t .mctp req0,
       .regionExport t .mctp export0,
       .exportCopyComplete t 1 15,
       .regionQuery t .mctp 65535,
       .statusSnapshot t .mctp 255 4294967295,
       .identifyMemoryDevice t .mctp,
       .getTimestamp t .mctp] : List Instr)
      = List.replicate 56 true := by
  simp only [List.map_cons, List.map_nil]
  rfl

/-- Every command with its operands at the largest values that their fields carry. -/
theorem test_wf_accepts_4 (t : Time) (xImage : Image) (xIdentityCopy : IdentityCopy) (xOwnerView : OwnerView) :
    List.map Instr.WellFormed
      ([.setTimestamp t .mctp 0,
       .getSupportedLogs t .mctp,
       .getLog t .mctp 0 4294967295 4294967295,
       .getEventRecords t .mctp 255,
       .clearEventRecords t .mctp 255 [],
       .getEventInterruptPolicy t .mctp,
       .setEventInterruptPolicy t .mctp 0,
       .getPoisonList t .mctp 18446744073709551615 4294967295,
       .injectPoison t .mctp 18446744073709551615,
       .clearPoison t .mctp 18446744073709551615 [],
       .getFwInfo t .mctp,
       .transferFw t .mctp xImage,
       .transferFwIdentity t .mctp xIdentityCopy 0,
       .activateFw t .mctp 255 false,
       .getLdInfo t 1,
       .getLdAllocations t 1,
       .setLdAllocations t 1 255 [],
       .cdatRead t 1 65535,
       .getVersion t 2,
       .getCapabilities t 2,
       .negotiateAlgorithms t 2 false false false,
       .getDigests t 2,
       .getCertificate t 2 255 4294967295 4294967295,
       .challenge t 2 255 0 255,
       .getMeasurements t 2 255 false 0,
       .respondIfReady t 2 0,
       .spdmSignatureComplete t,
       .cfgTxnBegin t .mctp,
       .cfgTxnWrite t .mctp 0 [],
       .cfgTxnCommit t .mctp 0 false t,
       .cfgTxnRollback t .mctp 0,
       .txnIdleTimeout t,
       .nvmWriteComplete t false,
       .rwlWrite t .mctp 0 0 0,
       .registerWrite t .mctp 0 0,
       .handshakeTimeout t (.dram 7 31),
       .mgmtWatchdogTimeout t 3,
       .livenessTimeout t,
       .livenessWrite t 3,
       .powerRequest t .mctp 255 255 255,
       .ownerAnswer t 105 xOwnerView,
       .drainEnd t 105,
       .drainTimeout t 105,
       .quiesceComplete t 105,
       .clampComplete t 105,
       .lowerComplete t 105,
       .domainWake t 105 8,
       .wakeComplete t 105,
       .idlePolicyTimeout t 105,
       .timetableLeadWake t 255,
       .vddAonRemoval t,
       .portWakeTimeout t 12] : List Instr)
      = List.replicate 52 true := by
  simp only [List.map_cons, List.map_nil]
  rfl

/-- Records with one field too wide, and the record itself. -/
theorem test_wf_records :
    (List.map MsgHdr.wf
      [{ hdr0 with src := 65536 },
       { hdr0 with dst := 65536 },
       { hdr0 with port := 13 },
       { hdr0 with tc := 8 },
       { hdr0 with tenant := 4096 },
       { hdr0 with channel := 1048576 },
       { hdr0 with msgId := 65536 }]
      = List.replicate 7 false ∧ (hdr0).wf = true)
    ∧ (List.map AppendMsg.wf
      [{ append0 16 0 with position := 4294967296 },
       { append0 16 0 with count := 65536 },
       { append0 16 0 with layer := 65536 },
       { append0 16 0 with format := 256 },
       { append0 16 0 with bodyLen := 4294967296 }]
      = List.replicate 5 false ∧ (append0 16 0).wf = true)
    ∧ (List.map LookupMsg.wf
      [{ lookup0 5 with scope := 65536 },
       { lookup0 5 with model := 256 },
       { lookup0 5 with format := 256 },
       { lookup0 5 with reservedFlags := 256 },
       { lookup0 5 with startDepth := 65536 },
       { lookup0 5 with count := 65536 }]
      = List.replicate 6 false ∧ (lookup0 5).wf = true)
    ∧ (List.map AttachMsg.wf
      [{ attach0 with depth := 65536 },
       { attach0 with scope := 65536 }]
      = List.replicate 2 false ∧ (attach0).wf = true)
    ∧ (List.map AttendMsg.wf
      [{ attend0 with stream := 65536 },
       { attend0 with model := 256 },
       { attend0 with qFormat := 256 },
       { attend0 with outFormat := 256 },
       { attend0 with outMode := 256 },
       { attend0 with layer := 65536 },
       { attend0 with kvhFirst := 256 },
       { attend0 with kvhCount := 256 },
       { attend0 with window := 4294967296 },
       { attend0 with segCount := 65536 },
       { attend0 with sinkTokens := 65536 },
       { attend0 with rowCount := 65536 },
       { attend0 with bodyLen := 4294967296 }]
      = List.replicate 13 false ∧ (attend0).wf = true)
    ∧ (List.map ModelDesc.wf
      [{ model0 with model := 256 },
       { model0 with headDimCode := 256 },
       { model0 with layers := 65536 },
       { model0 with kvHeads := 256 },
       { model0 with g := 256 },
       { model0 with t0Bytes := 4294967296 },
       { model0 with seats := 4294967296 },
       { model0 with t1Bytes := 18446744073709551616 },
       { model0 with slotCount := 65536 },
       { model0 with sliceCode := 256 },
       { model0 with streamCount := 256 }]
      = List.replicate 11 false ∧ (model0).wf = true)
    ∧ (List.map PromoteMsg.wf
      [{ promote0 with layerFirst := 65536 },
       { promote0 with layerCount := 65536 },
       { promote0 with pageFirst := 4294967296 },
       { promote0 with pageCount := 4294967296 },
       { promote0 with reservedFlags := 256 }]
      = List.replicate 5 false ∧ (promote0).wf = true)
    ∧ (List.map WStreamMsg.wf
      [{ wstream0 with stream := 65536 },
       { wstream0 with itemCount := 65536 },
       { wstream0 with destChannel := 4294967296 },
       { wstream0 with bodyLen := 4294967296 }]
      = List.replicate 4 false ∧ (wstream0).wf = true)
    ∧ (List.map WaitMsg.wf
      [{ wait0 with waitChannel := 1048576 },
       { wait0 with timeoutUs := 4294967296 }]
      = List.replicate 2 false ∧ (wait0).wf = true)
    ∧ (List.map ObjAdmin.wf
      [{ objReq with subop := 256 },
       { objReq with tenant := 4096 },
       { objReq with object := 4294967296 },
       { objReq with size := 18446744073709551616 },
       { objReq with offset := 18446744073709551616 },
       { objReq with region := 65536 },
       { objReq with regionOffset := 18446744073709551616 }]
      = List.replicate 7 false ∧ (objReq).wf = true)
    ∧ (List.map ChanAdmin.wf
      [{ open0 1 with subop := 256 },
       { open0 1 with kind := 256 },
       { open0 1 with tenant := 4096 },
       { open0 1 with channel := 4294967296 },
       { open0 1 with peer := 65536 },
       { open0 1 with access := 256 },
       { open0 1 with target := 4294967296 },
       { open0 1 with len4k := 4294967296 }]
      = List.replicate 8 false ∧ (open0 1).wf = true)
    ∧ (List.map Packet.wf
      [{ packet0 8 5 with dst := 65536 },
       { packet0 8 5 with src := 65536 },
       { packet0 8 5 with opcode := 256 },
       { packet0 8 5 with tc := 8 },
       { packet0 8 5 with tenant := 4096 },
       { packet0 8 5 with channel := 1048576 },
       { packet0 8 5 with pathId := 256 },
       { packet0 8 5 with msgId := 65536 },
       { packet0 8 5 with fragIndex := 65536 },
       { packet0 8 5 with fragCount := 65536 },
       { packet0 8 5 with length := 65536 },
       { packet0 8 5 with addr := 18446744073709551616 },
       { packet0 8 5 with opWord := 4294967296 },
       { packet0 8 5 with payload := List.replicate 4097 0 }]
      = List.replicate 14 false ∧ (packet0 8 5).wf = true)
    ∧ (List.map RnrMsg.wf
      [{ rnr0 with msgId := 65536 },
       { rnr0 with fragIndex := 65536 },
       { rnr0 with retryAfterNs := 4294967296 }]
      = List.replicate 3 false ∧ (rnr0).wf = true)
    ∧ (List.map ProbeMsg.wf
      [{ probe0 0 with kind := 256 },
       { probe0 0 with device := 512 },
       { probe0 0 with pairState := 256 },
       { probe0 0 with subject := 65536 }]
      = List.replicate 4 false ∧ (probe0 0).wf = true)
    ∧ (List.map CmplMsg.wf
      [{ cmpl0 with msgId := 65536 }]
      = List.replicate 1 false ∧ (cmpl0).wf = true)
    ∧ (List.map LinkIdentity.wf
      [{ partner0 with device := 512 },
       { partner0 with port := 16 }]
      = List.replicate 2 false ∧ (partner0).wf = true)
    ∧ (List.map SyncMsg.wf
      [{ syncMsg0 with gmDevice := 512 },
       { syncMsg0 with gmRank := 256 }]
      = List.replicate 2 false ∧ (syncMsg0).wf = true)
    ∧ (List.map RegionReq.wf
      [{ req0 with region := 65536 },
       { req0 with arg := 256 },
       { req0 with slot := 256 },
       { req0 with window := 256 },
       { req0 with srcRegion := 65536 },
       { req0 with offset := 18446744073709551616 },
       { req0 with length := 18446744073709551616 },
       { req0 with dpaBase := 18446744073709551616 }]
      = List.replicate 8 false ∧ (req0).wf = true)
    ∧ (List.map ExportReq.wf
      [{ export0 with region := 65536 },
       { export0 with layerFirst := 65536 },
       { export0 with layerCount := 65536 },
       { export0 with pageFirst := 4294967296 },
       { export0 with pageCount := 4294967296 }]
      = List.replicate 5 false ∧ (export0).wf = true) := by decide +kernel

theorem test_wf_cases :
    Requester.wf (.ld 0 16) = false ∧ Requester.wf (.auvas { hdr0 with channel := 1048576 } 0) = false ∧ Requester.wf .device = true
    ∧ ResetPin.wf (.cxlPerst 2) = false ∧ ResetPin.wf .porst = true ∧ Island.wf (.core 68) = false ∧ Island.wf (.link 13) = false
    ∧ Island.wf (.dram 0 32) = false ∧ Island.wf (.nand 64) = false ∧ Island.wf .mgmt = true
    ∧ Flit.wf (.data 0) = false ∧ Flit.wf (.control ⟨0, List.replicate 32 1, List.replicate 8 0, 0⟩) = false
    ∧ Flit.wf (.control ⟨0, [], List.replicate 7 0, 0⟩) = false ∧ Flit.wf (.control ⟨0, [], List.replicate 8 0, 0⟩) = true
    ∧ isPeer 520 = false ∧ isPeer 2048 = false ∧ isPeer 1543 = true ∧ isStep 9 = false ∧ isStep 1 = true := by decide

/-! ## The manual's worked examples -/

/-- 00: comparing across a frame-counter wrap. -/
theorem test_serial_across_wrap :
    serialLt (0xFFFFFFF0 : Frame) 0x10 = true ∧ serialLt (0x10 : Frame) 0xFFFFFFF0 = false := by decide

/-- 02: a timetable whose base time has passed: B + 70 µs and one frame of 8 µs, in cycles of 32 µs, is the third cycle. -/
theorem test_effective_time : cyclesTo 0 (us 78) (16 * 32000) = 3 := by decide

/-- 03: page sizes of Brimwell-30 and Crownfold-96. -/
theorem test_page_sizes :
    pageBytes 5 80 .e4m3 = 12800 ∧ pageUnits 5 80 .e4m3 = 4 ∧ pageBytes 16 192 .bf16 = 196608 ∧ pageUnits 16 192 .bf16 = 48 := by decide

/-- 06: the visible pages of a windowed row: 0, 1 and 248 to 312. -/
theorem test_windowed_pages :
    let m := { attend0 with
      flags := 3
      window := 1024
      sinkTokens := 32 }
    visible m 5000 31 5001 = true ∧ visible m 5000 32 5001 = false ∧ visible m 5000 3976 5001 = false ∧ visible m 5000 3977 5001 = true
      ∧ visible m 5000 5000 5001 = true
      ∧ ((List.range 16).filter fun t => visible m 5000 (16 * 248 + t) 5001).length = 7
      ∧ ((List.range 16).filter fun t => visible m 5000 (16 * 312 + t) 5001).length = 9
      ∧ ceilDiv 67 4 = 17 ∧ sliceOrds 4 67 16 = [64, 65, 66] := by decide +kernel

/-- 06: admitting Crownfold-96: 40,000 seats and 64 GiB with 36,000 seats and 60 GiB free; with 34,000 seats free it is refused. -/
theorem test_admission :
    let gib : Nat := 1073741824
    let d := { model0 with
      seats := 40000
      t1Bytes := 64 * gib }
    let short : Shortfall := ⟨0, 4000, 4 * gib, 0⟩
    decide (d.seats / 8 < short.seats) = false ∧ decide (d.t1Bytes / 8 < short.t1) = false
      ∧ min 40000 (min 36000 (40000 * (60 * gib) / (64 * gib))) = 36000
      ∧ d.seats / 8 = 5000 := by decide

/-- 08: a compressed page at flash unit 0x21_1A50_2A3C: band 421, row 180, parity at position 5, data on positions 3, 4 and 6. -/
theorem test_flash_unit :
    bandOfUnit 0x211A502A3C % 4096 = 421 ∧ unitInBand 0x211A502A3C = 10812
      ∧ (pagesRead 0x211A502A3C 11).map (·.2) = [3, 4, 6] ∧ (pagesRead 0x211A502A3C 11).map (·.1) = [180, 180, 180] := by decide

/-- 09: a threshold across the wrap of a completion counter. -/
theorem test_wait_threshold :
    serialLe (0x00000001 : BitVec 32) 0xFFFFFFFE = false ∧ serialLe (0x00000001 : BitVec 32) 0x00000001 = true := by decide

/-- 10: a tenant over its rate: 8,192 tokens, fragments of 4,180 bytes. -/
theorem test_policer :
    let p : Policer := { cir := 4000, cbs4k := 2, enable := true, tokens := 4012, drops := 0, last := 10, event := none }
    policeRetry p 4180 = 1000 ∧ (p.refill 11).tokens = 8012 ∧ (p.refill 12).tokens = 8192 ∧ (p.refill 10).tokens = 4012 := by decide

/-- 10: on 16 lanes a packet of 4,096 bytes takes 6 ns, those of 512 and 1,024 bytes 2 ns each. -/
theorem test_packet_time :
    let s := (portIn 3 fun q => { q with lanes := List.range 16 }).dev
    let k (n : Nat) : Packet := { packet0 34 5 with
      length := n
      payload := List.replicate n 0 }
    wireNs s 3 (k 512) = 2 ∧ wireNs s 3 (k 1024) = 2 ∧ wireNs s 3 (k 4096) = 6 := by decide +kernel

/-- 13: a newer bank below the floor. -/
theorem test_bank_floor :
    let a := { img0 with
      seq := 0xFFFFFFFF
      secVersion := 5
      secFloor := 5 }
    let b := { img0 with
      seq := 0
      secVersion := 4
      secFloor := 4 }
    floorOf [(false, a), (true, b)] = 5 ∧ decide (5 ≤ b.secVersion) = false ∧ serialLt a.seq b.seq = true := by decide

/-! ## Steps -/

/-- R474: a byte written reads back, and its neighbour stays. -/
theorem test_memory : memRead (memWriteN [] 64 [7]) 64 = 7 ∧ memRead (memWriteN [] 64 [7]) 65 = 0 := by decide

/-- R123: a truncation beyond the sequence's length is refused, one to its length is not. -/
theorem test_truncate_range :
    (applyTruncate 0 17 (seqIn .seated).dev).status = St.kvsRange ∧ (applyTruncate 0 16 (seqIn .seated).dev).status = St.ok := by decide +kernel

/-- R597: a tripped device leaves a command without effect, and the command leaves the queue. -/
theorem test_tripped :
    let d := { dev0 with pwr.tripped := true }
    step ⟨[.cfgTxnBegin 0 .mctp], d⟩ = .next ⟨[], d⟩ := by rfl

/-- An empty queue: the block idles (log entry 2). -/
theorem test_idle : step State.reset = .next State.reset := by rfl

end Sys2Proof.Tests
end

section
/-! PROOFS. The serial comparison of R11: each comparison says where the difference `(b − a) mod 2^w` lies against half the range, and
swapping the operands takes the difference to its complement. -/

namespace Sys2Proof

variable {w : Nat} {a b : BitVec w}

theorem serialLt_iff : serialLt a b = true ↔ 0 < (b - a).toNat ∧ (b - a).toNat < 2 ^ (w - 1) := by
  simp only [serialLt, Bool.and_eq_true, decide_eq_true_eq]

theorem serialLe_iff : serialLe a b = true ↔ (b - a).toNat < 2 ^ (w - 1) := by
  simp only [serialLe, decide_eq_true_eq]

/-- Operands half the range apart are ordered neither way. -/
theorem serialLt_half (h : (b - a).toNat = 2 ^ (w - 1)) : serialLt a b = false :=
  Bool.eq_false_iff.mpr fun hlt => Nat.ne_of_lt (serialLt_iff.mp hlt).2 h

theorem serialLe_half (h : (b - a).toNat = 2 ^ (w - 1)) : serialLe a b = false :=
  Bool.eq_false_iff.mpr fun hle => Nat.ne_of_lt (serialLe_iff.mp hle) h

/-- The difference the other way round, of unequal operands, is the complement to `2 ^ w`. -/
theorem toNat_sub_comm_of_pos (h : 0 < (b - a).toNat) : (a - b).toNat = 2 ^ w - (b - a).toNat := by
  have hneg : a - b = -(b - a) := by rw [BitVec.neg_sub, BitVec.add_comm, ← BitVec.sub_eq_add_neg]
  rw [hneg, BitVec.toNat_neg]
  exact Nat.mod_eq_of_lt (Nat.sub_lt (Nat.two_pow_pos w) h)

/-- A difference below half the range has its complement above half the range. -/
theorem serialLt_asymm (h : serialLt a b = true) : serialLt b a = false := by
  obtain ⟨hpos, hlt⟩ := serialLt_iff.mp h
  have hback : (a - b).toNat = 2 ^ w - (b - a).toNat := toNat_sub_comm_of_pos hpos
  have hw : 0 < w := Nat.pos_of_ne_zero fun hzero => by
    subst hzero
    have hbound : (b - a).toNat < 2 ^ 0 := (b - a).isLt
    omega
  have hhalf : 2 ^ (w - 1) + 2 ^ (w - 1) = 2 ^ w := Nat.two_pow_pred_add_two_pow_pred hw
  refine Bool.eq_false_iff.mpr fun hrev => ?_
  have := (serialLt_iff.mp hrev).2
  omega

/-- Settles O6: the two comparisons by their ranges of the difference, and the asymmetry by its complement. -/
theorem serialOrder : Obligations.SerialOrder := by
  unfold Obligations.SerialOrder
  intro w a b
  have hd : (b - a).toNat = (b.toNat + (2 ^ w - a.toNat)) % 2 ^ w := by
    rw [BitVec.toNat_sub, Nat.add_comm]
  exact ⟨hd, serialLt_iff, serialLe_iff, fun h => ⟨serialLt_half h, serialLe_half h⟩, serialLt_asymm⟩

end Sys2Proof
end

section
/-! PROOFS. The correction of a time offset (R43): one equation for each of the three ranges of the offset, measured against 1 µs (16000 units).
That a correction shows as the held slew and its limit is the model's reading (log entry 7). -/

namespace Sys2Proof

open Machine

variable {off : Int}

theorem correct_of_behind (h : off < -16000) (d : Dev) :
    correct off d = { d with
      sync.time := d.sync.time + BitVec.ofInt 64 (-off)
      sync.slew := 0
      sync.slewPpm := 0 } :=
  if_pos h

/-- An offset ahead by more than 1 µs is not behind, so the first test fails and the second holds. -/
theorem correct_of_ahead (h : 16000 < off) (d : Dev) :
    correct off d = { d with sync.slew := -off, sync.slewPpm := 500 } := by
  have hbehind : ¬ off < -16000 := by omega
  rw [correct, if_neg hbehind, if_pos h]

/-- Both bounds belong to the slow slew: at 1 µs exactly, either way, neither strict test holds. -/
theorem correct_of_near (hlo : -16000 ≤ off) (hhi : off ≤ 16000) (d : Dev) :
    correct off d = { d with sync.slew := -off, sync.slewPpm := 50 } := by
  rw [correct, if_neg (Int.not_lt.mpr hlo), if_neg (Int.not_lt.mpr hhi)]

/-- Settles O9: one equation of `correct` for each range of the offset. -/
theorem offsetCorrection : Obligations.OffsetCorrection := by
  unfold Obligations.OffsetCorrection
  intro off d
  exact ⟨fun h => correct_of_behind h d, fun h => correct_of_ahead h d, fun hlo hhi => correct_of_near hlo hhi d⟩

end Sys2Proof
end

section
/-! PROOFS. The fields of endpoints and device IDs (R352). The model reads a field by dividing by the place of its lowest bit and taking the
remainder by its size; that is the slice of the word at those bits. -/

namespace Sys2Proof

open Machine

/-- The slice of `len` bits from bit `lo`, by division and remainder. -/
theorem toNat_extractLsb'_eq_div_mod {w : Nat} (v : BitVec w) (lo len : Nat) :
    (v.extractLsb' lo len).toNat = v.toNat / 2 ^ lo % 2 ^ len := by
  rw [BitVec.extractLsb'_toNat, Nat.shiftRight_eq_div_pow]

theorem endpointDevice_toNat (e : BitVec 16) : endpointDevice e.toNat = (e.extractLsb' 7 9).toNat :=
  (toNat_extractLsb'_eq_div_mod e 7 9).symm

/-- The lowest field: the division is by 1. -/
theorem endpointNumber_toNat (e : BitVec 16) : endpointNumber e.toNat = (e.extractLsb' 0 7).toNat := by
  rw [toNat_extractLsb'_eq_div_mod, Nat.pow_zero, Nat.div_one]
  rfl

theorem deviceX_toNat (d : BitVec 9) : deviceX d.toNat = (d.extractLsb' 5 4).toNat :=
  (toNat_extractLsb'_eq_div_mod d 5 4).symm

theorem deviceY_toNat (d : BitVec 9) : deviceY d.toNat = (d.extractLsb' 1 4).toNat :=
  (toNat_extractLsb'_eq_div_mod d 1 4).symm

theorem deviceSide_toNat (d : BitVec 9) : deviceSide d.toNat = (d.extractLsb' 0 1).toNat := by
  rw [toNat_extractLsb'_eq_div_mod, Nat.pow_zero, Nat.div_one]
  rfl

/-- Settles O8: each field is the slice of its bits. -/
theorem endpointFields : Obligations.EndpointFields := by
  unfold Obligations.EndpointFields
  intro e
  exact ⟨endpointDevice_toNat e, endpointNumber_toNat e, fun d => ⟨deviceX_toNat d, deviceY_toNat d, deviceSide_toNat d⟩⟩

end Sys2Proof
end

section
/-! PROOFS. The map of T1 addresses (R550). The frame number is the slice of address bits [37:12], so addresses with one slice share the frame,
and with it the stack and the channel. -/

namespace Sys2Proof

open Machine

theorem frameOf_toNat (a : BitVec 64) : frameOf a.toNat = (a.extractLsb' 12 26).toNat :=
  (toNat_extractLsb'_eq_div_mod a 12 26).symm

theorem stackOf_frameOf_toNat (a : BitVec 64) : stackOf (frameOf a.toNat) = (a.extractLsb' 12 26).toNat % 8 := by
  rw [frameOf_toNat, stackOf]

theorem channelOf_frameOf_toNat (a : BitVec 64) : channelOf (frameOf a.toNat) = (a.extractLsb' 12 26).toNat / 8 % 32 := by
  rw [frameOf_toNat, channelOf]

theorem frameOf_eq_of_slice_eq {a b : BitVec 64} (h : b.extractLsb' 12 26 = a.extractLsb' 12 26) : frameOf b.toNat = frameOf a.toNat := by
  rw [frameOf_toNat, frameOf_toNat, h]

/-- Settles O7: the slice gives the frame, the frame the stack and the channel; the bits outside the slice decide neither. -/
theorem dramAddresses : Obligations.DramAddresses := by
  unfold Obligations.DramAddresses
  intro a
  refine ⟨frameOf_toNat a, stackOf_frameOf_toNat a, channelOf_frameOf_toNat a, fun b h => ?_⟩
  have hframe : frameOf b.toNat = frameOf a.toNat := frameOf_eq_of_slice_eq h
  exact ⟨congrArg stackOf hframe, congrArg channelOf hframe⟩

end Sys2Proof
end

section
/-! PROOFS. The queue and the gate of sleep. Every meaning is an effect on the device (`run`), and the effect of every row that is no pin event
stands behind the gate of sleep; what the queue does and what a sleeping or tripped device keeps follow from these two facts. -/

namespace Sys2Proof

open Machine

/-- Every row of the dispatch is an effect on the device. -/
theorem exec_eq_run (c : Instr) (s : State) : ∃ f : Dev → Dev, exec c s = run f s := by
  cases c <;> exact ⟨_, rfl⟩

/-- Settles O1: the two arms of `step`. -/
theorem stepTakesTheFront : Obligations.StepTakesTheFront :=
  ⟨fun _ _ _ => rfl, fun _ => rfl⟩

theorem exec_leaves_pending (c : Instr) (s : State) : ∃ d : Dev, exec c s = .next ⟨s.pending, d⟩ := by
  obtain ⟨f, hf⟩ := exec_eq_run c s
  exact ⟨f s.dev, hf⟩

/-- One step takes the front off the queue, where there is one. -/
theorem step_drops_front (s : State) : ∃ d : Dev, step s = .next ⟨s.pending.drop 1, d⟩ := by
  obtain ⟨q, d⟩ := s
  cases q with
  | nil => exact ⟨d, rfl⟩
  | cons c rest => exact exec_leaves_pending c ⟨rest, d⟩

theorem run_drops (n : Nat) (s : State) : ∃ d : Dev, Host.Core.run core n s = .next ⟨s.pending.drop n, d⟩ := by
  induction n generalizing s with
  | zero => exact ⟨s.dev, rfl⟩
  | succ n ih =>
    obtain ⟨d, hd⟩ := step_drops_front s
    obtain ⟨e, he⟩ := ih ⟨s.pending.drop 1, d⟩
    refine ⟨e, ?_⟩
    have hstep : core.step s = .next ⟨s.pending.drop 1, d⟩ := hd
    have hrun : Host.Core.run core (n + 1) s = Host.Core.run core n ⟨s.pending.drop 1, d⟩ := by
      simp only [Host.Core.run, hstep]
    rw [hrun, he, List.drop_drop, Nat.add_comm]

/-- Settles O2: each command is an effect on the device, and a run of `n` steps is `n` of them. -/
theorem queueDrains : Obligations.QueueDrains :=
  ⟨exec_leaves_pending, fun s n => run_drops n s⟩

theorem run_awake_asleep {s : State} {t : Time} {f : Dev → Dev} (h : s.dev.asleep = true) : run (awake t f) s = .next s := by
  rw [run_eq, awake_asleep h]

theorem run_service_asleep {s : State} {t : Time} {f : Dev → Dev} (h : s.dev.asleep = true) : run (service t f) s = .next s := by
  rw [run_eq, service_asleep h]

theorem run_seqAdmin_asleep {s : State} {t : Time} {rq : Requester} {f : Dev → Dev} (h : s.dev.asleep = true) :
    run (seqAdmin t rq f) s = .next s := by
  rw [seqAdmin, vendor, run_awake_asleep h]

/-- A row that is no pin event has no effect on a sleeping device: it stands behind the gate `awake` or behind the gate `service`. -/
theorem exec_asleep {c : Instr} {s : State} (hpin : isPinEvent c = false) (h : s.dev.asleep = true) : exec c s = .next s := by
  cases c
  case resetRelease | porstLow | resetGlitchFiltered | clk25Stop | railMonitorTrip | thermalTrip | vddAonRemoval => cases hpin
  case append | attend | attach | lookup | idlePark | nodeRetentionExpired | dirProbeWaitTimeout | promote | resultSlotStart | wstream
      | wstreamSlotStart | write | read | send | wait | waitTimeout => exact run_service_asleep h
  case seqAdminOpen | seqAdminClose | seqAdminPark | seqAdminResume | seqAdminTruncate | seqAdminQuery | seqAdminJoin | seqAdminLeave =>
    exact run_seqAdmin_asleep h
  all_goals exact run_awake_asleep h

/-- Settles O3: the front of the queue is no pin event, so it has no effect, and the rest of the queue holds none either. -/
theorem sleepIsKept : Obligations.SleepIsKept := by
  unfold Obligations.SleepIsKept
  rintro ⟨q, d⟩ t ⟨hsleep, hq⟩ hstep
  cases q with
  | nil =>
    obtain rfl : (⟨[], d⟩ : State) = t := Host.Outcome.next.inj hstep
    exact ⟨⟨hsleep, hq⟩, rfl⟩
  | cons c rest =>
    have hexec : exec c ⟨rest, d⟩ = .next ⟨rest, d⟩ := exec_asleep (hq c List.mem_cons_self) hsleep
    obtain rfl : (⟨rest, d⟩ : State) = t := Host.Outcome.next.inj (hexec.symm.trans hstep)
    exact ⟨⟨hsleep, fun x hx => hq x (List.mem_cons_of_mem c hx)⟩, rfl⟩

theorem asleep_of_tripped {d : Dev} (h : d.pwr.tripped = true) : d.asleep = true := by
  simp [Dev.asleep, h]

/-- The pin events other than `PORST_n` low for 200 ns and the removal of `VDD_AON` leave the trip and its pin as they are. -/
theorem pinEvent_keeps_trip {c : Instr} {s t : State} (hpin : isPinEvent c = true) (htrip : s.dev.pwr.tripped = true)
    (hporst : ∀ a n, c = .porstLow a n → n < 200) (haon : ∀ a, c ≠ .vddAonRemoval a) (h : exec c s = .next t) :
    t.dev.pwr.tripped = true ∧ t.dev.pwr.thermtripPin = s.dev.pwr.thermtripPin := by
  cases c
  case resetRelease a straps =>
    obtain rfl := Host.Outcome.next.inj h
    simp [releaseReset, htrip]
  case porstLow a n =>
    obtain rfl := Host.Outcome.next.inj h
    simp [porstLow, hporst a n rfl, htrip]
  case resetGlitchFiltered a pin n =>
    obtain rfl := Host.Outcome.next.inj h
    simp only [filterGlitch]
    split <;> simp [htrip]
  case clk25Stop a n =>
    obtain rfl := Host.Outcome.next.inj h
    simp only [clkStop]
    split <;> simp [internalReset, htrip]
  case railMonitorTrip a rail n =>
    obtain rfl := Host.Outcome.next.inj h
    simp only [railTrip]
    split <;> simp [internalReset, htrip]
  case thermalTrip a sensor celsius n =>
    obtain rfl := Host.Outcome.next.inj h
    simp [thermalTrip, htrip]
  case vddAonRemoval a => exact absurd rfl (haon a)
  all_goals cases hpin

/-- Settles O4: a command that is no pin event meets a sleeping device; of the pin events, none that the statement allows touches the trip. -/
theorem tripIsKept : Obligations.TripIsKept := by
  unfold Obligations.TripIsKept
  rintro ⟨q, d⟩ t c rest hq htrip hstep hporst haon
  obtain rfl : q = c :: rest := hq
  have hexec : exec c ⟨rest, d⟩ = .next t := hstep
  obtain ⟨e, he⟩ := exec_leaves_pending c ⟨rest, d⟩
  have ht : t = ⟨rest, e⟩ := Host.Outcome.next.inj (hexec.symm.trans he)
  have hsame : isPinEvent c = false → t = ⟨rest, d⟩ := fun hpin =>
    Host.Outcome.next.inj (hexec.symm.trans (exec_asleep hpin (asleep_of_tripped htrip)))
  have hkeeps : t.dev.pwr.tripped = true ∧ t.dev.pwr.thermtripPin = d.pwr.thermtripPin := by
    cases hpin : isPinEvent c with
    | true => exact pinEvent_keeps_trip (s := ⟨rest, d⟩) hpin htrip hporst haon hexec
    | false => rw [hsame hpin]; exact ⟨htrip, rfl⟩
  refine ⟨hkeeps.1, hkeeps.2, ?_, by rw [ht], fun hpin => by rw [hsame hpin]⟩
  rw [Awake, asleep_of_tripped hkeeps.1]
  decide

end Sys2Proof
end

section
/-! PROOFS. The rules that a statement's clauses are proved by: a command that its gate lets through ends with the effect of its meaning. -/

namespace Sys2Proof

open Machine

variable {s : State} {t : Time} {rq : Requester} {op : Bool} {f : Dev → Dev} {d : Dev}

theorem run_of_eq (h : f s.dev = d) : run f s = .next ⟨s.pending, d⟩ := by
  rw [run_eq, h]

theorem run_awake_of (ha : Awake s) (h : f (s.at t) = d) : run (awake t f) s = .next ⟨s.pending, d⟩ :=
  run_of_eq ((awake_eq ha).trans h)

theorem run_service_of (hs : Serves s t) (h : f (s.at t) = d) : run (service t f) s = .next ⟨s.pending, d⟩ :=
  run_of_eq ((service_eq hs).trans h)

theorem run_vendor_of (hv : Admits s t rq op) (h : f (s.at t) = d) : run (vendor t rq op f) s = .next ⟨s.pending, d⟩ :=
  run_of_eq ((vendor_eq hv).trans h)

theorem run_timed_of (ha : Awake s) (hk : keepsTime (s.at t) = true) (h : f (s.at t) = d) :
    run (timed t f) s = .next ⟨s.pending, d⟩ :=
  run_of_eq ((timed_eq ha hk).trans h)

theorem run_standard_of {b : Bool} (ha : Awake s) (hp : (s.at t).cfg.phase = .run) (hf : (s.at t).ras.selfFenced = false)
    (h : f (s.at t) = d) : run (standard t rq b f) s = .next ⟨s.pending, d⟩ :=
  run_of_eq ((standard_eq ha hp hf).trans h)

theorem run_spdm_of (ha : Awake s) (hp : (s.at t).cfg.phase = .run) (hf : (s.at t).ras.selfFenced = false)
    (h : f (s.at t) = d) : run (spdm t f) s = .next ⟨s.pending, d⟩ :=
  run_of_eq ((spdm_eq ha hp hf).trans h)

end Sys2Proof
end

section
/-! PROOFS. Events, counters and memory: what an event touches (R542, R386, R487), how a counter saturates (R510), and the laws of memory. -/

namespace Sys2Proof

open Machine

/-- An event as the device records it, before it reaches anybody. -/
def eventOf (w : Status) (tenant : Nat) (detail : List Nat) (s : Dev) : EventMsg :=
  { status := w, tenant, device := s.par.deviceId, seq := 0, time := s.now, detail }

/-- The device with its last event noted. -/
def noteEvent (w : Status) (s : Dev) : Dev :=
  { s with ras.lastStatus := w, ras.lastLog := logClass w, ras.lastTime := s.now }

/-- An event is noted, sent to the subscribers' devices, and then recorded by the subscriptions and the logical devices. -/
theorem raise_eq_delivered (w : Status) (tenant : Nat) (detail : List Nat) (s : Dev) :
    ∃ m, OnlySends (noteEvent w s) m ∧
      raise w tenant detail s = if 2 ≤ logClass w then
          emit .ibi (toLds (eventOf w tenant detail s) (toSubscriptions (eventOf w tenant detail s) m))
        else toLds (eventOf w tenant detail s) (toSubscriptions (eventOf w tenant detail s) m) := by
  let e := eventOf w tenant detail s
  have hnote : OnlySends (noteEvent w s) (noteEvent w (emit (.event e (logClass w)) s)) := rfl
  exact ⟨_, hnote.trans (onlySends_sendEvents e _), rfl⟩

/-- Settles O10: the sending touches no table, so the subscriptions and the logical devices are those of before, each with the event it takes. -/
theorem eventPaths : Obligations.EventPaths := by
  unfold Obligations.EventPaths
  intro w tenant detail s e d
  obtain ⟨m, hm, hd⟩ := raise_eq_delivered w tenant detail s
  have hraise : d = _ := hd
  rw [hraise]
  clear hd hraise d
  rw [OnlySends] at hm
  rw [hm]
  by_cases hfail : 2 ≤ logClass w
  · rw [if_pos hfail]
    exact ⟨rfl, rfl, rfl, fun _ => rfl, rfl, rfl, rfl, rfl, rfl, rfl, rfl, rfl, rfl, rfl, rfl, rfl, rfl, rfl, rfl, rfl⟩
  · rw [if_neg hfail]
    exact ⟨rfl, rfl, rfl, fun h => absurd h hfail, rfl, rfl, rfl, rfl, rfl, rfl, rfl, rfl, rfl, rfl, rfl, rfl, rfl, rfl, rfl, rfl⟩

theorem mem_mset_bound {m : Map Nat} {k v b : Nat} (hm : ∀ e ∈ m, e.2 < b) (hv : v < b) : ∀ e ∈ mset m k v, e.2 < b := by
  intro e he
  rcases mem_mset he with rfl | he
  · exact hv
  · exact hm e he

/-- Settles O11: counting sets one key of the counters, to a value of 32 bits. -/
theorem countersSaturate : Obligations.CountersSaturate := by
  unfold Obligations.CountersSaturate
  intro id s
  refine ⟨?_, fun n => ?_, fun j hj => ?_, rfl, fun hs => ?_⟩
  · rw [count_counters, mgetD_mset_same]
  · rw [countBy_counters, mgetD_mset_same]
  · rw [count_counters, mgetD_mset_other _ _ _ hj]
  · rw [count_counters]
    exact mem_mset_bound hs (by omega)

/-- What a filter on the keys leaves of a map: the keys that it keeps read as before, the others are gone. -/
theorem mget_filter_key {α : Type} (m : Map α) (p : Nat → Bool) (k : Nat) :
    mget (m.filter fun e => p e.1) k = if p k then mget m k else none := by
  induction m with
  | nil => simp [mget]
  | cons e m ih =>
    obtain ⟨j, v⟩ := e
    by_cases hj : j = k
    · subst hj
      cases hp : p j <;> simp [hp, mget, ih]
    · cases hp : p j <;> simp [hp, mget, ih, hj]

theorem memRead_memClear (m : List Host.Cell) (a n b : Nat) :
    memRead (memClear m a n) b = if a ≤ b ∧ b < a + n then 0 else memRead m b := by
  have hkey : mget (memClear m a n) b = if a ≤ b ∧ b < a + n then none else mget m b := by
    rw [memClear, mget_filter_key m (fun k => !(decide (a ≤ k) && decide (k < a + n))) b]
    by_cases h : a ≤ b ∧ b < a + n
    · simp [h]
    · have hout : b < a ∨ a + n ≤ b := by omega
      simp [h, hout]
  rw [memRead, mgetD, hkey]
  split <;> rfl

/-- Settles O12: the laws of the byte memory, one by one. -/
theorem memoryLaws : Obligations.MemoryLaws := by
  unfold Obligations.MemoryLaws
  intro m a bs hwf
  exact ⟨memReadN_writeN a bs hwf, fun b hb => memWriteN_other m a b bs hb, fun n b => memRead_memClear m a n b,
    memWriteN_wf a bs hwf, fun n => memClear_wf a n hwf⟩

end Sys2Proof
end

section
/-! PROOFS. Reset (R590, R588, R594), the thermal trip (R597), the glitch filter (R586) and the clock clamps (R33, R595). -/

namespace Sys2Proof

open Machine

theorem dormant_reset : Dormant State.reset := ⟨by decide, fun _ hc => nomatch hc⟩

/-- Settles O5: closed facts about the state after reset, each register read by `decide`. -/
theorem resetState : Obligations.ResetState :=
  ⟨dormant_reset, rfl, rfl, rfl, rfl, by decide, by decide, by decide, by decide⟩

/-- A write of the NVM that a reset cuts short spoils its target alone; power state is no part of it. -/
theorem cutWrite_pwr (d : Dev) : (cutWrite d).pwr = d.pwr := by
  unfold cutWrite
  split
  · rfl
  · split <;> rfl
  · split <;> rfl

theorem cutWrite_of_idle {d : Dev} (h : d.cfg.nvmJobs = []) : cutWrite d = d := by
  rw [cutWrite, h]

theorem deviceReset_rails (d : Dev) : (deviceReset d).pwr.rails = d.pwr.rails := by
  change (cutWrite d).pwr.rails = d.pwr.rails
  rw [cutWrite_pwr]

theorem deviceReset_railFault (d : Dev) : (deviceReset d).pwr.railFault = d.pwr.railFault := by
  change (cutWrite d).pwr.railFault = d.pwr.railFault
  rw [cutWrite_pwr]

/-- Settles O13: the seven pin events by their meanings, then the two clamps of a device that is awake. -/
theorem resetsAndTrips : Obligations.ResetsAndTrips := by
  unfold Obligations.ResetsAndTrips
  refine ⟨⟨fun s t straps hreset htrip => run_of_eq ?_, fun s t heldNs hheld hjobs => run_of_eq ?_, fun s t stoppedNs hstop => run_of_eq ?_,
    fun s t rail outsideNs hout => run_of_eq ?_, fun s t => rfl⟩,
    fun s t sensor celsius heldNs hhot hheld htrip => run_of_eq ?_, fun s t pin heldNs hheld => ⟨run_of_eq ?_, run_of_eq ?_⟩,
    fun s t milliwatts ha hover => run_awake_of ha ?_, fun s t celsius ha hclamp hhot => run_awake_of ha ?_⟩
  · rw [releaseReset, if_pos ⟨hreset, by rw [htrip]; rfl⟩]; rfl
  · rw [porstLow, if_neg (by omega), deviceReset, cutWrite_of_idle hjobs]
  · rw [clkStop, if_pos hstop]; rfl
  · rw [railTrip, if_pos hout]
    simp only [internalReset, deviceReset_rails, deviceReset_railFault]
  · rw [thermalTrip, if_pos ⟨hhot, hheld, by rw [htrip]; rfl⟩]
  · rw [filterGlitch, if_pos hheld]
  · rw [porstLow, if_pos hheld]
  · rw [budgetTick, if_pos hover]; rfl
  · have hmax : (readSensors celsius (s.at t)).throttleC ≤ (readSensors celsius (s.at t)).pwr.maxC := hhot
    have hoff : (readSensors celsius (s.at t)).pwr.thermalClamp = false := hclamp
    simp only [thermalStep, hmax, hoff, Bool.not_false, Bool.true_or, decide_true, if_true]
    rfl

end Sys2Proof
end

section
/-! PROOFS. The steps of a power entry (R563, R566, R567) and what ends one (R564, R568 to R577): each meaning acts on the state of its one domain. -/

namespace Sys2Proof

open Machine

/-- A domain's update acts on the domain as it stands. -/
theorem modDomain_congr {n : Nat} {f g : Domain → Domain} {d : Dev} (h : f (d.domain n) = g (d.domain n)) :
    modDomain n f d = modDomain n g d := by
  rw [modDomain, h, modDomain]

/-- An entry that begins in ON: E1 asks the owner. -/
theorem startEntry_of_on {n target : Nat} {d : Dev} (h : (d.domain n).state = .on) :
    startEntry n target d = modDomain n (fun q => { q with
      state := .asking
      target := target
      entryAt := d.now
      fromOn := true
      wakeHeld := none
      pendingOn := false }) d :=
  modDomain_congr (by rw [h]; rfl)

theorem requestEntry_ret_of_on {n : Nat} {d : Dev} (hon : onOnly n = false) (h : (d.domain n).state = .on) :
    requestEntry n 1 d = startEntry n 1 d := by
  simp [requestEntry, hon, h, PowerState.entering]

/-- A request for RET of one domain that is ON waits for the domain's answer, and the entry begins. -/
theorem powerRequest_ret_of_on {n : Nat} {rq : Requester} {d : Dev} (hn : n < 106) (hon : onOnly n = false)
    (h : (d.domain n).state = .on) :
    powerRequest rq n 1 1 d = startEntry n 1 { d with pwr.waits := d.pwr.waits ++ [{ rq, first := n, count := 1, target := 1, outcome := [] }] } := by
  have hrange : ¬(105 < n ∨ (1 : Nat) = 0 ∨ 106 - n < 1 ∨ 2 < 1) := by omega
  rw [powerRequest, if_neg hrange]
  exact requestEntry_ret_of_on hon h

/-- The match array's domain is the only one whose power-off is told to the partner. -/
theorem tellArrayOff_of_ne {n target : Nat} {d : Dev} (h : n ≠ 103) : tellArrayOff n target d = d :=
  if_neg fun hn => h hn.1

/-- Settles O14: each step of the entry by its meaning, at the state that it leaves. -/
theorem powerEntrySteps : Obligations.PowerEntrySteps := by
  unfold Obligations.PowerEntrySteps
  refine ⟨fun s t rq d hv hd hon hst => run_vendor_of hv ?_, fun s t d v ha hst hd hack => run_awake_of ha ?_,
    fun s t d v w ha hst hd hdefer => run_awake_of ha ?_, fun s t d ha hst => run_awake_of ha ?_,
    fun s t d ha hst hheld => run_awake_of ha ?_, fun s t d ha hst hheld hport => run_awake_of ha ?_,
    fun s t d ha hst hheld htarget => run_awake_of ha ?_⟩
  · exact (powerRequest_ret_of_on hd hon hst).trans (startEntry_of_on hst)
  · simp only [ownerAnswer, hst, if_true, hack, tellArrayOff_of_ne hd]
  · simp only [ownerAnswer, hst, if_true, hdefer, tellArrayOff_of_ne hd]
  · rw [drainEnd, if_pos hst]
  · simp only [quiesceComplete, hst, if_true, hheld]
  · simp [clampComplete, hst, hheld, hport]
  · simp [lowerComplete, hst, hheld, htarget]

/-- A wake in E1 or E2 of an entry that began in ON abandons it and leaves the domain ON. -/
theorem abandon_of_fromOn {n point source : Nat} {d : Dev} (h : (d.domain n).fromOn = true) :
    abandon n point source d = settle n PowerWait.forOn St.ok 0 (settle n PowerWait.forEntry St.pwrAborted 0
      (raise St.pwrAborted deviceWide [n, point] (count Reg.pwrAbortCount (modDomain n (fun q => { q with
        state := .on
        target := 0
        pendingOn := false
        aborted := true
        wakeHeld := none
        wakeSource := source
        wakeDuring := true
        wakeAbort := point
        wakeTime := d.now
        idleSince := d.now }) d)))) := by
  have hon : (if (d.domain n).fromOn then PowerState.on else .ret) = .on := if_pos h
  rw [abandon, if_pos h, modDomain, hon, modDomain]

/-- The first wake that reaches an entry past E2 is held as it is. -/
theorem holdWake_of_none {n source : Nat} {d : Dev} (h : (d.domain n).wakeHeld = none) :
    holdWake n source d = modDomain n (fun q => { q with wakeHeld := some source, wakeTime := d.now }) d :=
  modDomain_congr (by rw [h])

theorem beginWake_of_ret {n source : Nat} {d : Dev} (h : (d.domain n).state = .ret) :
    beginWake n source false 0 d =
      (fun e => if isPortDomain n then trainPort (n - 87) (sendWakeSet (n - 87) source e) else e)
      (modDomain n (fun q => { q with
        state := .waking
        target := 0
        pendingOn := false
        wakeHeld := none
        wakeSource := source
        wakeDuring := false
        wakeAbort := 0
        wakeTime := d.now }) d) := by
  simp [beginWake, h]

/-- Settles O15: the drain's limit, then a wake by the state that it meets, its end, the idle policy and the timetable's lead. -/
theorem powerWakes : Obligations.PowerWakes := by
  unfold Obligations.PowerWakes
  refine ⟨⟨fun s t d ha hst hdue => run_awake_of ha ?_, fun s t d source ha hwakes hst hon => run_awake_of ha ?_,
    fun s t d source ha hwakes hst hheld => run_awake_of ha ?_, fun s t d source ha hwakes hport hst => run_awake_of ha ?_,
    fun s t d source ha hst => run_awake_of ha ?_, fun s t d ha hst => run_awake_of ha ?_,
    fun s t d ha hret hoff hst hon hidle hlate => run_awake_of ha ?_⟩,
    fun s t slot start e ha hfirst hcls hst hport hlead hwakes => run_awake_of ha ?_⟩
  · rw [drainTimeout, if_pos ⟨hst, hdue⟩]
    rfl
  · rw [← abandon_of_fromOn hon]
    rcases hst with hst | hst <;> simp [wakeDomain, hwakes, hst]
  · rw [← holdWake_of_none hheld]
    rcases hst with hst | hst <;> simp [wakeDomain, hwakes, hst]
  · simp [wakeDomain, hwakes, hst, beginWake_of_ret hst, hport]
  · rcases hst with hst | hst | hst <;> simp [wakeDomain, hst]
  · simp [wakeComplete, hst]
  · rw [idlePolicy]
    simp only [hoff, show ¬(0 : Nat) = 1 by decide, false_and, if_false]
    rw [if_pos ⟨hret, hst, by rw [hon]; rfl, hidle, by rw [hlate]; rfl⟩, startEntry_of_on hst]
  · have hneeds : slotNeeds (s.at t) e = [87 + e.port] := by rw [slotNeeds, hcls]
    have hns : wakeNs (87 + e.port) = 10000 := by
      simp only [isPortDomain, Bool.and_eq_true, decide_eq_true_eq] at hport
      rw [wakeNs, if_neg (by omega), if_neg (by omega), if_neg (by omega), if_pos (by omega)]
    simp [leadWake, hfirst, hneeds, forL, hst, hns, hlead, wakeDomain, hwakes, beginWake_of_ret hst, hport, sendWakeSet]

end Sys2Proof
end

section
/-! PROOFS. Synchronisation (R40 to R48, R82): exchanges, the PPS edge, and the timers of silence, holdover and the grandmaster. -/

namespace Sys2Proof

open Machine

theorem keepsTime_of_sync {d : Dev} (h : d.cfg.phase = .sync) : keepsTime d = true := by
  rw [keepsTime, h]

/-- At the acting grandmaster the announce counter moves with the interval. -/
theorem startExchanges_of_gm {d : Dev} (h : d.sync.gmSelf = true) :
    startExchanges d = forL ((List.range 13).filter d.linkUp)
      (fun p d => emit (.syncOut p) (sendControl p 0x0D (128 * (d.port p).farDevice) d))
      { d with
        sync.exchanges := (List.range 13).filter d.linkUp
        sync.gmAnnounce := d.sync.gmAnnounce + 1 } := by
  rw [startExchanges, if_pos h]

/-- Settles O16: the exchange, the interval timer, the PPS edge and its absence, and the read of the low half. -/
theorem syncExchanges : Obligations.SyncExchanges := by
  unfold Obligations.SyncExchanges
  refine ⟨fun s t port m ha hk hgm hport => run_timed_of ha hk ?_, fun s t ha hk hgm => run_timed_of ha hk (startExchanges_of_gm hgm),
    fun s t highNs ha hk hpps hgm hlo hhi hhalf => run_timed_of ha hk ?_,
    fun s t last ha hk hpps hgm hlast hpast => run_timed_of ha hk ?_, fun s t rq ha hop => run_awake_of ha ?_,
    fun s t rq ha hop => run_awake_of ha ?_⟩
  · simp only [syncExchange, hgm, hport, Bool.false_eq_true, if_false, if_true]
  · rw [ppsEdge, if_pos ⟨hpps, hgm, hlo, hhi⟩]
    simp only [if_pos hhalf]
  · rw [ppsMissing, hlast]
    exact if_pos ⟨hpps, hgm, hpast⟩
  · rw [readTimeLow, if_pos hop]
  · rw [readTimeLow, if_neg (by rw [hop]; decide)]

/-- A device that has heard nobody takes the role itself. -/
theorem acquireTimeout_unheard {d : Dev} (hphase : d.cfg.phase = .sync) (hst : d.sync.state = .acquire) (hstart : d.sync.starting = true)
    (hheard : d.sync.heard = false) (hpast : past d.sync.since (ms 1000) d.now = true) :
    acquireTimeout d = enterLocked (raiseDev St.iatGmChange { d with
      sync.gmSelf := true
      sync.gmDevice := d.par.deviceId
      sync.hops := 0
      sync.followed := none }) := by
  rw [acquireTimeout, if_pos ⟨hphase, hst, hstart, hpast⟩, if_neg (by rw [hheard]; decide)]

/-- Settles O17: each timer's condition holds, and its meaning takes the branch that the statement names. -/
theorem syncTimeouts : Obligations.SyncTimeouts := by
  unfold Obligations.SyncTimeouts
  refine ⟨fun s t ha hk hst hgm hpast => run_timed_of ha hk ?_, fun s t ha hk hst hpast => run_timed_of ha hk ?_, ?_,
    fun s t ha hphase hst hstart hheard hpast =>
      run_timed_of ha (keepsTime_of_sync hphase) (acquireTimeout_unheard hphase hst hstart hheard hpast),
    fun s t since ha hk hnamed hsince hgm hst hpast => run_timed_of ha hk ?_⟩
  · rw [syncSilence, if_pos ⟨hst, by rw [hgm]; rfl, hpast⟩]
  · rw [holdoverTimeout, if_pos ⟨hst, hpast⟩]
    rfl
  · intro s t ha hk hst hgm hpast d hother
    refine run_timed_of ha hk ?_
    rw [announceTimeout, if_pos ⟨hst, by rw [hgm]; rfl, hpast⟩]
    exact if_neg hother
  · simp only [gmReturn, hnamed, hsince]
    rw [if_pos ⟨trivial, by rw [hgm]; rfl, hst, hpast⟩]

end Sys2Proof
end

section
/-! PROOFS. Frame boundaries and distribution (R49, R65, R73, R74, R78, R79), and the choice of the bank that boots (R493). -/

namespace Sys2Proof

open Machine

/-- A set that arrives too late is the first fault that distribution looks for. -/
theorem distributionFault_of_late {d : Dev} {effective : Time} (set : List Timetable)
    (h : serialLt effective (d.now + BitVec.ofNat 64 d.frameUnits) = true) : distributionFault d set effective = St.iatDistLate :=
  if_pos h

theorem startFrame_with_pending {d : Dev} (b : Time) (p : PendingTt) (h : d.tt.started = true) :
    startFrame b (some p) d =
      (fun d1 => flashStep (ckptBoundary (flushResync (mirrorLag (forgetFrames
        (if d1.tt.running = d.tt.running then d1 else removedSlots b d1))))))
      (batchBoundary b (modelBoundary (txnBoundary b (variantBoundary b (activatePending p (advanceFrame b d)))))) := by
  simp only [startFrame, h, Bool.not_true, Bool.false_eq_true, if_false]

/-- Settles O18: what starts a frame, what a frame's start does in order, and the three cases of distribution. -/
theorem frameStarts : Obligations.FrameStarts := by
  unfold Obligations.FrameStarts
  refine ⟨⟨fun s t ha hstart hpend hdue => run_awake_of ha ?_, fun s t p ha hpend hdue => run_awake_of ha ?_,
    fun d b hstart => ⟨if_pos hstart, rfl, rfl⟩, fun d b p hstart => startFrame_with_pending b p hstart⟩,
    fun s t sender set effective ha hserve hstart hok => run_awake_of ha ?_,
    fun s t sender set effective ha hserve hstart hlate => run_awake_of ha ?_,
    fun s t sender id frame next ha hstart hphase hfind => run_awake_of ha ?_⟩
  · simp only [frameBoundary, hpend, hstart, hdue, Bool.and_self, if_true]
  · simp only [timetableDue, hpend, hdue, if_true]
  · simp only [distribution, hserve, hstart, and_self, if_true, distributed, hok]
  · have hfault := distributionFault_of_late set hlate
    have hne : St.iatDistLate ≠ St.ok := by decide
    simp only [distribution, hserve, hstart, and_self, if_true, distributed, hfault, hne, if_false]
  · simp only [distribution, adoptRunning, hstart, hfind, hphase, Bool.false_eq_true, if_false]

theorem mem_goodBanks (d : Dev) (x : Bool) (a : Image) :
    (x, a) ∈ goodBanks d ↔ (d.cfg.excluded.contains x = false ∧ bankAt d x = some a ∧ bankValid d (some a) = true) := by
  simp only [goodBanks, List.mem_filterMap, List.mem_filter, Option.map_eq_some_iff, Prod.mk.injEq, Bool.and_eq_true, Bool.not_eq_true']
  constructor
  · rintro ⟨y, ⟨-, hexcl, hvalid⟩, i, hbank, rfl, rfl⟩
    exact ⟨hexcl, hbank, hbank ▸ hvalid⟩
  · rintro ⟨hexcl, hbank, hvalid⟩
    exact ⟨x, ⟨by cases x <;> decide, hexcl, hbank.symm ▸ hvalid⟩, a, hbank, rfl, rfl⟩

/-- Two banks above both floors: the serial comparison of their numbers decides, and bank A where it is false. -/
theorem selectBank_of_pair {d : Dev} {a b : Image} (h : goodBanks d = [(false, a), (true, b)])
    (ha : max a.secFloor b.secFloor ≤ a.secVersion) (hb : max a.secFloor b.secFloor ≤ b.secVersion) :
    selectBank d = if serialLt a.seq b.seq then some (true, b) else some (false, a) := by
  have hfloor : floorOf [(false, a), (true, b)] = max a.secFloor b.secFloor := by simp [floorOf]
  simp only [selectBank, h, hfloor, List.filter_cons, ha, hb, decide_true, if_true, List.filter_nil]

/-- Settles O19: the banks that pass are at most two, and above their floors their numbers decide. -/
theorem bankChoice : Obligations.BankChoice := by
  unfold Obligations.BankChoice
  refine fun d => ⟨fun a b hgood hba hab haa hbb => ?_, fun x a hgood ha => ?_, fun hnone => ?_, mem_goodBanks d⟩
  · have hpair := selectBank_of_pair hgood (by omega) (by omega)
    refine ⟨fun hlt => by rw [hpair, if_pos hlt], fun hlt => ?_, fun htie => ?_⟩
    · rw [hpair, serialLt_asymm hlt]
      rfl
    · have hlt : serialLt a.seq b.seq = false := by
        rcases htie with heq | hhalf
        · rw [heq]
          simp [serialLt]
        · exact serialLt_half hhalf
      rw [hpair, hlt]
      rfl
  · have hfloor : floorOf [(x, a)] = a.secFloor := by simp [floorOf]
    simp only [selectBank, hgood, hfloor, List.filter_cons, ha, decide_true, if_true, List.filter_nil]
  · rw [selectBank, hnone]
    rfl

end Sys2Proof
end

section
/-! PROOFS. The steps of start-up (R502, R503, R526, R365, R494, R561, R307, R308, R337). -/

namespace Sys2Proof

open Machine

/-- Dies of one device whose slots are at most `k`, numbered by channel and slot. -/
theorem slot_of_dieNumber {found : List DieFound} {k n : Nat} (hslots : ∀ x ∈ found, x.slot ≤ k ∧ x.channel < 64 ∧ k < 16)
    (h : (found.any fun x => decide (dieNumber x = n)) = true) : n % 16 ≤ k := by
  obtain ⟨x, hx, hn⟩ := List.any_eq_true.mp h
  obtain ⟨hslot, -, hk⟩ := hslots x hx
  have hnum : 16 * x.channel + x.slot = n := of_decide_eq_true hn
  omega

theorem filter_none_kept (l : List Nat) : (l.filter fun _ => false) = [] :=
  List.filter_eq_nil_iff.mpr fun _ _ => Bool.false_ne_true

/-- Dies that all pass, in slots that the channels all fill: none is refused and none lies beyond the fitted slots. -/
theorem discoveryDone_of_fitted {s : Dev} {found : List DieFound} {d : DieFound} {k : Nat} (hphase : s.cfg.phase = .nand)
    (hok : ∀ x ∈ found, dieOk s x = true) (hslots : ∀ x ∈ found, x.slot ≤ k ∧ x.channel < 64 ∧ k < 16)
    (hfit : fittedCount ((List.range 1024).filter fun n => found.any fun x => decide (dieNumber x = n)) = k + 1)
    (hzero : (found.find? fun x => decide (dieNumber x = 0)) = some d)
    (hmin : (s.cfg.image.any fun i => decide (k + 1 < i.body.minDies)) = false) :
    discoveryDone found s = toStep .restore 5 (loadRemap (found.filter fun x => decide (x.slot ≤ k)) { s with
      fls.refused := []
      fls.dies := ((List.range 1024).filter fun n => found.any fun x => decide (dieNumber x = n)).map fun n =>
        (n, { state := .active, timeouts := 0 })
      fls.diesPerChannel := k + 1
      fls.groups := 4 * (k + 1)
      fls.planes := d.params.planes
      fls.blocksPerPlane := d.params.blocksPerPlane
      fls.pagesPerBlock := d.params.pagesPerBlock
      fls.tReadMaxNs := d.params.tReadMaxNs
      fls.dieRetryLevels := d.params.retryLevels }) := by
  have hgood : found.filter (dieOk s) = found := List.filter_eq_self.mpr hok
  have hbad : (found.filter fun x => !dieOk s x) = [] :=
    List.filter_eq_nil_iff.mpr fun x hx => by rw [hok x hx]; decide
  have hbeyond : (((List.range 1024).filter fun n => found.any fun x => decide (dieNumber x = n)).any
      fun x => decide (k + 1 ≤ x % 16)) = false := by
    refine List.any_eq_false.mpr fun n hn => ?_
    have := slot_of_dieNumber hslots (List.mem_filter.mp hn).2
    simp only [decide_eq_true_eq]
    omega
  simp only [discoveryDone, hphase, hgood, hbad, hfit, hzero, hbeyond, hmin, ne_eq, not_true_eq_false, if_false, List.any_nil,
    Bool.false_eq_true, filter_none_kept, tellRefused]

/-- Settles O20: each step's end by its meaning, and the two limits. -/
theorem startupSteps : Obligations.StartupSteps := by
  unfold Obligations.StartupSteps
  refine ⟨⟨?_, fun s t derived ha hphase hfailed => run_awake_of ha ?_, fun s t b img ha hphase hsel hsec => run_awake_of ha ?_,
    fun s t b img ha hphase hsel => run_awake_of ha ?_⟩, fun s t part healthy ha hphase => run_awake_of ha ?_, ?_,
    fun s t readable lost ha hphase => run_awake_of ha ?_, fun d readable lost hnone => ?_, fun s t ha hdue => run_awake_of ha ?_,
    fun s t ha hdue => run_awake_of ha ?_⟩
  · intro s t derived ha hphase d hrcv
    refine run_awake_of ha ?_
    rw [romDone, if_neg (not_not_intro hphase), if_neg (by decide)]
    exact if_neg (by rw [show (firstEpoch _).pwr.straps.rcv = false from hrcv]; decide)
  · rw [romDone, if_neg (not_not_intro hphase), if_pos (show (!false) = true from rfl), romFails, if_pos hfailed]
  · simp only [verifyDone, hphase, hsel, hsec, ne_eq, not_true_eq_false, if_false, Bool.not_true, Bool.false_eq_true]
  · simp only [verifyDone, hphase, hsel, ne_eq, not_true_eq_false, if_false, Bool.not_true, Bool.false_eq_true, reduceCtorEq,
      not_false_eq_true, if_true]
  · have hnone : ((List.range 8).any fun k => (List.range 32).all fun c => ([] : List Nat).contains (32 * k + c)) = false := by decide
    have hgood : ((List.range 256).filter fun k => ([] : List Nat).contains k) = [] := by decide
    simp only [dramDone, hphase, hnone, hgood, ne_eq, not_true_eq_false, if_false, Bool.false_eq_true, forL, List.foldl_nil]
  · intro s t found d k ha hphase hok hslots accepted hfit hzero hmin
    exact run_awake_of ha (discoveryDone_of_fitted hphase hok hslots hfit hzero hmin)
  · rw [recoveryDone, if_neg (not_not_intro hphase)]
  · rw [recoverDirectory, hnone]
  · simp [stepTimeout, hdue]
  · simp [stepTimeout, hdue]

end Sys2Proof
end

section
/-! PROOFS. Changes of pair state (R423, R424, R426, R433) and sequence administration (R92, R127 to R132). -/

namespace Sys2Proof

open Machine

/-- A device that decides alone applies a change of pair state itself. -/
theorem pairChange_of_solo {d : Dev} (h : d.par.state = .solo) (rq : Requester) (op : PairOp) (b : Option Time) (ap : Dev → Applied) :
    pairChange rq op b ap d = leaderApply rq op b ap d := by
  rw [pairChange, h]

theorem isolated_of_solo {d : Dev} (h : d.par.state = .solo) : d.isolated = false := by
  rw [Dev.isolated, h]
  rfl

theorem isolated_of_ne {d : Dev} (h : d.par.state ≠ .isolated) : d.isolated = false := decide_eq_false h

theorem checked_of_ok {rq : Requester} {ap : Dev → Applied} {f : List Nat → Dev → Dev} {d : Dev} (h : (ap d).status = St.ok) :
    checked rq ap f d = f (ap d).fields d := by
  rw [checked, if_neg (not_not_intro h)]

/-- A leader without a partner has nobody to wait for. -/
theorem leaderApply_of_solo {rq : Requester} {op : PairOp} {b : Option Time} {ap : Dev → Applied} {d : Dev} (hok : (ap d).status = St.ok)
    (hsolo : (ap d).state.par.state = .solo) :
    leaderApply rq op b ap d = reply rq St.ok (ap d).fields { (ap d).state with
      par.commitSeq := (ap d).state.par.commitSeq + 1 } := by
  simp [leaderApply, hok, Dev.mirrored, hsolo]

/-- Settles O21: the state of the pair decides the path; on the leader's path the checks decide between an answer and a commit. -/
theorem pairChangePaths : Obligations.PairChangePaths := by
  unfold Obligations.PairChangePaths
  refine fun rq op b ap d => ⟨fun h => by rw [pairChange, h], fun h hok => ?_, fun h hside hok => ?_,
    fun h => pairChange_of_solo h rq op b ap, fun hbad => by rw [leaderApply, if_pos hbad], leaderApply_of_solo⟩
  · rw [pairChange, h]
    exact checked_of_ok hok
  · rw [pairChange, h]
    simp only [hside, Bool.false_eq_true, if_false]
    exact checked_of_ok hok

theorem run_seqAdmin_of {s : State} {t : Time} {rq : Requester} {f : Dev → Dev} {d : Dev} (hv : Admits s t rq false) (h : f (s.at t) = d) :
    run (seqAdmin t rq f) s = .next ⟨s.pending, d⟩ :=
  run_vendor_of hv h

/-- A SEATED sequence with nothing held and no return under way takes the command now. -/
theorem whenSeated_of_ready {d : Dev} {i : Nat} {q : Seq} (hq : mget d.kvs.seqs i = some q) (hst : q.state = .seated) (hheld : q.held = [])
    (hret : returning d i = false) (rq : Requester) (cmd : Instr) (f : Dev → Dev) : whenSeated i rq cmd f d = f d := by
  simp [whenSeated, bringUp, hq, hst, hheld, hret]

section
variable {d : Dev} {rq : Requester} {tenant i : Nat} {handle : BitVec 32} {q : Seq}

theorem openCmd_of_passes {t : Time} {model format scope k : Nat} {f : Format} (hsolo : d.par.state = .solo) (hformat : formatOf format = some f)
    (htenant : tenantOk d rq tenant = true) (hvalid : tenantValid d tenant = true) (hmodel : modelLoaded d model = true)
    (hscope : isMember d tenant (namedScope d tenant scope) = true) (hindex : (takeIndex d).isSome = true)
    (hseat : seekSeat d model none = .seat k) :
    openCmd t rq tenant model format scope d = leaderApply rq (.seqOpen (!d.sideA) tenant model f (namedScope d tenant scope)) none
      (applyOpen (!d.sideA) tenant model f (namedScope d tenant scope)) d := by
  have htaken : (takeIndex d).isNone = false := by rw [← Option.not_isSome, hindex]; rfl
  simp [openCmd, hformat, htenant, hvalid, hmodel, hscope, isolated_of_solo hsolo, htaken, hseat, pairChange_of_solo hsolo]

theorem closeCmd_of_passes {t : Time} (hsolo : d.par.state = .solo) (hcheck : checkSeq d rq tenant handle true = (St.ok, i))
    (hq : mget d.kvs.seqs i = some q) (hst : q.state ≠ .resuming) :
    closeCmd t rq tenant handle d
      = leaderApply rq (.seqClose handle) none (applyClose handle (.seqAdminClose t rq tenant handle)) d := by
  simp [closeCmd, hcheck, hq, hst, pairChange_of_solo hsolo]

theorem parkCmd_of_seated (hsolo : d.par.state = .solo) (hcheck : checkSeq d rq tenant handle true = (St.ok, i))
    (hq : mget d.kvs.seqs i = some q) (hst : q.state = .seated) :
    parkCmd rq tenant handle d = leaderApply rq (.seqPark handle) none (applyPark handle) d := by
  simp [parkCmd, hcheck, hq, hst, pairChange_of_solo hsolo]

theorem resumeCmd_of_parked {t : Time} {k : Nat} (hsolo : d.par.state = .solo) (hcheck : checkSeq d rq tenant handle true = (St.ok, i))
    (hq : mget d.kvs.seqs i = some q) (hst : q.state = .parked) (hseat : seekSeat d q.model q.prevSeat = .seat k) :
    resumeCmd t rq tenant handle d = leaderApply rq (.seqResume handle) none (applyResume handle) d := by
  simp [resumeCmd, hcheck, hq, hst, isolated_of_solo hsolo, hseat, pairChange_of_solo hsolo]

theorem truncateCmd_of_passes {t : Time} {len : Nat} (hsolo : d.par.state = .solo) (hcheck : checkSeq d rq tenant handle true = (St.ok, i))
    (hq : mget d.kvs.seqs i = some q) (hst : q.state = .seated) (hheld : q.held = []) (hret : returning d i = false)
    (hlen : len ≤ q.length) :
    truncateCmd t rq tenant handle len d = leaderApply rq (.seqTruncate handle len) none (applyTruncate handle len) d := by
  simp [truncateCmd, hcheck, isolated_of_solo hsolo, whenSeated_of_ready hq hst hheld hret, hq, Nat.not_lt.mpr hlen, pairChange_of_solo hsolo]

theorem joinCmd_of_passes {stream position : Nat} (hsolo : d.par.state = .solo)
    (hcheck : checkSeq d rq tenant handle true = (St.ok, i)) (hok : (applyJoin handle stream position d).status = St.ok) :
    joinCmd rq tenant handle stream position d
      = leaderApply rq (.seqJoin handle stream position) (some d.nextBoundary) (applyJoin handle stream position) d := by
  simp [joinCmd, hcheck, hok, pairChange_of_solo hsolo]

theorem leaveCmd_of_passes {stream : Nat} (hsolo : d.par.state = .solo)
    (hcheck : checkSeq d rq tenant handle true = (St.ok, i)) (hok : (applyLeave handle stream d).status = St.ok) :
    leaveCmd rq tenant handle stream d
      = leaderApply rq (.seqLeave handle stream) (some d.nextBoundary) (applyLeave handle stream) d := by
  simp [leaveCmd, hcheck, hok, pairChange_of_solo hsolo]

theorem queryCmd_of_passes (hcheck : checkSeq d rq tenant handle false = (St.ok, i)) :
    queryCmd rq tenant handle d = reply rq St.ok (seqFields d i) d := by
  simp [queryCmd, hcheck]

theorem applyPark_of_seated (h : findSeq d handle = some (i, q)) (hst : q.state = .seated) :
    applyPark handle d = { status := St.ok, fields := seqFields (startPark i none d) i, state := startPark i none d } := by
  simp [applyPark, h, hst]

theorem applyPark_of_parked (h : findSeq d handle = some (i, q)) (hst : q.state = .parked) :
    applyPark handle d = { status := St.ok, fields := seqFields d i, state := d } := by
  simp [applyPark, h, hst]

theorem applyPark_of_lost (h : findSeq d handle = some (i, q)) (hst : q.state = .lost) :
    applyPark handle d = { status := St.kvsLost, fields := seqFields d i, state := d } := by
  simp [applyPark, h, hst]

theorem applyJoin_of_lost (h : findSeq d handle = some (i, q)) (hst : q.state = .lost) (stream position : Nat) :
    applyJoin handle stream position d = { status := St.kvsLost, fields := seqFields d i, state := d } := by
  simp [applyJoin, h, hst]

theorem applyLeave_of_lost (h : findSeq d handle = some (i, q)) (hst : q.state = .lost) (stream : Nat) :
    applyLeave handle stream d = { status := St.kvsLost, fields := seqFields d i, state := d } := by
  simp [applyLeave, h, hst]

/-- JOIN of a free position of an ATTEND stream, by a sequence that holds none there, queues its batch change. -/
theorem applyJoin_of_free {stream position : Nat} (h : findSeq d handle = some (i, q)) (hst : q.state ≠ .lost)
    (hstream : isAttendStream d stream = true) (hpos : position < 4096) (hfree : mhas (batchAfter d) (batchKey stream position) = false)
    (hnone : positionHeld d stream handle = none) :
    applyJoin handle stream position d = { status := St.ok, fields := seqFields d i, state := { d with
      tt.batchChanges := d.tt.batchChanges ++ [{ stream, position, handle := some handle, since := d.now }] } } := by
  simp [applyJoin, h, hst, hstream, Nat.not_le.mpr hpos, hfree, hnone]

theorem applyLeave_of_held {stream position : Nat} (h : findSeq d handle = some (i, q)) (hst : q.state ≠ .lost)
    (hstream : isAttendStream d stream = true) (hpos : positionHeld d stream handle = some position) :
    applyLeave handle stream d = { status := St.ok, fields := seqFields d i, state := { d with
      tt.batchChanges := d.tt.batchChanges ++ [{ stream, position, handle := none, since := d.now }] } } := by
  simp [applyLeave, h, hst, hstream, hpos]

end

/-- Settles O22: each command passes its checks and is the leader's commit; each commit acts by the state of the sequence. -/
theorem seqAdmin : Obligations.SeqAdmin := by
  unfold Obligations.SeqAdmin
  refine ⟨⟨fun s t rq tenant model format scope f k hv hsolo hformat htenant hvalid hmodel hscope hindex hseat =>
      run_seqAdmin_of hv (openCmd_of_passes hsolo hformat htenant hvalid hmodel hscope hindex hseat),
    fun s t rq tenant handle i q hv hsolo hcheck hq =>
      ⟨fun hst => run_seqAdmin_of hv (closeCmd_of_passes hsolo hcheck hq hst),
      fun hst => run_seqAdmin_of hv (parkCmd_of_seated hsolo hcheck hq hst),
      fun k hst hseat => run_seqAdmin_of hv (resumeCmd_of_parked hsolo hcheck hq hst hseat),
      fun len hst hheld hret hlen => run_seqAdmin_of hv (truncateCmd_of_passes hsolo hcheck hq hst hheld hret hlen),
      fun stream position hok => run_seqAdmin_of hv (joinCmd_of_passes hsolo hcheck hok),
      fun stream hok => run_seqAdmin_of hv (leaveCmd_of_passes hsolo hcheck hok)⟩,
    fun s t rq tenant handle i hv hcheck => run_seqAdmin_of hv (queryCmd_of_passes hcheck)⟩,
    fun d handle i q h => ⟨fun hst => ?_, applyPark_of_parked h, fun hst stream position =>
      ⟨applyPark_of_lost h hst, applyJoin_of_lost h hst stream position, applyLeave_of_lost h hst stream⟩,
    fun stream position hst hstream hpos hfree hnone => applyJoin_of_free h hst hstream hpos hfree hnone,
    fun stream position hst hstream hpos => applyLeave_of_held h hst hstream hpos⟩⟩
  rw [applyPark_of_seated h hst]
  exact ⟨rfl, rfl⟩

end Sys2Proof
end

section
/-! PROOFS. The life of a sequence (R85, R92, R95, R96, R98, R110 to R112, R267): appending, parking, resuming, closing, and the two limits. -/

namespace Sys2Proof

open Machine

section
variable {d : Dev} {i : Nat} {q : Seq} {m : AppendMsg} {rq : Requester}

theorem mget_of_findSeq {handle : BitVec 32} (h : findSeq d handle = some (i, q)) : mget d.kvs.seqs i = some q := by
  rw [findSeq] at h
  split at h
  · cases h
  · next x hx =>
    split at h
    · obtain ⟨rfl, rfl⟩ := Prod.mk.inj (Option.some.inj h)
      exact hx
    · cases h

theorem tenantOk_of_tenantOf {tenant : Nat} (h : tenantOf d rq = some tenant) : tenantOk d rq tenant = true := by
  simp [tenantOk, h]

/-- The owner's own sequence passes the checks of its tenant. -/
theorem checkSeq_of_owned {handle : BitVec 32} (h : findSeq d handle = some (i, q)) (htenant : tenantOf d rq = some q.tenant)
    (howns : ownsSeq d i = true) : checkSeq d rq q.tenant handle true = (St.ok, i) := by
  simp [checkSeq, tenantOk_of_tenantOf htenant, h, howns]

/-- An APPEND that nothing holds back and no partner takes part in is applied here and answered at once. -/
theorem appendCmd_of_local {t : Time} (hiso : d.par.state ≠ .isolated) (htenant : tenantOf d rq = some q.tenant)
    (h : findSeq d m.handle = some (i, q)) (howns : ownsSeq d i = true) (hst : q.state = .seated) (hheld : q.held = [])
    (hret : returning d i = false) (hmirror : q.mirror ≠ .m2) :
    appendCmd t rq m none d
      = reply rq (applyAppend m none d).status (applyAppend m none d).fields (applyAppend m none d).state := by
  have hq := mget_of_findSeq h
  simp [appendCmd, htenant, checkSeq_of_owned h htenant howns, isolated_of_ne hiso, whenSeated_of_ready hq hst hheld hret,
    appendSeated, mirrorOf, hq, hmirror, appendLocal]

theorem applyAppend_of_ok (h : findSeq d m.handle = some (i, q)) (hok : appendCheck d q m = St.ok) :
    (applyAppend m none d).status = St.ok ∧ (applyAppend m none d).fields = [m.position + m.count] := by
  simp [applyAppend, h, hok]

/-- An APPEND that fails a check changes nothing but the note of a full staging pool. -/
theorem applyAppend_of_refused (h : findSeq d m.handle = some (i, q)) (hbad : appendCheck d q m ≠ St.ok) :
    applyAppend m none d = {
      status := appendCheck d q m
      fields := []
      state := if appendCheck d q m = St.kvsBattFull then { d with kvs.battFull := true } else d } := by
  simp only [applyAppend, h]
  rw [if_pos hbad]

theorem idlePark_of_idle (hq : mget d.kvs.seqs i = some q) (hst : q.state = .seated) (hk : d.idleParkK ≠ 0)
    (hprofile : d.tt.profile ≠ .density) (howns : ownsSeq d i = true) (hiso : d.par.state ≠ .isolated)
    (hidle : idleFor d q d.idleParkK = true) : idlePark i d = tellPark i (startPark i none d) := by
  simp [idlePark, hq, hst, hk, hprofile, howns, isolated_of_ne hiso, hidle]

/-- A datum that lies in T2 already needs no save. -/
theorem saveToT2_of_t2 {x : Datum} {e : Extent} (h : homeOf d x = some (.t2 e)) : saveToT2 x d = some d := by
  rw [saveToT2, h]

theorem parkComplete_of_saved {e1 e2 : Extent} (hq : mget d.kvs.seqs i = some q) (hst : q.state = .parking) (hmoves : movesOf d i .park = [])
    (h1 : homeOf d (.pendingArea i) = some (.t2 e1)) (h2 : homeOf d (.tables i) = some (.t2 e2)) :
    parkComplete i d = serveAll (some i) (modSeq i (fun q => refreshCold { q with
      state := .parked
      evictedFor := none }) (freeSeat i d)) := by
  simp [parkComplete, hq, hst, hmoves, saveToT2_of_t2 h1, saveToT2_of_t2 h2, forL]

theorem resumeComplete_of_home (hq : mget d.kvs.seqs i = some q) (hst : q.state = .resuming) (hopen : openInT2 d q = [])
    (hfits : stagingFits d 0 = true) :
    resumeComplete i d = runHeld i (modSeq i (fun q => { q with state := .seated })
      (backToT1 (.tables i) (backToT1 (.pendingArea i) { d with
        fls.reads := d.fls.reads.filter fun r => !(r.move.isNone && decide (seqOfDatum d r.datum = some i)
          && (match r.datum with | .page _ => false | _ => true)) }))) := by
  simp [resumeComplete, hq, hst, hopen, sumBy, hfits, forL] <;> rfl

/-- A CLOSING sequence without a seat whose areas are in T2 holds nothing but its index. -/
theorem closeComplete_of_released (hq : mget d.kvs.seqs i = some q) (hst : q.state = .closing) (hseat : q.seat = none)
    (hpend : q.pendingExtent.isSome = true) (hpt : q.ptExtent.isSome = true) :
    closeComplete i d = freeIndex i { d with
      kvs.seqs := mdel d.kvs.seqs i
      par.ownerB := d.par.ownerB.filter fun x => !decide (x = i) } := by
  have hfree : freeSeat i d = d := by rw [freeSeat, hq]; simp [hseat]
  have hpend' : q.pendingExtent.isNone = false := by rw [← Option.not_isSome, hpend]; rfl
  have hpt' : q.ptExtent.isNone = false := by rw [← Option.not_isSome, hpt]; rfl
  simp [closeComplete, hq, hst, hfree, hpend', hpt']

theorem holdTimeout_of_overdue {h : Held} (hq : mget d.kvs.seqs i = some q) (hwaits : d.kvs.seatWaits = []) (hheld : q.held = [h])
    (hlimited : h.limited = true) (hpast : past h.since (us 200) d.now = true) :
    holdTimeout i d = refuse (requesterOf h.cmd) St.kvsResuming (modSeq i (fun q => { q with held := [] }) d) := by
  simp [holdTimeout, hq, hheld, hlimited, hpast, passWait, hwaits, forL]

/-- The one wait for a seat ends with its OPEN refused, and its victim is chosen no longer. -/
theorem evictionTimeout_of_open {id v : Nat} {w : SeatWait} {t0 : Time} {tenant model format scope : Nat} (hwaits : d.kvs.seatWaits = [w])
    (hid : w.id = id) (hvictim : w.victim = some v) (hpast : past w.since (ms 5) d.now = true)
    (hcmd : w.cmd = .seqAdminOpen t0 rq tenant model format scope) :
    evictionTimeout id d = refuse rq St.kvsNoSeat (modSeq v (fun q => { q with evictedFor := none }) { d with kvs.seatWaits := [] }) := by
  subst hid
  simp [evictionTimeout, hwaits, hpast, refuseWait, hcmd, endWait, hvictim]

end

/-- Settles O23: each meaning under its conditions. -/
theorem sequenceLife : Obligations.SequenceLife := by
  unfold Obligations.SequenceLife
  refine ⟨⟨fun s t rq m i q hs hiso htenant hfind howns hst hheld hret hmirror =>
      run_service_of hs (appendCmd_of_local hiso htenant hfind howns hst hheld hret hmirror),
    fun d m i q hfind => ⟨applyAppend_of_ok hfind, fun hbad hnot => ?_, fun hfull => ?_⟩,
    fun s t i q hs hq hst hk hprofile howns hiso hidle =>
      run_service_of hs (idlePark_of_idle hq hst hk hprofile howns hiso hidle)⟩,
    fun s t i q e1 e2 ha hq hst hmoves h1 h2 => run_awake_of ha (parkComplete_of_saved hq hst hmoves h1 h2),
    fun s t i q ha hq hst hopen hfits => run_awake_of ha (resumeComplete_of_home hq hst hopen hfits),
    fun s t i q ha hq hst hseat hpend hpt => run_awake_of ha ?_,
    fun s t i q h ha hq hwaits hheld hlimited hpast => run_awake_of ha (holdTimeout_of_overdue hq hwaits hheld hlimited hpast),
    fun s t id v w t0 rq tenant model format scope ha hwaits hid hvictim hpast hcmd =>
      run_awake_of ha (evictionTimeout_of_open hwaits hid hvictim hpast hcmd)⟩
  · rw [applyAppend_of_refused hfind hbad, if_neg hnot]
  · rw [applyAppend_of_refused hfind (by rw [hfull]; decide), if_pos hfull, hfull]
  · exact congrArg (serveAll none) (closeComplete_of_released hq hst hseat hpend hpt)

end Sys2Proof
end

section
/-! PROOFS. The store of nodes: LOOKUP and ATTACH (R166, R168, R169), the sweep (R160), retention, array moves, pins and reclaim (R143, R148 to R151,
R157, R164). -/

namespace Sys2Proof

open Machine

section
variable {d : Dev} {rq : Requester} {t : Time}

theorem lookupCmd_of_refused {m : LookupMsg} {limit : Option Nat} (h : lookupCheck d rq m ≠ St.ok) :
    lookupCmd t rq m limit d = refuse rq (lookupCheck d rq m) d :=
  if_pos h

theorem lookupCmd_of_unshared {m : LookupMsg} {limit : Option Nat} (hok : lookupCheck d rq m = St.ok)
    (hshare : (d.scope (namedScope d (actingTenant d rq m.handle) m.scope)).share = false) :
    lookupCmd t rq m limit d = reply rq St.ok [0, 0, 0, 0, 0] d := by
  simp [lookupCmd, hok, hshare]

/-- Without `attach` a LOOKUP answers what its search verified. -/
theorem lookupCmd_of_plain {m : LookupMsg} {limit : Option Nat} (hok : lookupCheck d rq m = St.ok)
    (hshare : (d.scope (namedScope d (actingTenant d rq m.handle) m.scope)).share = true) (hattach : m.attach = false) :
    lookupCmd t rq m limit d =
      (fun r => reply rq St.ok (lookupFields r.2 (if m.startFrom then m.startDepth else 0) r.1) r.2)
      (lookupSearch (namedScope d (actingTenant d rq m.handle) m.scope) m limit d) := by
  simp [lookupCmd, hok, hshare, hattach]

theorem attachCmd_of_passes {m : AttachMsg} {i slot : Nat} {n : Node} {q : Machine.Seq} (hsolo : d.par.state = .solo) (hlo : 1 ≤ m.depth)
    (hhi : m.depth ≤ 65536) (hscope : m.scope < 4096)
    (hmember : isMember d (actingTenant d rq m.handle) (namedScope d (actingTenant d rq m.handle) m.scope) = true)
    (hcheck : attachSeqCheck d rq (actingTenant d rq m.handle) m.handle (namedScope d (actingTenant d rq m.handle) m.scope) = (St.ok, i))
    (hnode : namedNode d m (namedScope d (actingTenant d rq m.handle) m.scope) = some (slot, n))
    (hq : mget d.kvs.seqs i = some q) (hmodel : n.model = q.model) (hformat : n.format = q.format) (hst : q.state = .seated)
    (hheld : q.held = []) (hret : returning d i = false) :
    attachCmd t rq m d
      = leaderApply rq (.attach m.handle slot) none (applyAttach m.handle slot fun d => seqFields d i) d := by
  have hrange : ¬(m.depth = 0 ∨ 65536 < m.depth ∨ (4096 ≤ m.scope ∧ m.scope ≠ 0xFFFF)) := by omega
  rw [attachCmd, if_neg hrange]
  simp [hmember, hcheck, hnode, hq, hmodel, hformat, whenSeated_of_ready hq hst hheld hret, pairChange_of_solo hsolo]

end

/-- Settles O24: the four ways of a LOOKUP or an ATTACH that the statement names. -/
theorem prefixLookups : Obligations.PrefixLookups := by
  unfold Obligations.PrefixLookups
  refine ⟨?_, ?_⟩
  · intro s t rq m ups hs d sc
    exact ⟨fun hbad => run_service_of hs (lookupCmd_of_refused hbad),
      fun hok hshare => run_service_of hs (lookupCmd_of_unshared hok hshare),
      fun hok hshare hattach => run_service_of hs (lookupCmd_of_plain hok hshare hattach)⟩
  · intro s t rq m i slot n q hs hsolo sc hlo hhi hscope hmember hcheck hnode hq hmodel hformat hst hheld hret
    exact run_service_of hs (attachCmd_of_passes hsolo hlo hhi hscope hmember hcheck hnode hq hmodel hformat hst hheld hret)

/-- An upset of one unit of an entry and the write of the unit's own value leave the entry. -/
theorem ArrEntry.set_upset_unit (e : ArrEntry) (u : Nat) (x : BitVec 64) :
    ({ e with units := (e.units.set u x).set u (e.units.getD u 0) } : ArrEntry) = e := by
  have hunits : (e.units.set u x).set u (e.units.getD u 0) = e.units := by
    rw [List.set_set]
    by_cases hu : u < e.units.length
    · rw [List.getD_eq_getElem?_getD, List.getElem?_eq_getElem hu, Option.getD_some, List.set_getElem_self]
    · exact List.set_eq_of_length_le (Nat.le_of_not_lt hu)
  rw [hunits]

/-- The row that the sweep reads: where it lies in the array is a matter of the bank's width alone. -/
theorem sweepRow_of_agreed {d : Dev} (flips : BitVec 64) (h : d.pfx.arr = d.pfx.shadow) :
    sweepRow flips d = { d with pfx.sweep := (d.pfx.sweep + 1) % 262144 } := by
  have hpos : ∀ bank row flips, rowPosition (upsetRow { bank, row, flips } d) bank row = rowPosition d bank row := fun _ _ _ => rfl
  rcases hk : rowPosition d (d.pfx.sweep / 8192) (d.pfx.sweep % 8192) with ⟨key, unit⟩
  have hshadow : ∀ u, (upsetRow u d).pfx.shadow = d.pfx.shadow := fun _ => rfl
  have harr : (upsetRow { bank := d.pfx.sweep / 8192, row := d.pfx.sweep % 8192, flips } d).pfx.arr =
      mmod d.pfx.arr key fun e => { e with units := e.units.set unit (e.units.getD unit 0 ^^^ flips) } := by
    simp only [upsetRow, hk]
  simp only [sweepRow, hpos, hk, hshadow, harr]
  cases hentry : mget d.pfx.shadow key with
  | none =>
    simp only [upsetRow, hk]
    rw [mmod_none _ _ _ (h ▸ hentry)]
  | some e =>
    simp only [mmod_mmod]
    rw [mmod_same _ _ _ fun v hv => ?_]
    · rfl
    · obtain rfl : v = e := Option.some.inj (hv.symm.trans (h ▸ hentry))
      exact ArrEntry.set_upset_unit v unit _

/-- Settles O25: the unit of the swept row that was upset is written again from the shadow, which holds the array's own value. -/
theorem sweepRepairs : Obligations.SweepRepairs := by
  unfold Obligations.SweepRepairs
  exact fun s t flips ha hagree => run_awake_of ha (sweepRow_of_agreed flips hagree)

section
variable {d : Dev}

theorem retentionExpired_of_idle {slot : Nat} {n : Node} (hiso : d.par.state ≠ .isolated) (hn : mget d.pfx.dir slot = some n)
    (hunref : n.unreferenced = true) (hk : (d.scope n.scope).retainK ≠ 0xFFFF) (hbound : (d.tt.frame - n.lastHit).toNat < 2 ^ 31)
    (hidle : 1024 * (d.scope n.scope).retainK ≤ (d.tt.frame - n.lastHit).toNat) :
    retentionExpired slot d = removeNode (n.depth + 1) slot d := by
  simp only [retentionExpired, hn]
  rw [if_pos ⟨hunref, hk, by rw [isolated_of_ne hiso]; rfl, hbound, hidle⟩]

/-- A block move that finds a free position below the bank's size shifts the entries above it, and its entry takes position 0. -/
theorem blockMove_of_room {bank k : Nat} {ins : ArrInsert} {n : Node} (hins : d.pfx.inserts = [ins]) (hbank : ins.bank = bank)
    (hn : mget d.pfx.dir ins.entry.slot = some n) (hlive : n.state = .live)
    (hunits : entryUnits (d.scope n.scope) ins.entry.slot n = ins.entry.units)
    (hfree : leastFrom (fun p => !mhas d.pfx.arr (8192 * bank + p)) 0 (bankEntries d bank) = some k) (hk : k < bankEntries d bank) :
    blockMove bank d = modNode ins.entry.slot (fun n => { n with inArray := true }) { d with
      pfx.inserts := []
      pfx.arr := mset (shiftDown bank k d.pfx.arr) (8192 * bank) ins.entry
      pfx.shadow := mset (shiftDown bank k d.pfx.shadow) (8192 * bank) ins.entry } := by
  have hsize : bankEntries { d with pfx.inserts := [] } bank = bankEntries d bank := rfl
  have hscope : Dev.scope { d with pfx.inserts := [] } n.scope = d.scope n.scope := rfl
  have hlast : min k (bankEntries d bank - 1) = k := by omega
  have hne : k ≠ bankEntries d bank := by omega
  simp [blockMove, hins, hbank, hn, hlive, hscope, hunits, hsize, hfree, hlast, hne]

/-- Of several pins on a page one is released: the operation's entry goes and the count falls by one. -/
theorem dropPin_of_shared {op p : Nat} {h : PinHold} (hpin : (d.pfx.pinOps.find? fun h => decide (h.op = op) && decide (h.page = p)) = some h)
    (hcount : 1 < pinCount d p) :
    dropPin op p d = drainDown (.page p) h.loc { d with
      pfx.pinOps := d.pfx.pinOps.erase h
      pfx.pins := mset d.pfx.pins p (pinCount d p - 1) } := by
  have hne : pinCount d p - 1 ≠ 0 := by omega
  simp only [dropPin, hpin, if_neg hne]

theorem pinGranted_of_room {op p : Nat} {w : PinWait} {pg : Page} (hwaits : d.pfx.pinWaits = [w]) (hop : w.op = op) (hpage : w.page = p)
    (hp : mget d.kvs.pages p = some pg) (hrefused : pinRefused d pg = false) (hheld : grantsHeld d p = false) (hroom : pinRoom d p = true) :
    pinGranted op p d = grantPin op p pg.home { d with
      pfx.pinWaits := []
      pfx.pinEpisode := false } := by
  simp [pinGranted, hwaits, hop, hpage, hp, hrefused, hheld, hroom]

theorem pinTimeout_of_request {op : Nat} {w : PinWait} (hw : w ∈ d.pfx.pinWaits) (hop : w.op = op) (heven : op % 2 = 0)
    (hpast : past w.since (ms 1) d.now = true) :
    pinTimeout op d = forL (requestPages (dropPins op d) (op / 2)) (takePin op) (dropPins op d) := by
  have hdue : (d.pfx.pinWaits.any fun w => decide (w.op = op) && past w.since (ms 1) d.now) = true :=
    List.any_eq_true.mpr ⟨w, hw, by simp [hop, hpast]⟩
  simp [pinTimeout, hdue, heven]

theorem reclaimPage_of_owned {p i : Nat} {pg : Page} (hp : mget d.kvs.pages p = some pg) (hst : pg.state = .retiring)
    (howner : pg.owner = some i) (hpins : pinCount d p = 0) (hframe : serialLe (pg.retireFrame + 2) d.tt.frame = true)
    (hhalt : d.ras.reclaimHalted = false) :
    reclaimPage p d = { freeHome pg.home d with kvs.pages := mdel (freeHome pg.home d).kvs.pages p } := by
  simp only [reclaimPage, hp]
  rw [if_pos ⟨hst, hpins, hframe, by rw [hhalt]; rfl⟩, howner]
  rfl

end

/-- Settles O26: each timer and each pin event under its conditions. -/
theorem prefixTimersAndPins : Obligations.PrefixTimersAndPins := by
  unfold Obligations.PrefixTimersAndPins
  exact ⟨⟨fun s t slot n hs hiso hn hunref hk hbound hidle =>
      run_service_of hs (retentionExpired_of_idle hiso hn hunref hk hbound hidle),
    fun s t bank k ins n ha hins hbank hn hlive hunits hfree hk =>
      run_awake_of ha (blockMove_of_room hins hbank hn hlive hunits hfree hk),
    fun s t rq m block hs => run_service_of hs rfl, fun s t rq m block hs => run_service_of hs rfl⟩,
    fun s t op p h ha hpin hcount => run_awake_of ha (dropPin_of_shared hpin hcount),
    fun s t op p w pg ha hwaits hop hpage hp hrefused hheld hroom =>
      run_awake_of ha (pinGranted_of_room hwaits hop hpage hp hrefused hheld hroom),
    fun s t op w ha hw hop heven hpast => run_awake_of ha (pinTimeout_of_request hw hop heven hpast),
    fun s t p pg i ha hp hst howner hpins hframe hhalt =>
      run_awake_of ha (reclaimPage_of_owned hp hst howner hpins hframe hhalt)⟩

end Sys2Proof
end

section
/-! PROOFS. ATTEND and its answers (R56, R58, R185, R186, R205), the work of the cores (R221, R224, R233 to R235) and changes of models (R244, R248,
R250). -/

namespace Sys2Proof

open Machine

section
variable {d : Dev} {rq : Requester} {t arr : Time} {port : Nat} {m : AttendMsg}

theorem attendCmd_of_stranger (h : streamOnPort d m.stream port .attend = false) :
    attendCmd t arr rq port m d = reply rq St.attStream [] (count Reg.attRefuseCount { d with att.refused := true }) := by
  simp [attendCmd, h]

/-- A request that a check refuses is counted and waits in the table with its status, whether or not its model is known. -/
theorem attendCmd_of_refused {tenant : Nat} {pl : Place} (htenant : tenantOf d rq = some tenant)
    (hstream : streamOnPort d m.stream port .attend = true) (hbad : attendCheck d tenant m ≠ St.ok)
    (hvariant : attendCheck d tenant m ≠ St.iatVariantAbsent)
    (hplace : placeOf (count Reg.attRefuseCount { d with att.refused := true }) m.stream arr = some pl) :
    attendCmd t arr rq port m d = (addRequest (newRequest rq port tenant m pl arr (attendCheck d tenant m) 0 [])
      (count Reg.attRefuseCount { d with att.refused := true })).2 := by
  have hnot : ¬(attendCheck d tenant m = St.ok ∨ attendCheck d tenant m = St.iatVariantAbsent) := not_or.mpr ⟨hbad, hvariant⟩
  simp only [attendCmd, htenant, hstream, Option.getD_some, Bool.not_true, Bool.false_eq_true, if_false, if_neg hnot, hplace]
  cases descOf (count Reg.attRefuseCount { d with att.refused := true }) m.model with
  | none => rfl
  | some desc => exact if_pos hbad

theorem attendCmd_of_accepted {tenant : Nat} {pl : Place} {desc : ModelDesc} (htenant : tenantOf d rq = some tenant)
    (hstream : streamOnPort d m.stream port .attend = true) (hok : attendCheck d tenant m = St.ok)
    (hplace : placeOf d m.stream arr = some pl) (hdesc : descOf d m.model = some desc) :
    attendCmd t arr rq port m d = orderHold d.att.nextReq arr (acceptRequest t arr rq port tenant m desc pl d) := by
  simp [attendCmd, htenant, hstream, hok, hplace, hdesc]

end

section
variable {d : Dev} {id : Nat} {r : Request}

/-- The one request whose slot it is gets its answer. -/
theorem resultSlot_of_due {slot : Nat} (hreqs : d.att.reqs = [(id, r)]) (hframe : r.due.frame = d.tt.frame) (hslot : r.due.slot = slot)
    (hstart : serialLe r.due.start d.now = true) : resultSlot slot d = answer id d := by
  simp [resultSlot, hreqs, hframe, hslot, hstart, forL]

theorem answer_of_refused (hr : mget d.att.reqs id = some r) (h : r.refusal ≠ St.ok) : answer id d = sendRefused id r d := by
  simp only [answer, hr, if_pos h]

theorem answer_of_finished (hr : mget d.att.reqs id = some r) (hok : r.refusal = St.ok) (hlate : lateBy r = none)
    (hfinished : allFinished r = true) : answer id d = sendResult id r d := by
  simp [answer, hr, hok, hlate, hfinished]

/-- A request that has not finished for no other cause has overrun its slot. -/
theorem answer_of_overrun (hr : mget d.att.reqs id = some r) (hok : r.refusal = St.ok) (hlate : lateBy r = none)
    (hfinished : allFinished r = false) (hdelay : latestDelay r.delays = none) (hread : runningRead d r = none)
    (hwait : awaitsT2 d r = false) : answer id d = answerLate id (delayed St.iatOverrun id d) := by
  have hcause : overdueCause r d = (St.iatOverrun, d) := by simp [overdueCause, hread, hdelay, hwait]
  simp [answer, hr, hok, hlate, hfinished, hcause]

end

/-- Settles O27: the three ways of an ATTEND, and the three answers at a result slot. -/
theorem attendAndResults : Obligations.AttendAndResults := by
  unfold Obligations.AttendAndResults
  refine ⟨fun s t rq port m hs hstream => run_service_of hs (attendCmd_of_stranger hstream), ?_,
    fun s t rq port m tenant pl desc hs htenant hstream hok hplace hdesc =>
      run_service_of hs (attendCmd_of_accepted htenant hstream hok hplace hdesc), ?_⟩
  · intro s t rq port m tenant pl hs htenant hstream hbad hvariant d hplace
    exact run_service_of hs (attendCmd_of_refused htenant hstream hbad hvariant hplace)
  · intro s t slot id r hs hreqs hframe hslot hstart
    have hr : mget (s.at t).att.reqs id = some r := by rw [hreqs, mget, if_pos rfl]
    have hdue := resultSlot_of_due hreqs hframe hslot hstart
    exact ⟨fun hbad => run_service_of hs (hdue.trans (answer_of_refused hr hbad)),
      fun hok hlate hfinished => run_service_of hs (hdue.trans (answer_of_finished hr hok hlate hfinished)),
      fun hok hlate hfinished hdelay hread hwait =>
        run_service_of hs (hdue.trans (answer_of_overrun hr hok hlate hfinished hdelay hread hwait))⟩

section
variable {d : Dev} {id : Nat} {r : Request}

/-- A tile that is not the last of its slice advances the slice by one page. -/
theorem runTile_of_inner {x : Slice} {c : TileCtx} {v : SegView} {o : Nat} {p : ViewPage} (hctx : tileCtx d r x.seg = some (c, v))
    (hord : x.ords[x.next]? = some o) (hpage : (partPages v r.inFollowup)[o]? = some p) (hinner : x.next + 1 < x.ords.length) :
    runTile id r x d = modReq id (fun w => { w with slices := w.slices.map fun y =>
      if y.g = x.g then { y with
        next := y.next + 1
        states := tile c (segRows r.msg x.seg) x.kvHead p.index p.toks x.states
        done := false } else y }) d := by
  have hlast : x.next + 1 ≠ x.ords.length := Nat.ne_of_lt hinner
  simp [runTile, hctx, hord, hpage, hlast]

theorem tileComplete_of_match {g : Nat} {x : Slice} (hr : mget d.att.reqs id = some r)
    (hx : (r.slices.find? fun y => decide (y.g = g)) = some x) (hdone : x.done = false) (hqueued : x.queued = true)
    (hruns : notRunning d x.core = false) : tileComplete id g false d = runTile id r x d := by
  simp [tileComplete, hr, hx, hdone, hqueued, hruns]

theorem tileComplete_of_mismatch {g : Nat} {x : Slice} (hr : mget d.att.reqs id = some r)
    (hx : (r.slices.find? fun y => decide (y.g = g)) = some x) (hdone : x.done = false) (hqueued : x.queued = true)
    (hruns : notRunning d x.core = false) : tileComplete id g true d = mismatchOn x.core id d := by
  simp [tileComplete, hr, hx, hdone, hqueued, hruns]

/-- The first mismatch of a core is counted and its work delayed; only a second one within a second fences the core. -/
theorem mismatchOn_of_first {i l p : Nat} {c : PCore} (hstand : standInCore d i = some l) (hmap : mget d.att.lmap l = some p)
    (hcore : mget d.att.pcores p = some c) (hfirst : c.lastMismatch = none) :
    mismatchOn i id d = delayed St.rasResidue id (modCore p (fun c => { c with
      mismatches := min 0xFFFF (c.mismatches + 1)
      lastMismatch := some d.now }) (count Reg.attResidueCount d)) := by
  simp [mismatchOn, hstand, hmap, hcore, hfirst]

theorem mergeStep_of_children {seg kvHead below index : Nat} {a b : TreeNode} {x : Slice} (hr : mget d.att.reqs id = some r)
    (ha : treeNode r seg kvHead below (2 * index) = some a) (hb : treeNode r seg kvHead below (2 * index + 1) = some b)
    (hx : (r.slices.find? fun x => decide (x.seg = seg) && decide (x.kvHead = kvHead)) = some x) (hruns : notRunning d a.core = false) :
    mergeStep id seg kvHead (below + 1) index false d =
      placeState id seg kvHead x.nSlices a.core (List.zipWith mergeState a.states b.states) (treeFuel x.nSlices) (below + 1) index
        (modReq id (fun r => { r with tree := (r.tree.erase a).erase b }) d) := by
  simp [mergeStep, hr, ha, hb, hx, hruns]

theorem spareTakeover_of_pass {lcore : Nat} {k : Takeover} (hk : d.att.takeovers = [k]) (hcore : k.lcore = lcore)
    (hpast : past k.since (us 20) d.now = true) :
    spareTakeover lcore true d = modDomain (2 + k.spare) (fun q => { q with
        state := .on
        idleSince := d.now })
      (modCore k.spare (fun c => { c with
        state := .active
        lcore := lcore }) { d with att.takeovers := [] }) := by
  subst hcore
  simp [spareTakeover, hk, hpast]
  rfl

end

/-- Settles O28: the four ends of work on a core. -/
theorem coreWork : Obligations.CoreWork := by
  unfold Obligations.CoreWork
  refine ⟨?_, fun s t id g l p r x c ha hr hx hdone hqueued hruns hstand hmap hcore hfirst => run_awake_of ha
      ((tileComplete_of_mismatch hr hx hdone hqueued hruns).trans (mismatchOn_of_first hstand hmap hcore hfirst)),
    fun s t id seg kvHead below index r a b x ha hr hleft hright hx hruns =>
      run_awake_of ha (mergeStep_of_children hr hleft hright hx hruns),
    fun s t lcore k ha hk hcore hpast => run_awake_of ha (spareTakeover_of_pass hk hcore hpast)⟩
  intro s t id g r x c v o p ha hr hx hdone hqueued hruns hctx hord hpage hinner
  exact run_awake_of ha ((tileComplete_of_match hr hx hdone hqueued hruns).trans (runTile_of_inner hctx hord hpage hinner))

section
variable {d : Dev} {rq : Requester} {model : Nat} {m : Model}

theorem modelLoadCmd_of_free {desc : ModelDesc} (hsolo : d.par.state = .solo) (hfree : mget d.att.models desc.model = none)
    (hgeometry : geometryFault desc = none) :
    modelLoadCmd rq desc d = { d with
      par.commitSeq := d.par.commitSeq + 1
      att.modelChanges := d.att.modelChanges ++
        [{ rq, load := some desc, unload := desc.model, boundary := changeBoundary d, tag := none, peerTag := none }]
      att.models := mset d.att.models desc.model { desc, state := .loading, granted := 0, borrowed := 0 } } := by
  simp [modelLoadCmd, mhas, hfree, hgeometry, changeModel, hsolo, scheduleModel]

theorem modelLoadCmd_of_busy {desc : ModelDesc} (h : mget d.att.models desc.model = some m) :
    modelLoadCmd rq desc d = reply rq St.cfgModelIdBusy [desc.model, m.state.code, 0, 0, 0, 0, 0, 0, 0xFFFF] d := by
  simp [modelLoadCmd, mhas, h]

theorem modelUnloadCmd_of_unused (hsolo : d.par.state = .solo) (h : mget d.att.models model = some m) (hst : m.state = .active)
    (hseqs : hasSequences d model = false) :
    modelUnloadCmd rq model d = { d with
      par.commitSeq := d.par.commitSeq + 1
      att.modelChanges := d.att.modelChanges ++
        [{ rq, load := none, unload := model, boundary := changeBoundary d, tag := none, peerTag := none }] } := by
  simp [modelUnloadCmd, unloadCheck, h, hst, hseqs, changeModel, hsolo, scheduleModel]

theorem modelUnloadCmd_of_used (h : mget d.att.models model = some m) (hst : m.state = .active) (hseqs : hasSequences d model = true) :
    modelUnloadCmd rq model d = reply rq St.cfgModelInUse [model, m.state.code] d := by
  have hcheck : unloadCheck d model = St.cfgModelInUse := by simp [unloadCheck, h, hst, hseqs]
  have hne : St.cfgModelInUse ≠ St.ok := by decide
  simp [modelUnloadCmd, hcheck, hne, unloadFields, h]

theorem unloadComplete_of_idle (h : mget d.att.models model = some m) (hst : m.state = .unloading) (hreqs : hasRequests d model = false) :
    unloadComplete model d = { d with att.models := mdel d.att.models model } := by
  simp [unloadComplete, h, hst, hreqs]

end

/-- Settles O29: the load, the unload, their refusals, and the end of an UNLOADING model. -/
theorem modelChanges : Obligations.ModelChanges := by
  unfold Obligations.ModelChanges
  exact ⟨fun s t rq d hv hsolo hfree hgeometry => run_vendor_of hv (modelLoadCmd_of_free hsolo hfree hgeometry),
    fun s t rq d m hv h => run_vendor_of hv (modelLoadCmd_of_busy h),
    fun s t rq model m hv hsolo h hst hseqs => run_vendor_of hv (modelUnloadCmd_of_unused hsolo h hst hseqs),
    fun s t rq model m hv h hst hseqs => run_vendor_of hv (modelUnloadCmd_of_used h hst hseqs),
    fun s t model m ha h hst hreqs => run_awake_of ha (unloadComplete_of_idle h hst hreqs)⟩

end Sys2Proof
end

section
/-! PROOFS. Moves (R257, R259, R262 to R266, R301, R302) and PROMOTE (R276, R277). -/

namespace Sys2Proof

open Machine

section
variable {d : Dev} {id : Nat} {m : Move}

/-- The one move of a device is the move that its number finds. -/
theorem find_move_of_single (hmoves : d.tir.moves = [m]) (hid : m.id = id) :
    (d.tir.moves.find? fun m => decide (m.id = id)) = some m := by
  simp [hmoves, hid]

theorem pinSource_of_pinned (h : sourcePinned d m = true) : pinSource m d = d := by
  unfold pinSource
  split
  · rw [h]
    rfl
  · rfl

theorem beginCopy_of_destination {h : Home} {e : Dev} (hdest : destination m d = some (h, e)) :
    beginCopy m d = demotion (moveReads m (modMove m.id (fun m => { m with
        state := .copying
        dest := some h })
      { e with tir.allocWaits := e.tir.allocWaits.filter fun w => !decide (w.move = m.id) })) := by
  rw [beginCopy, hdest]

theorem moveStart_of_ready (hmoves : d.tir.moves = [m]) (hid : m.id = id) (hst : m.state = .queued) (hkind : m.kind ≠ .relocation)
    (hmay : mayStart d m = true) (hpinned : sourcePinned d m = true) : moveStart id d = beginCopy m d := by
  simp [moveStart, find_move_of_single hmoves hid, hst, hkind, hmay, pinSource_of_pinned hpinned, hpinned]

theorem trySwitch_of_room {h : Home} (hroom : d.tir.drains.length < drainEntries) : trySwitch m h d = doSwitch m h d :=
  if_pos hroom

theorem copyComplete_of_good {h : Home} (hmoves : d.tir.moves = [m]) (hid : m.id = id) (hst : m.state = .copying) (hdest : m.dest = some h)
    (hreads : (d.fls.reads.any fun r => decide (r.move = some m.id)) = false) (hgood : destGood d m h = true)
    (hwait : m.drainWait = none) (hroom : d.tir.drains.length < drainEntries) : copyComplete id true d = doSwitch m h d := by
  simp only [copyComplete, find_move_of_single hmoves hid, hst, hdest, hreads, hgood, hwait]
  exact trySwitch_of_room hroom

theorem grantHoldTimeout_of_demotion {since : Time} (hmoves : d.tir.moves = [m]) (hid : m.id = id) (hst : m.state = .switching)
    (hhold : m.grantHold = some since) (hkind : m.kind = .demotion) (hpast : past since (us 1) d.now = true) :
    grantHoldTimeout id d = demotion (finishMove m d) := by
  simp [grantHoldTimeout, find_move_of_single hmoves hid, hst, hhold, hkind, hpast]

theorem poolUse_moves (pool n : Nat) (up : Bool) (d : Dev) : (poolUse pool n up d).tir.moves = d.tir.moves := by
  unfold poolUse
  dsimp only
  split
  · rfl
  · split
    · rfl
    · rfl

/-- Freeing a home moves nothing. -/
theorem freeHome_moves (h : Home) (d : Dev) : (freeHome h d).tir.moves = d.tir.moves := by
  cases h with
  | staging k => rfl
  | t2 e => rfl
  | t1 a =>
    simp only [freeHome, t1Free]
    split
    · rfl
    · exact poolUse_moves ..

theorem drainFree_of_drained {e : Drain} (hdrains : d.tir.drains = [e]) (hcount : e.count = 0) (hframe : serialLe (e.frame + 2) d.tt.frame = true)
    (hhalt : d.ras.reclaimHalted = false) (hmoves : d.tir.moves = []) :
    drainFree e.datum d = freeHome e.old { d with tir.drains := [] } := by
  have hnone : (freeHome e.old { d with tir.drains := [] }).tir.moves = [] := (freeHome_moves ..).trans hmoves
  have hfind : (d.tir.drains.find? fun x => decide (x.datum = e.datum) && decide (x.count = 0) && serialLe (x.frame + 2) d.tt.frame)
      = some e := by
    rw [hdrains, List.find?_cons_of_pos]
    simp only [decide_true, hcount, hframe, Bool.and_self]
  have herase : d.tir.drains.erase e = [] := by rw [hdrains, List.erase_cons_head]
  simp only [drainFree, hfind, hhalt, Bool.false_eq_true, if_false, herase, hnone, List.find?_nil]

theorem allocGranted_of_waiting (hmoves : d.tir.moves = [m]) (hid : m.id = id) (hst : m.state = .queued) (hkind : m.kind ≠ .refetch)
    (hwaits : (d.tir.allocWaits.any fun w => decide (w.move = id)) = true) : allocGranted id d = beginCopy m d := by
  simp only [allocGranted, find_move_of_single hmoves hid, hwaits, hst, decide_true, Bool.and_self, if_true, if_neg hkind]

theorem drainWaitTimeout_of_past {h : Home} {since : Time} (hmoves : d.tir.moves = [m]) (hid : m.id = id) (hwait : m.drainWait = some since)
    (hdest : m.dest = some h) (hpast : past since (ms 1) d.now = true) :
    drainWaitTimeout id d = modMove id (fun m => { m with
      state := .queued
      dest := none
      drainWait := none }) (dropPins (moveOp id) (freeHome h d)) := by
  simp [drainWaitTimeout, find_move_of_single hmoves hid, hwait, hdest, hpast]

/-- A promotion whose allocation waits too long is cancelled, and the requests that wait for its datum are late by a full T1. -/
theorem allocTimeout_of_promotion {w : AllocWait} (hmoves : d.tir.moves = [m]) (hid : m.id = id) (hwaits : d.tir.allocWaits = [w])
    (hw : w.move = id) (hkind : m.kind = .promotion) (hpast : past w.since (ms 1) d.now = true) :
    allocTimeout id d = forL (dependents (cancelMove m d) m.datum) (fun id d => delayed St.tirT1Full id d)
      (raiseDev St.tirT1Full { cancelMove m d with tir.t1Full := true }) := by
  have hwait : (d.tir.allocWaits.find? fun w => decide (w.move = id)) = some w := by simp [hwaits, hw]
  simp [allocTimeout, find_move_of_single hmoves hid, hwait, hpast, hkind]

end

/-- Settles O30: the five steps of a move. -/
theorem movesRun : Obligations.MovesRun := by
  unfold Obligations.MovesRun
  refine ⟨fun s t id m h d ha hmoves hid hst hkind hmay hpinned hdest => run_awake_of ha
      ((moveStart_of_ready hmoves hid hst hkind hmay hpinned).trans (beginCopy_of_destination hdest)),
    fun s t id m h ha hmoves hid hst hdest hreads hgood hwait hroom => run_awake_of ha ?_,
    fun s t id m since ha hmoves hid hst hhold hkind hpast => run_awake_of ha ?_,
    fun s t e ha hdrains hcount hframe hhalt hmoves => run_awake_of ha ?_,
    fun s t id m ha hmoves hid hst hkind hwaits => run_awake_of ha ?_⟩
  · rw [copyComplete_of_good hmoves hid hst hdest hreads hgood hwait hroom]
  · rw [grantHoldTimeout_of_demotion hmoves hid hst hhold hkind hpast]
  · rw [drainFree_of_drained hdrains hcount hframe hhalt hmoves]
  · rw [allocGranted_of_waiting hmoves hid hst hkind hwaits]

theorem heatTick_of_due {d : Dev} (h : 1024 ≤ (d.tt.frame - d.tir.heatFrame).toNat) :
    heatTick d = compact (demotion { d with
      tir.heat := mmap d.tir.heat (fun a => min 15 (a + 1))
      tir.heatFrame := d.tt.frame }) :=
  if_neg (Nat.not_lt.mpr h)

theorem refetchArrived_of_move {d : Dev} {x : Datum} {since : Time} {m : Move} (hsince : refetchSince d x = some since)
    (hmove : moveOf (pushMove x .refetch 0 (cancelMoves x (endRefetch x d))) x = some m) :
    refetchArrived x d = landRefetch m (pushMove x .refetch 0 (cancelMoves x (endRefetch x d))) := by
  simp only [refetchArrived, hsince, hmove, Option.isNone_some, Bool.false_eq_true, if_false]

theorem refetchTimeout_of_past {d : Dev} {x : Datum} {since : Time} (hsince : refetchSince d x = some since)
    (hpast : past since (ms 2) d.now = true) : refetchTimeout x d = loseDatum x (endRefetch x d) := by
  simp [refetchTimeout, hsince, hpast]

/-- Settles O31: the limits of a move, the heat table's clock, and the two ends of a refetch. -/
theorem moveLimits : Obligations.MoveLimits := by
  unfold Obligations.MoveLimits
  refine ⟨fun s t id m h since ha hmoves hid hwait hdest hpast => run_awake_of ha ?_, ?_,
    fun s t ha hdue => run_awake_of ha (heatTick_of_due hdue), ?_,
    fun s t since x ha hsince hpast => run_awake_of ha (refetchTimeout_of_past hsince hpast)⟩
  · rw [drainWaitTimeout_of_past hmoves hid hwait hdest hpast]
  · intro s t id m w ha hmoves hid hwaits hw hkind hpast
    exact run_awake_of ha (allocTimeout_of_promotion hmoves hid hwaits hw hkind hpast)
  · intro s t since x m ha hsince d1 hmove
    exact run_awake_of ha (congrArg goOn (refetchArrived_of_move hsince hmove))

section
variable {d : Dev} {rq : Requester} {t : Time} {m : PromoteMsg} {i : Nat} {q : Machine.Seq}

theorem promoteCmd_of_ready (hcheck : checkSeq d rq (actingTenant d rq m.handle) m.handle true = (St.ok, i))
    (hq : mget d.kvs.seqs i = some q) (hst : q.state = .seated) (hheld : q.held = []) (hret : returning d i = false) :
    promoteCmd t rq m d = promoteSeated rq m i d := by
  simp [promoteCmd, hcheck, hq, hst, whenSeated_of_ready hq hst hheld hret]

theorem promoteSeated_of_cancel (hq : mget d.kvs.seqs i = some q) (hrange : promoteRangeOk q m = true) (hcancel : m.cancel = true) :
    promoteSeated rq m i d =
      (fun e => reply rq St.ok (cancelReply (promoteRange q m) e) e)
      (cancelPromotions (promoteRange q m) (modSeq i (fun q => { q with lastFrame := d.tt.frame }) d)) := by
  simp [promoteSeated, hq, hrange, hcancel]

/-- The tally of a range's pages, queued one by one. -/
def promoteTally (m : PromoteMsg) (i : Nat) (q : Machine.Seq) (d : Dev) : PromoteTally × Dev :=
  (promoteRange q m).foldl (fun x p => promoteOne m.needBy p x)
    ({ queued := 0, inT1 := 0, inFlight := 0, readyBy := d.now, full := false },
      modSeq i (fun q => { q with lastFrame := d.tt.frame }) d)

theorem promoteSeated_of_room (hq : mget d.kvs.seqs i = some q) (hrange : promoteRangeOk q m = true) (hcancel : m.cancel = false)
    (hroom : (promoteTally m i q d).1.full = false) :
    promoteSeated rq m i d = reply rq St.ok [(promoteTally m i q d).1.queued, (promoteTally m i q d).1.inT1,
      (promoteTally m i q d).1.inFlight, (promoteTally m i q d).1.readyBy.toNat] (promoteTally m i q d).2 := by
  have htally : promoteSeated rq m i d =
      (fun r : PromoteTally × Dev => reply rq (if r.1.full then St.tirPromoteQueueFull else St.ok)
        [r.1.queued, r.1.inT1, r.1.inFlight, r.1.readyBy.toNat] (if r.1.full then { r.2 with tir.queueFull := true } else r.2))
      (promoteTally m i q d) := by
    simp only [promoteSeated, hq, hrange, hcancel, Bool.not_true, Bool.false_eq_true, if_false]
    rfl
  simp only [htally, hroom, Bool.false_eq_true, if_false]

end

/-- Settles O32: a PROMOTE of a SEATED sequence reaches its range, and `cancel` decides between the two answers. -/
theorem promotions : Obligations.Promotions := by
  unfold Obligations.Promotions
  intro s t rq m i q hs hcheck hq hst hheld hret hrange d
  have hready := promoteCmd_of_ready (t := t) hcheck hq hst hheld hret
  refine ⟨fun hcancel => run_service_of hs (hready.trans (promoteSeated_of_cancel hq hrange hcancel)), ?_⟩
  intro hcancel zero r hroom
  exact run_service_of hs (hready.trans (promoteSeated_of_room hq hrange hcancel hroom))

end Sys2Proof
end

section
/-! PROOFS. Weight objects (R289, R291, R292) and weight streams (R296, R297, R299). -/

namespace Sys2Proof

open Machine

section
variable {d : Dev} {rq : Requester} {tenant obj : Nat} {o : Obj} {r : ObjAdmin}

theorem mirrored_of_solo (h : d.par.state = .solo) : d.mirrored = false := by
  rw [Dev.mirrored, h]
  rfl

theorem objCreateCmd_of_passes (hsolo : d.par.state = .solo) (htenant : tenantOk d rq r.tenant = true) (hrange : createRange r = true) :
    objCreateCmd rq r d = leaderApply rq (.objCreate (!d.sideA) r) none (applyCreate (!d.sideA) r) d := by
  simp [objCreateCmd, htenant, hrange, pairChange_of_solo hsolo]

theorem objSealCmd_of_not_opened (hsolo : d.par.state = .solo) (hcheck : objCheck d rq tenant obj true = St.ok)
    (ho : mget d.tir.objs obj = some o) (hst : o.state ≠ .opened) :
    objSealCmd rq tenant obj d = leaderApply rq (.objSeal obj) none (applySeal obj) d := by
  simp [objSealCmd, hcheck, ho, hst, pairChange_of_solo hsolo]

/-- The seal of an OPEN object also asks for the copies that its mirror class owes. -/
theorem objSealCmd_of_opened (hsolo : d.par.state = .solo) (hcheck : objCheck d rq tenant obj true = St.ok)
    (ho : mget d.tir.objs obj = some o) (hst : o.state = .opened) :
    objSealCmd rq tenant obj d = dueBlocks obj o (leaderApply rq (.objSeal obj) none (applySeal obj) d) := by
  simp [objSealCmd, hcheck, ho, hst, isolated_of_solo hsolo, mirrored_of_solo hsolo, pairChange_of_solo hsolo]

theorem objDeleteCmd_of_passes (hsolo : d.par.state = .solo) (hcheck : objCheck d rq tenant obj true = St.ok) :
    objDeleteCmd rq tenant obj d = leaderApply rq (.objDelete obj) none (applyDelete obj) d := by
  simp [objDeleteCmd, hcheck, pairChange_of_solo hsolo]

theorem objReopenCmd_of_passes (hsolo : d.par.state = .solo) (hcheck : objCheck d rq tenant obj true = St.ok) :
    objReopenCmd rq tenant obj d = leaderApply rq (.objReopen obj) none (applyReopen obj) d := by
  simp [objReopenCmd, hcheck, pairChange_of_solo hsolo]

theorem objQueryCmd_of_passes (hcheck : objCheck d rq tenant obj false = St.ok) :
    objQueryCmd rq tenant obj d = reply rq St.ok (objFields d obj) d := by
  simp [objQueryCmd, hcheck]

/-- A COPY_IN that passes every check writes the region's bytes; the object's record is no part of memory. -/
theorem objCopyInCmd_of_passes {g : Region} (hcheck : objCheck d rq r.tenant r.object true = St.ok) (hiso : d.par.state ≠ .isolated)
    (ho : mget d.tir.objs r.object = some o) (hg : mget d.cxl.regions r.region = some g) (hkind : g.kind = 2) (hsize : r.size ≠ 0)
    (hobj : r.offset + r.size ≤ o.size) (hregion : 4096 * r.regionOffset + r.size ≤ g.size) (htenant : g.tenant = r.tenant)
    (hst : o.state = .opened) (hpoison : poisonedRange g 0 (4096 * r.regionOffset) r.size = false) :
    objCopyInCmd rq r d = reply rq St.ok (objFields d r.object) { d with
      mem := memWriteN d.mem (objVa r.object r.offset)
        (memReadN d.mem (regionVa r.region 0 (4096 * r.regionOffset)) r.size) } := by
  have hrange : ¬(g.kind ≠ 2 ∨ r.size = 0 ∨ o.size < r.offset + r.size ∨ g.size < 4096 * r.regionOffset + r.size) := by omega
  simp only [objCopyInCmd, hcheck, ne_eq, not_true_eq_false, if_false, isolated_of_ne hiso, Bool.false_eq_true, ho, hg, if_neg hrange,
    htenant, hst, hpoison]
  rfl

theorem deleteComplete_of_unread (ho : mget d.tir.objs obj = some o) (hst : o.state = .deleting) (hreaders : o.readers = 0) :
    deleteComplete obj d =
      (fun e : Dev => { e with
        tir.objs := mdel e.tir.objs obj
        par.objOwnerB := e.par.objOwnerB.filter fun k => !decide (k = obj)
        mem := memClear e.mem (objVa obj 0) (2 ^ 44) })
      (t1Free o.mapBase (forL o.blocks (fun b d => freeHome b.2 d) d)) := by
  simp only [deleteComplete, ho]
  exact if_pos ⟨hst, hreaders⟩

end

/-- Settles O33: each object command under its conditions. -/
theorem weightObjects : Obligations.WeightObjects := by
  unfold Obligations.WeightObjects
  refine ⟨fun s t rq r hv hsolo htenant hrange => run_vendor_of hv (objCreateCmd_of_passes hsolo htenant hrange),
    fun s t rq tenant obj o hv hsolo hcheck ho =>
      ⟨fun hst => run_vendor_of hv (objSealCmd_of_not_opened hsolo hcheck ho hst),
      fun hst => run_vendor_of hv (objSealCmd_of_opened hsolo hcheck ho hst),
      run_vendor_of hv (objDeleteCmd_of_passes hsolo hcheck), run_vendor_of hv (objReopenCmd_of_passes hsolo hcheck)⟩,
    fun s t rq tenant obj hv hcheck => run_vendor_of hv (objQueryCmd_of_passes hcheck),
    fun s t rq r o g hv hcheck hiso ho hg hkind hsize hobj hregion htenant hst hpoison =>
      run_vendor_of hv (objCopyInCmd_of_passes hcheck hiso ho hg hkind hsize hobj hregion htenant hst hpoison),
    fun s t obj o ha ho hst hreaders => run_awake_of ha (deleteComplete_of_unread ho hst hreaders)⟩

section
variable {d : Dev} {rq : Requester} {port : Nat} {m : WStreamMsg}

theorem wstreamCmd_of_passes {tenant : Nat} {f : FrameRef} {e : SlotEntry} (htenant : tenantOf d rq = some tenant)
    (hserve : d.tt.absentService = false) (hcheck : wstreamCheck d tenant port m = St.ok) (hslot : firstListSlot d m = some (f, e)) :
    wstreamCmd rq port m d =
      (fun x : Dev => reply rq St.ok [f.frame.toNat, e.slot, ceilDiv (sumBy (itemBytes d) m.items) 4096]
        (runAheadList m.stream { x with
          tir.lists := mset x.tir.lists m.stream { rq, port, msg := m, tenant, item := 0, sent := 0, skip := 0, lateCount := 0 } }))
      (forL (listObjects m) (fun obj d => modObj obj (fun o => { o with readers := o.readers + 1 }) d) (endList m.stream d)) := by
  simp [wstreamCmd, htenant, hserve, hcheck, hslot]

theorem wstreamCmd_of_absent (h : d.tt.absentService = true) : wstreamCmd rq port m d = reply rq St.iatVariantAbsent [] d := by
  simp [wstreamCmd, h]

/-- A slot of a list whose start has come: the slots still to pass come first, and then the list's share is sent. -/
theorem wstreamSlot_of_list {slot : Nat} {f : FrameRef} {e : SlotEntry} {l : WList} (hf : d.frameRef 0 = some f)
    (he : (f.slots.find? fun e => decide (e.slot = slot) && decide (e.cls = .wstream)) = some e)
    (hl : mget d.tir.lists e.stream = some l) (hstart : serialLt (slotStart f.start e) l.msg.startTime = false)
    (hnow : serialLe (slotStart f.start e) d.now = true) :
    wstreamSlot slot d = if 0 < l.skip then { d with tir.lists := mset d.tir.lists e.stream { l with skip := l.skip - 1 } }
      else sendSlot e.stream l e (slotStart f.start e) d := by
  simp [wstreamSlot, hf, he, hl, hstart, hnow]

end

/-- Settles O34: the WSTREAM, its refusal, and a slot of a list. -/
theorem weightStreams : Obligations.WeightStreams := by
  unfold Obligations.WeightStreams
  refine ⟨fun s t rq port m tenant f e hs htenant hserve hcheck hslot =>
      run_service_of hs (wstreamCmd_of_passes htenant hserve hcheck hslot),
    fun s t rq port m hs habsent => run_service_of hs (wstreamCmd_of_absent habsent),
    fun s t slot f e l hs hf he hl hstart hnow => ?_⟩
  have hslot := wstreamSlot_of_list hf he hl hstart hnow
  refine ⟨fun hskip => run_service_of hs ?_, fun hskip => run_service_of hs ?_⟩
  · rw [hslot, if_pos hskip]
  · rw [hslot, if_neg (by omega)]

end Sys2Proof
end

section
/-! PROOFS. The flash: reads, programs, erases and timeouts (R309, R319, R321, R323, R324, R330), row fill, patrol and checkpoints (R320, R333,
R337), and the supervision of memory and management cores (R545, R546, R555, R558 to R560). -/

namespace Sys2Proof

open Machine

section
variable {d : Dev} {id : Nat} {r : NandRead} {l : Ladder}

/-- The device once the read has left the list and is counted. -/
def readCounted (r : NandRead) (l : Ladder) (d : Dev) : Dev :=
  countReads r.unit r.len (countLadder l (dieAnswers (dieOfUnit r.unit) { d with fls.reads := [] }))

theorem readComplete_of_good (hreads : d.fls.reads = [r]) (hid : r.id = id) (hgood : l.good = true) :
    readComplete id l d = (fun g : Dev => if serialLt r.projection g.now then delayDependents r.datum (readCause l) g.now g else g)
      (noteRebuild (r.unit + l.codeword) l (readCounted r l d)) := by
  subst hid
  simp [readComplete, hreads, hgood, readCounted]
  rfl

theorem readComplete_of_bad (hreads : d.fls.reads = [r]) (hid : r.id = id) (hbad : l.good = false)
    (hnames : namesUnit (uncorrectableAt (r.unit + l.codeword) (readCounted r l d)) r.datum r.unit = true) :
    readComplete id l d
      = uncorrectable r.datum (badReadLate r (uncorrectableAt (r.unit + l.codeword) (readCounted r l d))) := by
  subst hid
  rw [readCounted] at hnames ⊢
  simp [readComplete, hreads, hbad, hnames]

theorem programComplete_of_pass {g key : Nat} {reloc : Bool} (hkey : programBand d g reloc = some key) :
    programComplete g reloc none d = rowGood key (forN 16 (fun pos d => dieAnswers (dieAt g pos) d) d) := by
  rw [programComplete, hkey]

theorem programComplete_of_fail {g key pos : Nat} {reloc : Bool} (hkey : programBand d g reloc = some key) :
    programComplete g reloc (some pos) d = programFails key pos d := by
  rw [programComplete, hkey]

/-- The erase of one set of an ERASING band: a passed set leaves the list, and the last one frees the band. -/
theorem eraseComplete_of_pass {g b pos : Nat} (hst : (d.band (bandKey g b)).state = .erasing)
    (hleft : (d.band (bandKey g b)).eraseLeft.contains pos = true) :
    eraseComplete g b pos true d = (fun e : Dev => if (e.band (bandKey g b)).eraseLeft.isEmpty then freeBand (bandKey g b) e else e)
      (modBand (bandKey g b) (fun x => { x with eraseLeft := x.eraseLeft.filter fun y => !decide (y = pos) })
        (dieAnswers (dieAt g pos) d)) := by
  rw [eraseComplete, if_pos ⟨hst, hleft⟩, if_pos rfl]

theorem eraseComplete_of_fail {g b pos : Nat} (hst : (d.band (bandKey g b)).state = .erasing)
    (hleft : (d.band (bandKey g b)).eraseLeft.contains pos = true) :
    eraseComplete g b pos false d = eraseFails g b pos (dieAnswers (dieAt g pos) d) := by
  rw [eraseComplete, if_pos ⟨hst, hleft⟩]
  exact if_neg (by decide)

theorem readTimesOut_of_early (hreads : d.fls.reads = [r]) (hid : r.id = id) (hstep : r.step < 2) :
    readTimesOut id d = { d with fls.reads := [{ r with step := r.step + 1 }] } := by
  subst hid
  simp [readTimesOut, hreads, hstep]

/-- Fewer than three timeouts in a row are only counted. -/
theorem countTimeout_of_few {n : Nat} {x : Die} (hx : mget d.fls.dies n = some x) (hfew : x.timeouts + 1 < 3) :
    countTimeout n d = { d with fls.dies := mmod d.fls.dies n fun y => { y with timeouts := y.timeouts + 1 } } := by
  simp only [countTimeout, hx]
  exact if_neg fun h => absurd h.2 (by omega)

theorem opTimesOut_of_read {channel slot : Nat} {x : Die} (hreads : d.fls.reads = [r]) (hid : r.id = id)
    (hx : mget d.fls.dies (16 * channel + slot) = some x) (hstep : r.step < 2) (hfew : x.timeouts + 1 < 3) :
    opTimesOut channel slot (.read id) d = { d with
      fls.reads := [{ r with step := r.step + 1 }]
      fls.dies := mmod d.fls.dies (16 * channel + slot) fun y => { y with timeouts := y.timeouts + 1 } } := by
  have hdie : mhas d.fls.dies (16 * channel + slot) = true := by rw [mhas, hx]; rfl
  simp only [opTimesOut, hdie, Bool.not_true, Bool.false_eq_true, if_false, readTimesOut_of_early hreads hid hstep]
  exact countTimeout_of_few (d := { d with fls.reads := [{ r with step := r.step + 1 }] }) hx hfew

end

/-- Settles O35: the ends of a read, a program and an erase, and the timeout of a read. -/
theorem flashOperations : Obligations.FlashOperations := by
  unfold Obligations.FlashOperations
  refine ⟨?_, fun s t g key reloc ha hkey => ⟨?_, fun pos => ?_⟩, ?_,
    fun s t channel slot id r x ha hreads hid hx hstep hfew =>
      run_awake_of ha (congrArg flashStep (opTimesOut_of_read hreads hid hx hstep hfew))⟩
  · intro s t id l r ha hreads hid d g u
    refine ⟨fun hgood hearly => ?_, fun hgood hlate => ?_, fun hbad hnames => ?_⟩
    · refine run_awake_of ha (congrArg flashStep ((readComplete_of_good hreads hid hgood).trans (if_neg ?_)))
      exact Bool.not_eq_true _ ▸ hearly
    · exact run_awake_of ha (congrArg flashStep ((readComplete_of_good hreads hid hgood).trans (if_pos hlate)))
    · exact run_awake_of ha (congrArg flashStep (readComplete_of_bad hreads hid hbad hnames))
  · exact run_awake_of ha (congrArg flashStep (programComplete_of_pass hkey))
  · exact run_awake_of ha (congrArg flashStep (programComplete_of_fail hkey))
  · intro s t g b pos ha hst hleft d
    refine ⟨fun hlast => ?_, fun hmore => ?_, run_awake_of ha (congrArg flashStep (eraseComplete_of_fail hst hleft))⟩
    · exact run_awake_of ha (congrArg flashStep ((eraseComplete_of_pass hst hleft).trans (if_pos (List.isEmpty_iff.mpr hlast))))
    · exact run_awake_of ha (congrArg flashStep ((eraseComplete_of_pass hst hleft).trans
        (if_neg fun h => hmore (List.isEmpty_iff.mp h))))

section
variable {d : Dev}

theorem padRow_of_room {g : Nat} {reloc : Bool} {w : Machine.Writer} {since : Time} (hw : d.writer g reloc = some w)
    (hsince : w.rowSince = some since) (hpast : past since (us 50) d.now = true) (hrow : (d.band w.band).writePoint % 60 ≠ 0)
    (hfits : extentFits d (d.band w.band) (60 - (d.band w.band).writePoint % 60) = true) :
    padRow g reloc d = (writeExtent g reloc w (60 - (d.band w.band).writePoint % 60) .pad none d).2 := by
  simp [padRow, hw, hsince, hpast, hrow, hfits]

/-- A codeword that reads clean leaves a count, and a refresh where it was over half its correction. -/
theorem patrol_of_clean {u : Nat} {wide : Bool} {l : Ladder} (hst : (d.band (bandOfUnit u)).state = .closed)
    (hunit : unitInBand u < (d.band (bandOfUnit u)).writePoint) (hgood : l.good = true) (hrebuilt : l.rebuilt = false)
    (hretry : l.retryLevels = 0) :
    patrol u wide l d = (fun e => if wide then scheduleRefresh (bandOfUnit u) e else e) (countReads u 1 (dieAnswers (dieOfUnit u) d)) := by
  simp [patrol, hst, Nat.not_le.mpr hunit, hgood, hrebuilt, hretry, countLadder, noteRebuild]

theorem ckptDue_of_due (hstart : d.tt.started = true) (hpast : past d.fls.ckptAt (ms (100 * d.ckptQ)) d.now = true) :
    ckptDue d = if d.now = d.tt.frameStart then ckptBoundary { d with fls.ckptAsked := true } else { d with fls.ckptAsked := true } := by
  rw [ckptDue, if_pos ⟨hstart, hpast⟩]
  rfl

end

/-- Settles O36: the row fill, the patrol of a clean codeword, and the checkpoint that is due. -/
theorem flashBackground : Obligations.FlashBackground := by
  unfold Obligations.FlashBackground
  refine ⟨?_, fun s t u l ha hst hunit hgood hrebuilt hretry =>
      ⟨run_awake_of ha (congrArg flashStep (patrol_of_clean hst hunit hgood hrebuilt hretry)),
      run_awake_of ha (congrArg flashStep (patrol_of_clean hst hunit hgood hrebuilt hretry))⟩,
    fun s t ha hstart hpast => ⟨fun hinner => ?_, fun hboundary hnone => ?_⟩⟩
  · intro s t g reloc w since ha hw hsince hpast b hrow hfits
    exact run_awake_of ha (padRow_of_room hw hsince hpast hrow hfits)
  · exact run_awake_of ha ((ckptDue_of_due hstart hpast).trans (if_neg hinner))
  · refine run_awake_of ha ((ckptDue_of_due hstart hpast).trans ((if_pos hboundary).trans ?_))
    exact if_pos ⟨rfl, by rw [hnone]; rfl⟩

section
variable {d : Dev}

theorem dramPatrol_of_live {addr : Nat} (found : DramRead) (hretired : d.ras.retired.contains (frameOf addr) = false)
    (hlost : d.ras.lostChannels.contains (lostKey (frameOf addr)) = false) (hcycle : past d.ras.scrubAt (ms 86400000) d.now = false) :
    dramPatrol addr found d = match found with
      | .clean => d
      | .corrected => corrected addr d
      | .uncorrectable => uncorrected addr d := by
  have hscrub : scrubCycle d = d := by rw [scrubCycle, hcycle]; rfl
  simp only [dramPatrol, hscrub, hretired, hlost, Bool.or_self, Bool.false_eq_true, if_false] <;> rfl

theorem handshake_of_first {i : Island} (h : (count Reg.rasHandshakeCount d).ras.expired = []) :
    handshake i d = { count Reg.rasHandshakeCount d with ras.expired := [i] } := by
  simp only [handshake, h, List.contains_nil, Bool.false_eq_true, if_false, List.nil_append]

theorem handshake_of_second {i : Island} (h : (count Reg.rasHandshakeCount d).ras.expired = [i]) :
    handshake i d = goOn (failIsland i (raiseDev St.rasHandshake { count Reg.rasHandshakeCount d with
      ras.expired := []
      ras.handshake := true })) := by
  have hmem : [i].contains i = true := by simp
  have hrest : ([i].filter fun x => !decide (x = i)) = [] := by simp
  simp only [handshake, h, hmem, hrest, if_true]

theorem livenessWrite_of_running {core : Nat} (h : d.ras.running.contains core = true) :
    livenessWrite core d = { d with
      ras.lastLive := d.now
      ras.selfFenced := false } := by
  have hsome : d.ras.running ≠ [] := by
    rintro hnil
    rw [hnil] at h
    cases h
  simp only [livenessWrite, if_neg hsome, h, if_true]

end

/-- Settles O37: the patrol of DRAM, the two expiries of a crossing, the watchdogs, and the liveness of RUN. -/
theorem supervision : Obligations.Supervision := by
  unfold Obligations.Supervision
  refine ⟨fun s t addr ha hretired hlost hcycle =>
      ⟨run_awake_of ha (congrArg goOn (dramPatrol_of_live .clean hretired hlost hcycle)),
      run_awake_of ha (congrArg goOn (dramPatrol_of_live .corrected hretired hlost hcycle)),
      run_awake_of ha (congrArg goOn (dramPatrol_of_live .uncorrectable hretired hlost hcycle))⟩, ?_, ?_,
    fun s t ha hphase hpast hfenced => run_awake_of ha ?_, fun s t core ha hrun => run_awake_of ha (livenessWrite_of_running hrun)⟩
  · intro s t i ha d
    exact ⟨fun hfirst => run_awake_of ha (handshake_of_first hfirst), fun hsecond => run_awake_of ha (handshake_of_second hsecond)⟩
  · intro s t core ha recent d
    exact ⟨fun hfew => run_awake_of ha (if_neg (Nat.not_le.mpr hfew)), fun hthird => run_awake_of ha (if_pos hthird)⟩
  · rw [livenessLost, if_pos ⟨hphase, hpast⟩, selfFence, hfenced]
    rfl

end Sys2Proof
end

section
/-! PROOFS. The ports: training (R344 to R349, R557), the loss of a trained link (R344, R348, R573), flits (R350, R351), and the packets
that arrive (R351, R353, R357). -/

namespace Sys2Proof

open Machine

section
variable {d : Dev} {p : Nat}

theorem tryTrain_of_down (hstate : (d.port p).state = .down) (henabled : portEnabled d p = true) (hbackoff : (d.port p).backoff = false)
    (hstays : staysDown d p = false) : tryTrain p d = trainPort p d := by
  simp [tryTrain, hstate, henabled, hbackoff, hstays]

theorem retrainTimer_of_due (hpast : past (d.port p).trainedAt (ms 1000) d.now = true) (hslept : (d.port p).slept = false) :
    retrainTimer p d = tryTrain p d := by
  simp [retrainTimer, hpast, hslept]

theorem trainingDone_of_miswired {id : LinkIdentity} {trained : List Nat} (hstate : (d.port p).state = .training)
    (hid : identityOk d p id = false) :
    trainingDone p id trained [] d = raiseDev St.auvPortMiswired (modPort p (fun q => { q with
      state := .failed
      miswired := true
      lanes := [] }) d) := by
  simp [trainingDone, hstate, hid]

theorem trainingDone_of_few {id : LinkIdentity} {trained : List Nat} (hstate : (d.port p).state = .training)
    (hid : identityOk d p id = true) (hfew : 2 * (usableLanes d p trained []).length < portLanes p) :
    trainingDone p id trained [] d = trainFails p d := by
  simp [trainingDone, hstate, hid, hfew]

/-- What a port becomes when its training ends with enough lanes. -/
def trainedPort (p : Nat) (id : LinkIdentity) (st : PortState) (lanes : List Nat) (q : Port) : Port :=
  { q.freshCredits with
    state := st
    lanes := lanes
    farDevice := if id.partner then 0 else id.device
    farPort := id.port
    farPartner := id.partner
    asym := asymmetry p id
    retained := false
    slept := false }

theorem trainingDone_of_whole {id : LinkIdentity} {trained : List Nat} (hstate : (d.port p).state = .training)
    (hid : identityOk d p id = true) (hall : (usableLanes d p trained []).length = portLanes p) :
    trainingDone p id trained [] d
      = raiseDev St.auvPortUp (modPort p (trainedPort p id .up (usableLanes d p trained [])) d) := by
  have hmany : ¬ 2 * portLanes p < portLanes p := by omega
  simp [trainingDone, hstate, hid, hall, hmany]
  rfl

theorem trainingDone_of_half {id : LinkIdentity} {trained : List Nat} (hstate : (d.port p).state = .training)
    (hid : identityOk d p id = true) (hless : (usableLanes d p trained []).length < portLanes p)
    (hhalf : portLanes p ≤ 2 * (usableLanes d p trained []).length) :
    trainingDone p id trained [] d = raiseDev St.auvPortDegraded
      (modPort p (trainedPort p id .degraded ((usableLanes d p trained []).take (portLanes p / 2))) d) := by
  simp [trainingDone, hstate, hid, Nat.not_lt.mpr hhalf, Nat.ne_of_lt hless]
  rfl

theorem wakeTrainTimeout_of_late (hstate : (d.port p).state = .training) (hretained : (d.port p).retained = true)
    (hpast : past (d.port p).trainedAt (us 10) d.now = true) :
    wakeTrainTimeout p d = trainPort p (modPort p (fun q => { q with retained := false }) d) :=
  if_pos ⟨hstate, hretained, hpast⟩

end

/-- Settles O38: what starts a training, its four ends by identity and lanes, and its two limits. -/
theorem portTraining : Obligations.PortTraining := by
  unfold Obligations.PortTraining
  refine ⟨fun s t p ha hstate henabled hbackoff hstays => ⟨run_awake_of ha ?_, fun hpast hslept => run_awake_of ha ?_⟩, ?_,
    fun s t p ha hstate => ⟨fun hpast => run_awake_of ha (if_pos ⟨hstate, hpast⟩),
      fun hretained hpast => run_awake_of ha (wakeTrainTimeout_of_late hstate hretained hpast)⟩⟩
  · exact tryTrain_of_down hstate henabled hbackoff hstays
  · exact (retrainTimer_of_due hpast hslept).trans (tryTrain_of_down hstate henabled hbackoff hstays)
  · intro s t p id trained ha hstate lanes up
    exact ⟨fun hid => run_awake_of ha (trainingDone_of_miswired hstate hid),
      fun hid hall _ => run_awake_of ha (trainingDone_of_whole hstate hid hall),
      fun hid hless hhalf => run_awake_of ha (trainingDone_of_half hstate hid hless hhalf),
      fun hid hfew => run_awake_of ha (trainingDone_of_few hstate hid hfew)⟩

section
variable {d : Dev} {p : Nat}

theorem retrain_of_up (hup : d.linkUp p = true) :
    retrain p d = (fun (recent : List Time) (e : Dev) =>
        if 2 ≤ recent.length then modPort p (fun q => { q with
            state := .down
            backoff := true
            trainedAt := e.now
            lanes := [] }) e
        else trainPort p e)
      ((d.port p).retrainTimes.filter fun x => !past x (ms 10000) d.now)
      (raiseDev St.auvRetrain (modPort p (fun q => { q with
        retrains := min 127 (q.retrains + 1)
        retrainTimes := ((d.port p).retrainTimes.filter fun x => !past x (ms 10000) d.now) ++ [d.now] }) d)) := by
  rw [retrain, if_pos hup]

theorem signalLost_of_running (hstate : (d.port p).state ≠ .failed) (all : Bool) : signalLost p all d = retrain p d :=
  if_neg fun h => hstate h.1

theorem flitArrives_of_down (hdown : d.linkUp p = false) (ok : Bool) (f : Flit) : flitArrives p ok f d = d :=
  if_pos (by rw [hdown]; rfl)

theorem flitArrives_of_up (hup : d.linkUp p = true) (ok : Bool) (f : Flit) :
    flitArrives p ok f d = match f, ok with
      | .control c, true => modPort p (fun q => { q with
          rxGroup := c.group
          rxStarts := c.starts
          rxDropped := []
          credits := c.credits }) d
      | .control _, false => count Reg.auvFlitDropCount (modPort p (fun q => { q with
          rxGroup := q.rxGroup + 1
          rxStarts := []
          rxDropped := List.range 32 }) d)
      | .data _, true => d
      | .data i, false => count Reg.auvFlitDropCount (modPort p (fun q => { q with rxDropped := q.rxDropped ++ [i] }) d) :=
  if_neg (by rw [hup]; decide)

end

/-- Settles O39: lane faults, loss of signal, the end of a back-off, sleep and wake, and the four kinds of flit. -/
theorem portLife : Obligations.PortLife := by
  unfold Obligations.PortLife
  refine ⟨⟨?_, ?_, fun s t p ha hstate => run_awake_of ha (if_pos ⟨hstate, rfl⟩),
      fun s t p ha hbackoff hpast => run_awake_of ha (if_pos ⟨hbackoff, hpast⟩),
      fun s t p ha hup => run_awake_of ha (if_pos hup),
      fun s t p ha => ⟨fun hoff => run_awake_of ha (if_neg hoff), fun hon hstate henabled hbackoff hstays => run_awake_of ha
        ((if_pos hon).trans (tryTrain_of_down hstate henabled hbackoff hstays))⟩⟩,
    fun s t p ha => ⟨fun hup => ⟨fun c => run_awake_of ha (flitArrives_of_up hup true (.control c)),
        fun c => run_awake_of ha (flitArrives_of_up hup false (.control c)),
        fun i => run_awake_of ha (flitArrives_of_up hup true (.data i)),
        fun i => run_awake_of ha (flitArrives_of_up hup false (.data i))⟩,
      fun hdown ok f => run_awake_of ha (flitArrives_of_down hdown ok f)⟩⟩
  · intro s t p lane n ha d
    exact ⟨fun hfew => run_awake_of ha (if_neg (Nat.not_lt.mpr hfew)), fun hmany => run_awake_of ha (if_pos hmany)⟩
  · intro s t p ha hup hstate recent d
    have hlost := (signalLost_of_running hstate false).trans (retrain_of_up hup)
    exact ⟨fun hfew => run_awake_of ha (hlost.trans (if_neg (Nat.not_le.mpr hfew))),
      fun hmany => run_awake_of ha (hlost.trans (if_pos hmany))⟩

section
variable {d : Dev} {p : Nat} {k : Packet}

theorem packetArrives_of_down (hdown : d.linkUp p = false) : packetArrives p k d = d := by
  simp [packetArrives, hdown]

/-- A packet on a port that runs, its group not dropped: what is done once its room is free. -/
def takePacket (port : Nat) (k : Packet) (s : Dev) : Dev :=
  if !headerWhole k || !opcodeKnown k.opcode then count Reg.auvMalformedCount s
  else if 8 ≤ port ∧ !s.isMine (endpointDevice k.dst) then forward k s
  else if !sourceOk s port k then spoofed port k s
  else if !sequenced k.opcode then s
  else (fun r : Bool × Dev =>
      if r.1 then endPacket (rxPeer s port k.src k.dst) port k r.2
      else if checkPsn r.2 (rxPeer s port k.src k.dst) k = .fresh then notePsn (rxPeer s port k.src k.dst) k.psn r.2
      else r.2)
    (if port < 8 then police port k s else (true, s))

theorem packetArrives_of_up (hup : d.linkUp p = true) (hwhole : (d.port p).rxDropped.length ≠ 32) :
    packetArrives p k d = takePacket p k (freeRoom p k d) := by
  have hpass : ¬ (!d.linkUp p || decide ((d.port p).rxDropped.length = 32)) = true := by simp [hup, hwhole]
  rw [packetArrives, if_neg hpass]
  rfl

theorem takePacket_of_malformed (h : headerWhole k = false) : takePacket p k d = count Reg.auvMalformedCount d := by
  simp [takePacket, h]

theorem takePacket_of_foreign (hheader : headerWhole k = true) (hknown : opcodeKnown k.opcode = true) (hport : 8 ≤ p)
    (hmine : d.isMine (endpointDevice k.dst) = false) : takePacket p k d = forward k d := by
  simp [takePacket, hheader, hknown, hport, hmine]

theorem takePacket_of_spoof (hheader : headerWhole k = true) (hknown : opcodeKnown k.opcode = true) (hport : p < 8)
    (hsource : sourceOk d p k = false) : takePacket p k d = spoofed p k d := by
  simp [takePacket, hheader, hknown, Nat.not_le.mpr hport, hsource]

/-- A sequenced packet through the torus for this device is not policed: its epoch and psn decide. -/
theorem takePacket_of_torus (hheader : headerWhole k = true) (hseq : sequenced k.opcode = true) (hknown : opcodeKnown k.opcode = true)
    (hport : 8 ≤ p) (hmine : d.isMine (endpointDevice k.dst) = true) :
    takePacket p k d = endPacket (rxPeer d p k.src k.dst) p k d := by
  have hsource : sourceOk d p k = true := by rw [sourceOk, decide_eq_true hport, Bool.true_or]
  simp [takePacket, hheader, hseq, hknown, hport, Nat.not_lt.mpr hport, hmine, hsource]

theorem endPacket_of_fresh {peer : Nat} (hfresh : checkPsn d peer k = .fresh) (hmine : d.isMine (endpointDevice k.dst) = true)
    (hnumber : endpointNumber k.dst < 64) : endPacket peer p k d = localPacket peer p k d := by
  rw [endPacket, hfresh]
  exact if_pos ⟨hmine, hnumber⟩

end

/-- Settles O40: the state of the port, the header, the destination, the source, and then the epoch and psn decide, in that order. -/
theorem packetArrivals : Obligations.PacketArrivals := by
  unfold Obligations.PacketArrivals
  refine ⟨fun s t p k ha hdown => run_awake_of ha (packetArrives_of_down hdown), ?_⟩
  intro s t p k ha hup hwhole d
  have htake := packetArrives_of_up (k := k) hup hwhole
  refine ⟨fun hheader => run_awake_of ha (htake.trans (takePacket_of_malformed hheader)),
    fun hheader hknown hport hmine => run_awake_of ha (htake.trans (takePacket_of_foreign hheader hknown hport hmine)),
    fun hheader hknown hport hsource => run_awake_of ha (htake.trans (takePacket_of_spoof hheader hknown hport hsource)),
    fun hheader hseq hknown hport hmine => ?_⟩
  intro peer
  have hend := htake.trans (takePacket_of_torus hheader hseq hknown hport hmine)
  exact ⟨fun hpsn => run_awake_of ha (hend.trans (by rw [endPacket, hpsn])),
    fun hpsn => run_awake_of ha (hend.trans (by rw [endPacket, hpsn])),
    fun hpsn => run_awake_of ha (hend.trans (by rw [endPacket, hpsn])),
    fun hpsn hnumber => run_awake_of ha (hend.trans (endPacket_of_fresh hpsn hmine hnumber))⟩

end Sys2Proof
end

section
/-! PROOFS. Messages on a channel (R370, R376, R378, R380, R383) and the administration of channels (R386, R388). -/

namespace Sys2Proof

open Machine

section
variable {d : Dev} {h : MsgHdr} {b : Body} {addr len : Nat} {data : List Byte} {c : Chan}

theorem takeMsg_of_refuse {st : Status} {own : Bool} (hcheck : checkMsg d h (bodyOpcode b) addr len = .refuse st own) :
    takeMsg h b addr len data d = refuseMsg h b (bodyOpcode b) addr st own true d := by
  simp only [takeMsg, hcheck]

/-- A message that its channel's checks pass, in order and in the window: what is left of the taking depends on its opcode. -/
theorem takeMsg_of_pass (hcheck : checkMsg d h (bodyOpcode b) addr len = .pass) (hchannel : 256 ≤ h.channel)
    (hc : mget d.auv.chans (chanKey h) = some c) (hnew : csnPassed c h.csn = false) (hwindow : csnAhead c h.csn < 64) :
    takeMsg h b addr len data d
      = if bodyOpcode b = 0x01 ∨ bodyOpcode b = 0x02 then
          if targetStatus d h.tenant (targetVa d h addr) len (decide (bodyOpcode b = 0x01)) ≠ St.ok then
            refuseMsg h b (bodyOpcode b) addr (targetStatus d h.tenant (targetVa d h addr) len (decide (bodyOpcode b = 0x01))) true false d
          else if bodyOpcode b = 0x02 then takeRead h addr len 0 d
          else if targetPresent d (targetVa d h addr) len then
            addDone h b addr len d.now none (placeWrite h (targetVa d h addr) data d)
          else Machine.notReady h (targetVa d h addr) 0 0 d
        else addDone h b addr len d.now none d := by
  simp only [takeMsg, hcheck, if_neg (fun hlow : h.channel < 256 ∧ _ => absurd hlow.1 (Nat.not_lt.mpr hchannel)), hc, hnew,
    Nat.not_le.mpr hwindow, decide_false, Bool.or_self, Bool.false_eq_true, if_false]

theorem takeRead_of_present {bytes : Nat} {psn : BitVec 24} (hpresent : targetPresent d (targetVa d h addr) bytes = true)
    (hlines : hostLines d (targetVa d h addr) bytes false = []) :
    takeRead h addr bytes psn d = addDone h .read addr bytes d.now none d := by
  simp only [takeRead, hpresent, hlines, if_true]

theorem waitTimeout_of_past {ch : Nat} {w : Waiting} (hc : mget d.auv.chans ch = some c) (hw : c.waiting = some w)
    (hpast : past w.since (waitLimit w.msg) d.now = true) :
    waitTimeout ch d = goOn (endWaitMsg ch w.hdr St.auvWaitTimeout (modChan ch (fun c => { c with aborting := w.msg.abortChain }) d)) := by
  simp only [waitTimeout, hc, Option.bind_some, hw, hpast, if_true]

end

/-- Settles O41: a message that passes waits on its channel as complete, a refused SEND gets its refusal, a WAIT past its limit ends. -/
theorem channelMessages : Obligations.ChannelMessages := by
  unfold Obligations.ChannelMessages
  refine ⟨?_, fun s t h b st own hs hcheck => run_service_of hs (congrArg goOn (takeMsg_of_refuse hcheck)),
    fun s t ch c w hs hc hw hpast => run_service_of hs (waitTimeout_of_past hc hw hpast)⟩
  intro s t h c hs hchannel hc hnew hwindow
  refine ⟨fun addr data hcheck hstatus hpresent => ?_, fun addr bytes hcheck hstatus hpresent hlines => ?_, fun b hcheck => ?_,
    fun m hcheck => ?_⟩
  · refine run_service_of hs (congrArg goOn ((takeMsg_of_pass (b := .write) hcheck hchannel hc hnew hwindow).trans ?_))
    exact (if_pos (.inl rfl)).trans ((if_neg (not_not_intro hstatus)).trans ((if_neg (by decide)).trans (if_pos hpresent)))
  · refine run_service_of hs (congrArg goOn ((takeMsg_of_pass (b := .read) hcheck hchannel hc hnew hwindow).trans ?_))
    exact (if_pos (.inr rfl)).trans ((if_neg (not_not_intro hstatus)).trans ((if_pos rfl).trans (takeRead_of_present hpresent hlines)))
  · exact run_service_of hs (congrArg goOn ((takeMsg_of_pass (b := .send b) hcheck hchannel hc hnew hwindow).trans (if_neg (by simp [bodyOpcode]))))
  · exact run_service_of hs (congrArg goOn ((takeMsg_of_pass (b := .wait m) hcheck hchannel hc hnew hwindow).trans (if_neg (by simp [bodyOpcode]))))

section
variable {d : Dev} {rq : Requester} {r : ChanAdmin} {tenant ch : Nat}

theorem chanOpenCmd_of_free (htenant : tenantOk d rq r.tenant = true) (hrange : openRange r = true) (hkind : r.kind ≠ 0)
    (hnamed : r.channel ≠ 0xFFFFFFFF) (hfree : mhas d.auv.chans r.channel = false) :
    chanOpenCmd rq r d = chanChange rq r.tenant (.chanOpen r) (applyChanOpen r) d := by
  have hnew : newChannel d r.channel = some r.channel := by simp [newChannel, hnamed, hfree]
  simp [chanOpenCmd, htenant, hrange, hnew, hkind]

theorem chanQueryCmd_of_ok (hcheck : chanCheck d rq tenant ch = St.ok) :
    chanQueryCmd rq tenant ch d = reply rq St.ok (chanFields d ch) d := by
  simp only [chanQueryCmd, hcheck, ne_eq, not_true_eq_false, if_false]

theorem chanQueryCmd_of_refused (hcheck : chanCheck d rq tenant ch ≠ St.ok) :
    chanQueryCmd rq tenant ch d = refuse rq (chanCheck d rq tenant ch) d := if_pos hcheck

theorem chanCloseCmd_of_ok (hcheck : chanCheck d rq tenant ch = St.ok) :
    chanCloseCmd rq tenant ch d = chanChange rq tenant (.chanClose ch) (applyChanClose ch) d := if_neg (not_not_intro hcheck)

theorem chanCloseCmd_of_refused (hcheck : chanCheck d rq tenant ch ≠ St.ok) :
    chanCloseCmd rq tenant ch d = refuse rq (chanCheck d rq tenant ch) d := if_pos hcheck

theorem chanCheck_of_none (htenant : tenantOk d rq tenant = true) (hnone : mget d.auv.chans ch = none) :
    chanCheck d rq tenant ch = St.auvNoChannel := by
  simp [chanCheck, htenant, hnone]

theorem subscribeCmd_of_room (htenant : tenantOk d rq r.tenant = true) (hkind : r.kind = 0) (hlow : 256 ≤ r.target)
    (hhigh : r.target < 1048576) (hroom : (d.auv.subs.filter fun u => !namedSub r u).length < 256) :
    subscribeCmd rq r d = reply rq St.ok [r.target, 0, 0] { d with
      auv.subs := (d.auv.subs.filter fun u => !namedSub r u)
        ++ [{ dst := r.peer, channel := r.target, tenant := r.tenant, mask := r.mask, all := false, seq := 0, queue := [], lost := 0 }] } := by
  simp [subscribeCmd, htenant, hkind, Nat.not_lt.mpr hlow, Nat.not_le.mpr hhigh, Nat.not_le.mpr hroom]

theorem unsubscribeCmd_of_tenant (htenant : tenantOk d rq r.tenant = true) :
    unsubscribeCmd rq r d = if d.auv.subs.any (namedSub r) then
        reply rq St.ok [r.target, 0, 0] { d with auv.subs := d.auv.subs.filter fun u => !namedSub r u }
      else reply rq St.auvNoChannel [r.target, 0, 0] d := by
  simp only [unsubscribeCmd, htenant, Bool.not_true, Bool.false_eq_true, if_false]

end

/-- Settles O46: OPEN by the tenant's mirror class, CLOSE and QUERY by the check of the channel, and the subscriptions. -/
theorem channelAdmin : Obligations.ChannelAdmin := by
  unfold Obligations.ChannelAdmin
  refine ⟨?_, fun s t rq tenant ch hv hcheck => ⟨run_vendor_of hv (chanQueryCmd_of_ok hcheck),
      run_vendor_of hv (congrArg goOn (chanCloseCmd_of_ok hcheck))⟩, ?_, ?_⟩
  · intro s t rq r hv htenant hrange hkind hnamed hfree a
    have hopen := chanOpenCmd_of_free htenant hrange hkind hnamed hfree
    exact ⟨fun hm0 => run_vendor_of hv (hopen.trans (if_pos hm0)), fun hm => run_vendor_of hv (hopen.trans (if_neg hm))⟩
  · intro s t rq tenant ch hv htenant hnone
    have hcheck := chanCheck_of_none htenant hnone
    have hbad : chanCheck (s.at t) rq tenant ch ≠ St.ok := by rw [hcheck]; decide
    exact ⟨run_vendor_of hv (hcheck ▸ chanQueryCmd_of_refused hbad),
      run_vendor_of hv (congrArg goOn (hcheck ▸ chanCloseCmd_of_refused hbad))⟩
  · intro s t rq r hv htenant rest
    exact ⟨fun hkind hlow hhigh hroom => run_vendor_of hv (subscribeCmd_of_room htenant hkind hlow hhigh hroom),
      fun hnamed => run_vendor_of hv ((unsubscribeCmd_of_tenant htenant).trans (if_pos hnamed)),
      fun hnone => run_vendor_of hv ((unsubscribeCmd_of_tenant htenant).trans (if_neg (by rw [hnone]; decide)))⟩

end Sys2Proof
end

section
/-! PROOFS. The paths: retransmission and failed paths (R363, R364), receivers that are not ready (R376, R377), contexts, reassembly,
events and completions (R369, R373, R385 to R387, R443). -/

namespace Sys2Proof

open Machine

section
variable {d : Dev} {peer : Nat}

@[simp] theorem path_modPath_same (f : PathSet → PathSet) : (modPath peer f d).path peer = f (d.path peer) :=
  mgetD_mset_same _ _ _ _

/-- The only packet in flight, expired, with fewer than 16 strikes on its path, is sent again. -/
theorem retransmit_of_expired {psn : BitVec 24} {u : Unacked} (hin : (d.path peer).unacked = [u]) (hpsn : u.packet.psn = psn)
    (hpast : past u.sentAt (rto d) d.now = true) (hfew : mgetD (d.path peer).strikes u.path 0 + 1 < 16) :
    retransmit peer psn d = resend peer u (modPath peer (fun ps => { ps with
      strikes := mset ps.strikes u.path (mgetD (d.path peer).strikes u.path 0 + 1) }) d) := by
  subst hpsn
  simp [retransmit, hin, hpast, Nat.not_le.mpr hfew]

theorem pathRestored_of_failed {path : Nat} {m : ProbeMsg} (hkind : m.kind = 1) (hfailed : (d.path peer).failed.contains path = true) :
    pathRestored peer path m d = (fun e : Dev => releaseWaiting peer (e.path peer).waiting.length e)
      (raiseDev St.auvPathRestored (modPath peer (fun ps => { ps with
        failed := ps.failed.erase path
        strikes := mdel ps.strikes path }) d)) :=
  if_pos ⟨hkind, hfailed⟩

end

/-- Settles O43: an expired packet goes out again, a failed path alone is probed, a PROBE is answered, a reply restores the path. -/
theorem pathRecovery : Obligations.PathRecovery := by
  unfold Obligations.PathRecovery
  refine ⟨fun s t peer psn u ha hin hpsn hpast hfew => run_awake_of ha (retransmit_of_expired hin hpsn hpast hfew),
    fun s t peer path ha => ⟨fun hfailed => run_awake_of ha (if_pos hfailed),
      fun hlive => run_awake_of ha (if_neg (by rw [hlive]; decide))⟩,
    fun s t port m ha hkind => run_awake_of ha (if_pos hkind), ?_⟩
  intro s t peer path m ha hkind hfailed d
  exact run_awake_of ha (pathRestored_of_failed hkind hfailed)

section
variable {d : Dev} {peer : Nat}

/-- An RNR for the only packet in flight: the 64th of its message ends it, an earlier one lets the packet wait. -/
theorem rnrArrives_of_flight {m : RnrMsg} {u : Unacked} (hin : (d.path peer).unacked = [u]) (hpsn : u.packet.psn = m.psn)
    (hmsg : u.packet.msgId = m.msgId) :
    rnrArrives peer m d = if 64 ≤ mgetD (d.path peer).rnrCounts m.msgId 0 + 1 then
        failMessages peer St.auvRnrLimit (sameMessage u.packet)
          (modPath peer (fun ps => { ps with rnrCounts := mdel ps.rnrCounts m.msgId }) d)
      else (fun e : Dev => releaseWaiting peer (e.path peer).waiting.length e)
        (modPath peer (fun ps => { ps with
          unacked := ps.unacked.filter fun x => !decide (x.packet.psn = m.psn)
          rnrWaits := ps.rnrWaits ++ [{ packet := u.packet, notBefore := d.now + ns m.retryAfterNs }]
          rnrCounts := mset ps.rnrCounts m.msgId (mgetD (d.path peer).rnrCounts m.msgId 0 + 1) }) d) := by
  have hfound : ((d.path peer).unacked.find? fun x => decide (x.packet.psn = m.psn) && decide (x.packet.msgId = m.msgId)) = some u := by
    simp [hin, hpsn, hmsg]
  simp only [rnrArrives, hfound]

theorem rnrRetry_of_due {w : RnrWait} {frag : Nat} (hwaits : (d.path peer).rnrWaits = [w]) (hfrag : w.packet.fragIndex = frag)
    (hdue : serialLe w.notBefore d.now = true) :
    rnrRetry peer w.packet.msgId frag d = sendPacket peer (againAfterRnr w.packet)
      (modPath peer (fun ps => { ps with rnrWaits := ps.rnrWaits.erase w }) d) := by
  subst hfrag
  simp [rnrRetry, hwaits, hdue]

theorem readTimeout_of_past {x : ReadStall} (hstalls : d.auv.stalls = [x]) (hpast : past x.since (us 200) d.now = true) :
    readTimeout x.hdr.channel x.hdr.msgId d
      = Machine.notReady x.hdr (targetVa d x.hdr x.addr) 0xFFFF x.psn { d with auv.stalls := [] } := by
  simp [readTimeout, hstalls, hpast]

end

section
variable {d : Dev}

/-- The only packet that waits for a context goes on once the context is cached. -/
theorem contextFetched_of_one {m : Miss} (hmisses : d.auv.misses = [m]) :
    contextFetched m.packet.channel d = (fun e : Dev => endPacket (rxPeer e m.port m.packet.src m.packet.dst) m.port m.packet e)
      (cacheContext m.packet.channel { d with auv.misses := [] }) := by
  simp [contextFetched, hmisses, forL]

theorem contextTimeout_of_past {m : Miss} (hmisses : d.auv.misses = [m]) (hpast : past m.since (ns 1500) d.now = true) :
    contextTimeout m.packet.channel d
      = raiseDev St.auvCtxFetch (countBy Reg.auvMissDropCount 1 { d with auv.misses := [] }) := by
  simp [contextTimeout, hmisses, hpast]

theorem reasmTimeout_of_live {r : Reasm} (hreasm : d.auv.reasm = [r]) (hpast : past r.since (ms d.reasmMs) d.now = true)
    (hlive : r.dead = none) :
    reasmTimeout r.src r.dst r.msgId d = (fun e : Dev =>
        goOn (addDone r.hdr r.body r.addr 0 e.now (some St.auvReasmTimeout) (complete r.hdr St.auvReasmTimeout 0 e)))
      { d with auv.reasm := [{ r with dead := some St.auvReasmTimeout }] } := by
  simp [reasmTimeout, hreasm, hpast, hlive]

theorem reasmTimeout_of_dead {r : Reasm} {st : Status} (hreasm : d.auv.reasm = [r]) (hpast : past r.since (ms d.reasmMs) d.now = true)
    (hdead : r.dead = some st) : reasmTimeout r.src r.dst r.msgId d = { d with auv.reasm := [] } := by
  simp [reasmTimeout, hreasm, hpast, hdead]

theorem eventHeard_of_other {m : EventMsg} (h : m.status ≠ St.parTakeover) : eventHeard m d = raise m.status m.tenant m.detail d := by
  simp only [eventHeard, if_neg h]
  split <;> rfl

theorem eventHeard_of_takeover {m : EventMsg} {lost survivor : Nat} (h : m.status = St.parTakeover) (hdetail : m.detail = [lost, survivor]) :
    eventHeard m d = takeoverHeard lost survivor (raise St.parTakeover m.tenant [lost, survivor] d) := by
  simp only [eventHeard, hdetail, h, if_true]

end

/-- Settles O45: contexts fetched and not fetched, idle reassembly records, events of other devices, and completions. -/
theorem contextsAndMessages : Obligations.ContextsAndMessages := by
  unfold Obligations.ContextsAndMessages
  refine ⟨⟨?_, fun s t r ha hreasm hpast => ⟨fun hlive => run_awake_of ha (reasmTimeout_of_live hreasm hpast hlive),
      fun st hdead => run_awake_of ha (reasmTimeout_of_dead hreasm hpast hdead)⟩⟩,
    fun s t port m ha hother => run_awake_of ha (eventHeard_of_other hother),
    fun s t port lost survivor m ha htake hdetail => run_awake_of ha (eventHeard_of_takeover htake hdetail),
    fun s t src dst m ha => ⟨fun hlow => run_awake_of ha (if_neg fun h => absurd h.2 (Nat.not_le.mpr hlow)),
      fun hown hhigh => run_awake_of ha (if_pos ⟨hown, hhigh⟩)⟩⟩
  intro s t m ha hmisses d
  exact ⟨run_awake_of ha (contextFetched_of_one hmisses),
    fun hpast => run_awake_of ha (contextTimeout_of_past hmisses hpast)⟩

/-- Settles O44: the count of the message's RNRs decides; a retry that is due goes out; a READ past its limit is answered with RNR. -/
theorem notReady : Obligations.NotReady := by
  unfold Obligations.NotReady
  refine ⟨?_, fun s t peer frag w ha hwaits hfrag hdue => run_awake_of ha (rnrRetry_of_due hwaits hfrag hdue),
    fun s t x ha hstalls hpast => run_awake_of ha (readTimeout_of_past hstalls hpast)⟩
  intro s t peer m u ha hin hpsn hmsg n
  have harrives := rnrArrives_of_flight hin hpsn hmsg
  exact ⟨fun hlimit => run_awake_of ha (harrives.trans (if_pos hlimit)),
    fun hfew => run_awake_of ha (harrives.trans (if_neg (Nat.not_le.mpr hfew)))⟩

end Sys2Proof
end

section
/-! PROOFS. The transmitter's choice, gate lists and bucket credit (R395, R403 to R406), and the pair: heartbeats, probes and witnesses
(R431 to R437), its timers (R433, R435, R440), and its commits (R423 to R428). -/

namespace Sys2Proof

open Machine

section
variable {d : Dev} {p : Nat}

theorem transmitChoice_of_none (hup : d.linkUp p = true) (hfree : serialLe (d.egr p).busyUntil d.now = true)
    (hnone : selectQueue d p = none) :
    transmitChoice p d = countBy Reg.shpHoldCount (passedOver d p (selectQueue d p)) d :=
  (if_pos ⟨hup, hfree⟩).trans (by simp only [hnone])

theorem transmitChoice_of_some {c : Nat} (hup : d.linkUp p = true) (hfree : serialLe (d.egr p).busyUntil d.now = true)
    (hsome : selectQueue d p = some c) :
    transmitChoice p d = transmit p c (countBy Reg.shpHoldCount (passedOver d p (selectQueue d p)) d) :=
  (if_pos ⟨hup, hfree⟩).trans (by simp only [hsome])

theorem transmitChoice_of_busy (hbusy : serialLe (d.egr p).busyUntil d.now = false) : transmitChoice p d = d :=
  if_neg fun h => by simp [hbusy] at h

theorem nextEntry_of_past {r : GateRun} {x : GateEntry} (hrun : (d.egr p).running = some r)
    (hentry : r.list.entries[(d.egr p).entry]? = some x) (hpast : past (d.egr p).entryStart (ns x.intervalNs) d.now = true) :
    nextEntry p d = modEgress p (fun e => { e with
      entry := (e.entry + 1) % max 1 r.list.entries.length
      entryStart := e.entryStart + ns x.intervalNs }) d := by
  simp only [nextEntry, hrun, hentry, hpast, if_true]

theorem activateList_of_pending {r : GateRun} (hpending : (d.egr p).pending = some r) :
    activateList p d = if serialLe r.start d.now then modEgress p (fun e => { e with
        running := some r
        entry := 0
        entryStart := r.start
        pending := none }) d
      else d := by
  simp only [activateList, hpending]

end

/-- Settles O47: the transmitter chooses when it is free, entries and lists take their turn, and every bucket-mode queue its credit. -/
theorem egressEvents : Obligations.EgressEvents := by
  unfold Obligations.EgressEvents
  refine ⟨fun s t p ha => ⟨?_, fun hbusy => run_awake_of ha (transmitChoice_of_busy hbusy)⟩,
    fun s t p r x ha hrun hentry hpast => run_awake_of ha (nextEntry_of_past hrun hentry hpast),
    fun s t p r ha hpending => ⟨fun hstart => run_awake_of ha ((activateList_of_pending hpending).trans (if_pos hstart)),
      fun hearly => run_awake_of ha ((activateList_of_pending hpending).trans (if_neg (by rw [hearly]; decide)))⟩,
    fun s t ha => run_awake_of ha rfl⟩
  intro hup hfree d
  exact ⟨fun hnone => run_awake_of ha (transmitChoice_of_none hup hfree hnone),
    fun c hsome => run_awake_of ha (transmitChoice_of_some hup hfree hsome)⟩

section
variable {d : Dev} {m : ProbeMsg}

/-- In RUN and not self-fenced the management cores do what the pair asks of them. -/
theorem supervised_of_run {f : Dev → Dev} (hphase : d.cfg.phase = .run) (hfenced : d.ras.selfFenced = false) : supervised f d = f d :=
  if_neg fun h => h.elim (fun hf => by simp [hfenced] at hf) fun hp => hp hphase

/-- A partner that has not taken over says so. -/
theorem takenOver_of_not (h : m.tookOver = false) (e : Dev) : takenOver m e = false := by
  simp only [takenOver, h, Bool.false_and]

/-- The second half of a heartbeat: a PAUSED device sends it through the torus too. -/
def beatOnTorus (m : ProbeMsg) (d : Dev) : Dev :=
  match d.par.state, torusPort d with
  | .paused, some p => sendProbe p d.par.partnerId m d
  | _, _ => d

theorem beatOnTorus_of_paired (hstate : d.par.state = .paired) : beatOnTorus m d = d := by
  simp only [beatOnTorus, hstate]

theorem sendHeartbeat_of_run (hphase : d.cfg.phase = .run) (hfenced : d.ras.selfFenced = false) :
    sendHeartbeat d = (fun e : Dev => beatOnTorus (probeMsg e 2 0 false)
        (if e.linkUp portPair then sendProbe portPair e.par.partnerId (probeMsg e 2 0 false) e else e))
      { d with par.hbCount := d.par.hbCount + 1 } :=
  supervised_of_run hphase hfenced

theorem sendHeartbeat_of_paired (hphase : d.cfg.phase = .run) (hfenced : d.ras.selfFenced = false) (hstate : d.par.state = .paired)
    (hup : d.linkUp portPair = true) :
    sendHeartbeat d = (fun e : Dev => sendProbe portPair e.par.partnerId (probeMsg e 2 0 false) e)
      { d with par.hbCount := d.par.hbCount + 1 } :=
  (sendHeartbeat_of_run hphase hfenced).trans ((congrArg (beatOnTorus _) (if_pos hup)).trans (beatOnTorus_of_paired hstate))

/-- A heartbeat of the partner on PAIR is noted, and then the state of the pair decides. -/
theorem heartbeat_of_partner {snap : Option Time} (hphase : d.cfg.phase = .run) (hfenced : d.ras.selfFenced = false) (hkind : m.kind = 2)
    (hpartner : m.device = d.par.partnerId) :
    heartbeat portPair m snap d = heartbeatState true m snap (noteHeartbeat true d) :=
  (if_pos ⟨hpartner, hkind⟩).trans (supervised_of_run hphase hfenced)

theorem heartbeatState_of_paired {snap : Option Time} (hold : m.tookOver = false) (hstate : d.par.state = .paired) :
    heartbeatState true m snap d = d := by
  simp only [heartbeatState, takenOver_of_not hold, hstate, Bool.false_eq_true, if_false]

theorem heartbeatState_of_suspect {snap : Option Time} (hold : m.tookOver = false) (hstate : d.par.state = .suspect) :
    heartbeatState true m snap d = enterPaired d := by
  simp only [heartbeatState, takenOver_of_not hold, hstate, Bool.false_eq_true, if_false, if_true]

theorem partnerProbe_of_suspect {port : Nat} (hphase : d.cfg.phase = .run) (hfenced : d.ras.selfFenced = false) (hkind : m.kind = 3)
    (hpartner : m.device = d.par.partnerId) (hold : m.tookOver = false) (hstate : d.par.state = .suspect) :
    partnerProbe port m d = (fun e : Dev => sendProbe port m.device (probeMsg e 4 m.subject false) e)
      { d with par.partnerHeard := true } :=
  have hsuspect : d.par.state ≠ .isolated := by rw [hstate]; decide
  (if_pos ⟨hkind, hpartner⟩).trans ((supervised_of_run hphase hfenced).trans
    ((if_neg (by rw [takenOver_of_not hold]; decide)).trans (if_neg hsuspect)))

theorem partnerReply_of_suspect (hphase : d.cfg.phase = .run) (hfenced : d.ras.selfFenced = false) (hkind : m.kind = 4)
    (hpartner : m.device = d.par.partnerId) (hold : m.tookOver = false) (hstate : d.par.state = .suspect) :
    partnerReply m d = raiseDev St.parMirrorPaused (enterPaused { d with
      par.partnerHeard := true
      par.lastHeartbeat := d.now }) := by
  rw [partnerReply, if_pos ⟨hkind, hpartner⟩, supervised_of_run hphase hfenced]
  simp only [takenOver_of_not hold, hstate, Bool.false_eq_true, if_false, if_true]

end

/-- Settles O48: each probe by its kind, its sender and the state of the pair. -/
theorem pairProbes : Obligations.PairProbes := by
  unfold Obligations.PairProbes
  refine ⟨?_, fun s t m snap ha hphase hfenced hkind hpartner hold => ?_, ?_, fun s t port m ha => ⟨fun hkind hfenced => ?_,
      fun hkind hfenced => ?_, fun hkind hsubject hother hstate => run_awake_of ha (if_pos ⟨hkind, hsubject, hother, hstate⟩)⟩,
    fun s t ha hphase hfenced hstate => run_awake_of ha ((supervised_of_run hphase hfenced).trans (if_pos hstate))⟩
  · intro s t ha hphase hfenced hstate hup d
    exact run_awake_of ha (sendHeartbeat_of_paired hphase hfenced hstate hup)
  · have hbeat := heartbeat_of_partner (snap := snap) hphase hfenced hkind hpartner
    exact ⟨fun hstate => run_awake_of ha (hbeat.trans (heartbeatState_of_paired hold hstate)),
      fun hstate => run_awake_of ha (hbeat.trans (heartbeatState_of_suspect hold hstate))⟩
  · intro s t port m ha hphase hfenced hpartner hold d
    exact ⟨fun hkind hstate => run_awake_of ha (partnerProbe_of_suspect hphase hfenced hkind hpartner hold hstate),
      fun hkind hstate => run_awake_of ha (partnerReply_of_suspect hphase hfenced hkind hpartner hold hstate)⟩
  · exact run_awake_of ha (if_pos ⟨hkind, by rw [hfenced]; rfl⟩)
  · exact run_awake_of ha (if_neg fun h => by simp [hfenced] at h)

section
variable {d : Dev}

theorem pairSilence_of_past (hphase : d.cfg.phase = .run) (hfenced : d.ras.selfFenced = false)
    (hpast : past d.par.lastHeartbeat (us 50) d.now = true) :
    pairSilence d = match d.par.state with
      | .paired => enterSuspect d
      | .paused => enterSuspect d
      | .resync => setPair .solo { d with
          par.copies := []
          par.resyncOps := [] }
      | _ => d :=
  (supervised_of_run hphase hfenced).trans (if_neg (by rw [hpast]; decide))

theorem pairLoss_of_past (hphase : d.cfg.phase = .run) (hfenced : d.ras.selfFenced = false) (hstate : d.par.state = .suspect)
    (hpast : past d.par.since (us 200) d.now = true) :
    pairLoss d = if mayTakeOver d then takeover d else enterIsolated St.parIsolated d :=
  (supervised_of_run hphase hfenced).trans (if_pos ⟨hstate, hpast⟩)

theorem joinTimeout_of_past (hphase : d.cfg.phase = .run) (hfenced : d.ras.selfFenced = false) (hstate : d.par.state = .joining)
    (hheard : d.par.partnerHeard = false) (hpast : past d.par.since (ms 1000) d.now = true) :
    joinTimeout d = if mayTakeOver d then takeover d else finishStartup (enterIsolated St.parJoinTimeout d) :=
  (supervised_of_run hphase hfenced).trans (if_pos ⟨hstate, by rw [hheard]; rfl, hpast⟩)

theorem pausedRestore_of_heard {x : Time} (hphase : d.cfg.phase = .run) (hfenced : d.ras.selfFenced = false)
    (hstate : d.par.state = .paused) (hport : (d.port portPair).state = .up) (hsince : d.par.heartbeatsSince = some x)
    (hlong : past x (us 100) d.now = true) (hbeats : past d.par.pairHeartbeat (us 50) d.now = false) :
    pausedRestore d = forL d.par.appendCopies (fun m e => tell (.append m) e)
      (raiseDev St.parMirrorResumed (enterPaired { d with par.appendCopies := [] })) := by
  rw [pausedRestore, supervised_of_run hphase hfenced]
  simp only [hstate, hport, hsince, hlong, hbeats, Bool.not_false, Bool.and_self, and_self, if_true]

theorem forceTakeover_of_operator {rq : Requester} (hop : isOperator d rq = true) :
    forceTakeover rq d = if d.par.state = .isolated then reply rq St.ok [] (takeover d) else reply rq St.parForceRefused [] d :=
  if_neg (by rw [hop]; decide)

end

/-- Settles O49: the limits of silence and joining, the return of the mirror, and the takeovers asked for and heard of. -/
theorem pairTimers : Obligations.PairTimers := by
  unfold Obligations.PairTimers
  refine ⟨fun s t ha hphase hfenced => ⟨fun hpast => ?_, fun hstate hpast => ?_, fun hstate hheard hpast => ?_,
      fun x hstate hport hsince hlong hbeats =>
        run_awake_of ha (pausedRestore_of_heard hphase hfenced hstate hport hsince hlong hbeats)⟩,
    fun s t rq ha hop => ⟨fun hstate => run_awake_of ha ((forceTakeover_of_operator hop).trans (if_pos hstate)),
      fun hstate => run_awake_of ha ((forceTakeover_of_operator hop).trans (if_neg hstate))⟩,
    fun s t lost survivor ha hother => run_awake_of ha (if_neg hother)⟩
  · have hsilence := pairSilence_of_past hphase hfenced hpast
    refine ⟨fun hstate => ?_, fun hstate => run_awake_of ha (hsilence.trans (by rw [hstate]))⟩
    cases hstate with
    | inl hpaired => exact run_awake_of ha (hsilence.trans (by rw [hpaired]))
    | inr hpaused => exact run_awake_of ha (hsilence.trans (by rw [hpaused]))
  · have hloss := pairLoss_of_past hphase hfenced hstate hpast
    exact ⟨fun hmay => run_awake_of ha (hloss.trans (if_pos hmay)),
      fun hnot => run_awake_of ha (hloss.trans (if_neg (by rw [hnot]; decide)))⟩
  · have hjoin := joinTimeout_of_past hphase hfenced hstate hheard hpast
    exact ⟨fun hmay => run_awake_of ha (hjoin.trans (if_pos hmay)),
      fun hnot => run_awake_of ha (hjoin.trans (if_neg (by rw [hnot]; decide)))⟩

section
variable {d : Dev} {h : CommitHdr} {op : PairOp}

/-- A commit that is not part of a resync, between the devices of a pair: by the side and the header. -/
theorem commitReceived_of_paired (hphase : d.cfg.phase = .run) (hfenced : d.ras.selfFenced = false) (hstate : d.par.state = .paired)
    (hresync : h.resync = false) :
    commitReceived h op d = if d.sideA then (if h.proposal then takeProposal h op d else d)
      else if h.proposal then d
      else if h.originB then ownReturned h d
      else peerCommit h op d := by
  rw [commitReceived, supervised_of_run hphase hfenced]
  simp only [hstate, hresync, Bool.false_eq_true, if_false, decide_true, Bool.true_or, Bool.not_true]

theorem takeProposal_of_ok (hok : (wholly (applyPeer h op) d).status = St.ok) :
    takeProposal h op d = (fun r : Applied => emit (.commit { h with
        seq := r.state.par.commitSeq + 1
        proposal := false } op) { r.state with par.commitSeq := r.state.par.commitSeq + 1 }) (wholly (applyPeer h op) d) :=
  if_neg (not_not_intro hok)

theorem peerCommit_of_later (hlater : serialLt d.par.commitSeq h.seq = true) (hnow : atBoundary op = false) :
    peerCommit h op d = (fun r : Applied => emit (.commitDone h.tag r.status) { r.state with par.commitSeq := h.seq })
      (wholly (applyPeer h op) d) :=
  (if_neg (by rw [hlater]; decide)).trans (if_neg fun hb => by simp [hnow] at hb)

theorem peerCommit_of_passed (hpassed : serialLt d.par.commitSeq h.seq = false) : peerCommit h op d = d :=
  if_pos (by rw [hpassed]; rfl)

/-- The completion of the one change that waits, already applied here: its requester is answered, and a refusal is undone. -/
theorem commitComplete_of_applied {w : CommitWait} (hwaits : d.par.waits = [w]) (happlied : w.applied = true) (st : Status) :
    commitComplete w.tag st d = if st = St.ok then liveNow w.op (finishWait w st d) else undoRefused w.op (finishWait w st d) := by
  have hfound : (d.par.waits.find? fun x => decide (x.tag = w.tag)) = some w := by simp [hwaits]
  simp only [commitComplete, hfound, happlied, if_true]

theorem copyMirrored_of_paired {x : Datum} (hstate : d.par.state = .paired) (hin : (d.par.copies.any fun c => decide (c.1 = x)) = true)
    (hop : copyOp d x = some op) :
    copyMirrored x d = (fun e : Dev => flushResync (markMirrored x { e with
      par.copies := e.par.copies.filter fun c => !decide (c.1 = x) })) (sendCopy op d) := by
  rw [copyMirrored, if_pos ⟨.inl hstate, hin⟩]
  simp only [hop]

theorem resyncComplete_of_resync (hphase : d.cfg.phase = .run) (hfenced : d.ras.selfFenced = false) (hstate : d.par.state = .resync)
    (hcopies : d.par.copies = []) (hops : d.par.resyncOps = []) : resyncComplete d = survivorDone d := by
  rw [resyncComplete, supervised_of_run hphase hfenced]
  simp only [hstate, hcopies, hops, and_self, if_true]

theorem resyncComplete_of_joining (hphase : d.cfg.phase = .run) (hfenced : d.ras.selfFenced = false) (hstate : d.par.state = .joining) :
    resyncComplete d = joinerDone d := by
  rw [resyncComplete, supervised_of_run hphase hfenced]
  simp only [hstate]

end

/-- Settles O50: commits by side and header, the end of a wait, of a queued copy and of a resync. -/
theorem pairCommits : Obligations.PairCommits := by
  unfold Obligations.PairCommits
  refine ⟨?_, fun s t w ha hwaits happlied => ⟨run_awake_of ha ((commitComplete_of_applied hwaits happlied St.ok).trans (if_pos rfl)),
      fun st hst => run_awake_of ha ((commitComplete_of_applied hwaits happlied st).trans (if_neg hst))⟩, ?_,
    fun s t ha hphase hfenced =>
      ⟨fun hstate hcopies hops => run_awake_of ha (resyncComplete_of_resync hphase hfenced hstate hcopies hops),
      fun hstate => run_awake_of ha (resyncComplete_of_joining hphase hfenced hstate)⟩⟩
  · intro s t h op ha hphase hfenced hstate hresync r
    have hcommit := commitReceived_of_paired (op := op) hphase hfenced hstate hresync
    refine ⟨fun hside hprop hok => run_awake_of ha (hcommit.trans ?_), fun hside hprop hbad => run_awake_of ha (hcommit.trans ?_),
      fun hside hprop horigin hlater hnow => run_awake_of ha (hcommit.trans ?_),
      fun hside hprop horigin hpassed => run_awake_of ha (hcommit.trans ?_)⟩
    · exact (if_pos hside).trans ((if_pos hprop).trans (takeProposal_of_ok hok))
    · exact (if_pos hside).trans ((if_pos hprop).trans (if_pos hbad))
    · simpa only [hside, hprop, horigin, Bool.false_eq_true, if_false] using peerCommit_of_later hlater hnow
    · simpa only [hside, hprop, horigin, Bool.false_eq_true, if_false] using peerCommit_of_passed hpassed
  · intro s t d op ha hstate hin hop x
    exact run_awake_of ha (copyMirrored_of_paired hstate hin hop)

end Sys2Proof
end

section
/-! PROOFS. Hosts: CXL.mem and snoops (R453, R457, R467, R472), links and resets (R453, R454, R472, R586), and the versions of a region:
PUBLISH, RETIRE, HINT and EXPORT (R464 to R469, R477 to R481). -/

namespace Sys2Proof

open Machine

section
variable {d : Dev} {p ld dpa va : Nat} {w : Window}

theorem cxlRead_of_unserved (h : memServed d p ld = false) (hold : Option LineState) : cxlRead p ld dpa hold d = d :=
  if_neg (by rw [h]; decide)

theorem cxlWrite_of_unserved (h : memServed d p ld = false) (data : List Byte) : cxlWrite p ld dpa data d = d :=
  if_neg (by rw [h]; decide)

theorem memReadLine_of_outside (hw : windowAt (d.ld p ld) (dpa / 64 * 64) = none) (hold : Option LineState) :
    memReadLine p ld dpa hold d = emit (.memPoison p ld (dpa / 64 * 64)) d := by
  simp only [memReadLine, hw]

theorem memReadLine_of_zero (hw : windowAt (d.ld p ld) (dpa / 64 * 64) = some w) (hva : windowVa d w (dpa / 64 * 64) = none)
    (hold : Option LineState) :
    memReadLine p ld dpa hold d = emit (.memData p ld (dpa / 64 * 64) (List.replicate 64 0)) d := by
  simp only [memReadLine, hw, hva]

theorem memReadLine_of_mapped (hw : windowAt (d.ld p ld) (dpa / 64 * 64) = some w) (hva : windowVa d w (dpa / 64 * 64) = some va) :
    memReadLine p ld dpa none d = answerLine p ld (dpa / 64 * 64) va d := by
  simp only [memReadLine, hw, hva]

theorem memWriteLine_of_outside (hw : windowAt (d.ld p ld) dpa = none) (data : List Byte) :
    memWriteLine p ld dpa data d = discardWrite p ld d := by
  simp only [memWriteLine, hw]

/-- A write to a region that is the LD's alone lands, or is held where its range is frozen. -/
theorem memWriteLine_of_private {g : Region} {data : List Byte} (hw : windowAt (d.ld p ld) dpa = some w)
    (hg : mget d.cxl.regions w.region = some g) (hva : windowVa d w dpa = some va) (hkind : g.kind = 2) (howner : g.owner = ldIndex p ld)
    (hfits : vaOffset va + data.length ≤ g.size) :
    memWriteLine p ld dpa data d = if isFrozen d w.region (vaOffset va) data.length then
        holdWrite w.region (vaOffset va) data none d
      else regionStore va data d := by
  simp [memWriteLine, hw, hg, hva, hkind, howner, Nat.not_lt.mpr hfits]

theorem snoopTimeout_of_snooped {line : Nat} {e : Snoop} {since : Time} (he : mget (d.filter p) (snoopKey line ld) = some e)
    (hsince : e.snooped = some since) :
    snoopTimeout p ld line d = if past since (ms 1) d.now then goOn (hostFails p ld d) else d := by
  simp only [snoopTimeout, he, Option.bind_some, hsince]

end

/-- Settles O51: reads by window and version, writes by window and owner, snoops answered and not answered in 1 ms. -/
theorem hostMemory : Obligations.HostMemory := by
  unfold Obligations.HostMemory
  refine ⟨fun s t p ld dpa ha => ⟨fun hno hold data =>
        ⟨run_awake_of ha (cxlRead_of_unserved hno hold), run_awake_of ha (cxlWrite_of_unserved hno data)⟩,
      fun hserved hw hold => run_awake_of ha ((if_pos hserved).trans (congrArg goOn (memReadLine_of_outside hw hold))),
      fun hserved hw data => run_awake_of ha ((if_pos hserved).trans (congrArg goOn (memWriteLine_of_outside hw data))),
      fun w hserved hw => ⟨fun hva hold => run_awake_of ha ((if_pos hserved).trans (congrArg goOn (memReadLine_of_zero hw hva hold))),
        fun va hva => run_awake_of ha ((if_pos hserved).trans (congrArg goOn (memReadLine_of_mapped hw hva)))⟩⟩,
    fun s t p ld dpa va w g data ha hserved hw hg hva hkind howner hfits => ?_,
    fun s t p ld line data ha => run_awake_of ha rfl,
    fun s t since p ld line e ha he hsince => ⟨fun hpast => run_awake_of ha ((snoopTimeout_of_snooped he hsince).trans (if_pos hpast)),
      fun hearly => run_awake_of ha ((snoopTimeout_of_snooped he hsince).trans (if_neg (by rw [hearly]; decide)))⟩⟩
  have hwrite := memWriteLine_of_private hw hg hva hkind howner hfits
  exact ⟨fun hthawed => run_awake_of ha ((if_pos hserved).trans (congrArg goOn (hwrite.trans (if_neg (by rw [hthawed]; decide))))),
    fun hfrozen => run_awake_of ha ((if_pos hserved).trans (congrArg goOn (hwrite.trans (if_pos hfrozen))))⟩

section
variable {d : Dev} {p : Nat}

theorem linkDown_of_viral (h : d.cxl.links.contains p = true) : linkDown p true d = goOn (ldsOf (hostFails p) d) := by
  simp only [linkDown, h, if_true]

theorem linkDown_of_loss {e : Dev} (h : d.cxl.links.contains p = true) (he : ldsOf (hostFails p) d = e) :
    linkDown p false d = goOn { e with cxl.links := e.cxl.links.erase p } := by
  simp only [linkDown, h, he, if_true, Bool.false_eq_true, if_false]

theorem linkUp_of_down (htrains : cxlTrains d p = true) (hdown : d.cxl.links.contains p = false) :
    linkUp p d = ldsOf (fun l e => if (e.ld p l).state = .failed then resetLd p l e else e)
      { d with cxl.links := d.cxl.links ++ [p] } := by
  rw [linkUp, if_pos htrains, hdown]
  rfl

end

/-- Settles O52: the link down and up, the resets of LDs, PERST_n by its length, and HOST_FAIL by the LD it names. -/
theorem hostLinks : Obligations.HostLinks := by
  unfold Obligations.HostLinks
  refine ⟨?_, fun s t p ha htrains hdown => run_awake_of ha (linkUp_of_down htrains hdown),
    fun s t p heldNs ha => ⟨fun hshort => run_awake_of ha (if_pos hshort),
      fun hlong => run_awake_of ha (if_neg (Nat.not_lt.mpr hlong))⟩,
    fun s t rq p ld hv => ⟨fun hp hld => run_vendor_of hv (if_neg ?_), fun hbeyond => run_vendor_of hv (if_pos hbeyond)⟩⟩
  · intro s t p ha hup d
    exact ⟨run_awake_of ha (linkDown_of_viral hup), run_awake_of ha (linkDown_of_loss hup rfl), fun ld => run_awake_of ha (if_pos hup)⟩
  · omega

section
variable {d : Dev} {p l : Nat}

theorem regionPublish_of_busy {b : Background} (hbusy : (d.ld p l).background = some b) (r : RegionReq) :
    regionPublish p l r d = emit (.mailbox (.ld p l) .busy []) d :=
  if_pos (by rw [hbusy]; rfl)

theorem regionExport_of_busy {b : Background} (hbusy : (d.ld p l).background = some b) (r : ExportReq) :
    regionExport p l r d = emit (.mailbox (.ld p l) .busy []) d :=
  if_pos (by rw [hbusy]; rfl)

/-- A PUBLISH that passes: the range is frozen, and the hosts that hold its lines give them up first. -/
theorem regionPublish_of_passes {r : RegionReq} (hfree : (d.ld p l).background = none) (hcheck : publishCheck d p l r = St.ok) :
    regionPublish p l r d = (fun e : Dev =>
        backInvalidate (heldLines e fun _ line _ _ => inRun (regionVa r.srcRegion 0 r.offset) r.length line) (.freeze p l) e)
      ((fun e : Dev => { e with cxl.frozen := e.cxl.frozen ++ [(r.srcRegion, r.offset, r.length)] })
        (emit (.mailbox (.ld p l) .background []) (modLd p l (fun x => { x with background := some (.publish r false) }) d))) :=
  (if_neg (by rw [hfree]; decide)).trans (if_neg (not_not_intro hcheck))

theorem publishCrc_of_mismatch {r : RegionReq} (hjob : (d.ld p l).background = some (.publish r false))
    (hwaits : (d.cxl.snoopWaits.any fun x => decide (x.what = .freeze p l)) = false)
    (hcrc : crc32c (memReadN d.mem (regionVa r.srcRegion 0 r.offset) r.length) ≠ r.crc) :
    publishCrc p l d = (fun e : Dev => endBackground p l St.cxlChecksum (regionFields e r.region 0) e)
      (unfreeze r.srcRegion r.offset r.length d) := by
  simp only [publishCrc, hjob, hwaits, Bool.false_eq_true, if_false, if_pos hcrc]

/-- The device once the version of a slot is gone. -/
def slotEmptied (r slot : Nat) (v : Version) (d : Dev) : Dev :=
  (fun e : Dev => { e with
      tir.regionUsed := e.tir.regionUsed - 65536 * v.len64k
      mem := memClear e.mem (regionVa r slot 0) (2 ^ 43) })
    (modRegion r (fun g => { g with
      versions := mdel g.versions slot
      poison := g.poison.filter fun k => !decide (k / 2 ^ 37 = slot)
      coldGranules := g.coldGranules.filter fun k => !decide (k / 134217728 = slot) }) (t1Free v.mapBase d))

theorem regionRetire_of_unused {r slot : Nat} {v : Version} {version : BitVec 32} {g : Region} (hg : mget d.cxl.regions r = some g)
    (htenant : ownTenant d p l g = true) (hkind : g.kind ≠ 2)
    (hv : (g.versions.find? fun x => decide (x.2.version = version)) = some (slot, v)) (hcurrent : g.currentSlot ≠ some slot)
    (hwindows : windowCovers d r (fun w => decide (w.bind = 2) && decide (w.slot = slot)) = false)
    (hranges : rangeCovers d r (fun k => decide (k = slot)) = false) :
    regionRetire p l r version d = (fun e : Dev => reply (.ld p l) St.ok (regionFields e r 0) e) (slotEmptied r slot v d) := by
  have hfree : ¬ (g.currentSlot = some slot ∨ windowCovers d r (fun w => decide (w.bind = 2) && decide (w.slot = slot)) = true
      ∨ rangeCovers d r (fun k => decide (k = slot)) = true) := by
    simp [hcurrent, hwindows, hranges]
  simp only [regionRetire, hg, htenant, Bool.not_true, Bool.false_eq_true, if_false, if_neg hkind, hv, if_neg hfree] <;> rfl

theorem regionHint_of_shared {r : RegionReq} {g : Region} (hg : mget d.cxl.regions r.region = some g) (htenant : ownTenant d p l g = true)
    (harg : r.arg ≤ 1) (hslot : r.slot < 8 ∨ r.slot = 0xFF) (hoffset : r.offset % mib2 = 0) (hlength : r.length % mib2 = 0)
    (hsome : r.length ≠ 0) (hfits : r.offset + r.length ≤ g.size) (hkind : g.kind ≠ 2) :
    regionHint p l r d = backInvalidate [] (.hint (.ld p l) r) d := by
  have hpass : ¬ (1 < r.arg ∨ (8 ≤ r.slot ∧ r.slot ≠ 0xFF) ∨ r.offset % mib2 ≠ 0 ∨ r.length % mib2 ≠ 0 ∨ r.length = 0
      ∨ g.size < r.offset + r.length) := by omega
  simp only [regionHint, hg, htenant, Bool.not_true, Bool.false_eq_true, if_false, if_neg hpass, if_neg hkind]

theorem regionExport_of_passes {i : Nat} {r : ExportReq} {q : Machine.Seq} {pages : List Nat} (hfree : (d.ld p l).background = none)
    (hcheck : exportCheck d p l r = St.ok) (hq : findSeq d r.handle = some (i, q))
    (hpages : exportPages (modLd p l (fun x => { x with background := some (.exportCopy r q.tenant) }) d) q r = some pages) :
    regionExport p l r d = emit (.mailbox (.ld p l) .background []) (forL pages (fun k e => takePin (exportOp p l) k e)
      (modLd p l (fun x => { x with background := some (.exportCopy r q.tenant) }) d)) := by
  simp only [regionExport, hfree, Option.isSome_none, Bool.false_eq_true, if_false, hcheck, ne_eq, not_true_eq_false, hq, hpages,
    Option.getD_some]

theorem exportDone_of_lost {tenant : Nat} {r : ExportReq} (hjob : (d.ld p l).background = some (.exportCopy r tenant))
    (hwaits : (d.pfx.pinWaits.any fun w => decide (w.op = exportOp p l)) = false)
    (hlost : ((d.pfx.pinOps.filter fun h => decide (h.op = exportOp p l)).map (·.page)).any (pageIsLost d) = true) :
    exportDone p l d = (fun e : Dev => endBackground p l St.tirPageLost (regionFields e r.region 0) e) (dropPins (exportOp p l) d) := by
  simp only [exportDone, hjob, hwaits, hlost, Bool.false_eq_true, if_false, if_true]

end

/-- Settles O54: each command by its checks; the ends of PUBLISH and EXPORT by the checksum and the pages. -/
theorem regionVersions : Obligations.RegionVersions := by
  unfold Obligations.RegionVersions
  refine ⟨?_, fun s t p l b hv hbusy => ⟨fun r => run_vendor_of hv (congrArg goOn (regionPublish_of_busy hbusy r)),
      fun r => run_vendor_of hv (congrArg goOn (regionExport_of_busy hbusy r))⟩, ?_, ?_,
    fun s t p l r g hv hg htenant harg hslot hoffset hlength hsome hfits hkind => run_vendor_of hv
      (congrArg goOn (regionHint_of_shared hg htenant harg hslot hoffset hlength hsome hfits hkind)), ?_, ?_⟩
  · intro s t p l r hv hfree hcheck d e
    exact run_vendor_of hv (congrArg goOn (regionPublish_of_passes hfree hcheck))
  · intro s t p l r ha hjob hwaits hcrc d
    exact run_awake_of ha (congrArg goOn (publishCrc_of_mismatch hjob hwaits hcrc))
  · intro s t p l r slot v version g hv hg htenant hkind hfind hcurrent hwindows hranges d e
    exact run_vendor_of hv (congrArg goOn (regionRetire_of_unused hg htenant hkind hfind hcurrent hwindows hranges))
  · intro s t p l i r q pages hv hfree hcheck hq d hpages
    exact run_vendor_of hv (congrArg goOn (regionExport_of_passes hfree hcheck hq hpages))
  · intro s t p l tenant r ha hjob hwaits hlost d
    exact run_awake_of ha (congrArg goOn (exportDone_of_lost hjob hwaits hlost))

end Sys2Proof
end

section
/-! PROOFS. The mailbox: snapshots and standard commands (R451, R455, R485, R487), poison, FM-API and CDAT (R474, R487), and firmware
and identity transfers (R507, R508, R532, R533). -/

namespace Sys2Proof

open Machine

section
variable {d : Dev} {rq : Requester} {cls i : Nat}

theorem statusSnapshot_of_own {fields : List Nat} (hcls : cls ≤ 10) (hrecord : snapshotOf d (tenantOf d rq) cls i = .record none fields) :
    statusSnapshot rq cls i d = reply rq St.ok fields d := by
  simp only [statusSnapshot, if_neg (Nat.not_lt.mpr hcls), hrecord, Bool.false_eq_true, if_false]

theorem statusSnapshot_of_tenant {a b : Nat} {fields : List Nat} (hcls : cls ≤ 10) (htenant : tenantOf d rq = some b)
    (hop : isOperator d rq = false) (hrecord : snapshotOf d (some b) cls i = .record (some a) fields) :
    statusSnapshot rq cls i d = if a ≠ b then reply rq St.cxlTenant [] d else reply rq St.ok fields d := by
  simp [statusSnapshot, Nat.not_lt.mpr hcls, htenant, hrecord, hop]

theorem eventsRead_of_log {p l log : Nat} (hlog : log < 4) :
    eventsRead (.ld p l) log d = answerCxl (.ld p l) .success
      ([mgetD (d.ld p l).overflow log 0, (mgetD (d.ld p l).logs log []).length] ++ (mgetD (d.ld p l).logs log []).flatMap eventWords) d :=
  if_neg (Nat.not_le.mpr hlog)

/-- Clear Event Records without a handle clears the log. -/
theorem eventsClear_of_all {p l log : Nat} (hlog : log < 4) :
    eventsClear (.ld p l) log [] d = answerCxl (.ld p l) .success [] (modLd p l (fun e => { e with
      logs := mset e.logs log []
      overflow := mdel e.overflow log }) d) :=
  if_neg fun h => h.elim (fun hbig => absurd hlog (Nat.not_lt.mpr hbig)) fun hne => hne rfl

end

/-- Settles O55: a snapshot by class, index and tenant; each standard command answers, and sets, what it names. -/
theorem mailboxReads : Obligations.MailboxReads := by
  unfold Obligations.MailboxReads
  refine ⟨fun s t rq cls i hv => ⟨fun hbig => run_vendor_of hv (if_pos hbig),
      fun fields hcls hrecord => run_vendor_of hv (statusSnapshot_of_own hcls hrecord),
      fun a b fields hcls htenant hop hrecord => ?_⟩,
    fun s t rq ha hphase hfenced => ⟨run_standard_of ha hphase hfenced rfl, run_standard_of ha hphase hfenced rfl,
      fun v => run_standard_of ha hphase hfenced rfl, run_standard_of ha hphase hfenced rfl,
      fun uuid off len => run_standard_of ha hphase hfenced rfl⟩,
    fun s t p l ha hphase hfenced => ⟨fun log hlog => ⟨run_standard_of ha hphase hfenced (eventsRead_of_log hlog),
        run_standard_of ha hphase hfenced (eventsClear_of_all hlog)⟩,
      run_standard_of ha hphase hfenced rfl, fun v => run_standard_of ha hphase hfenced rfl⟩⟩
  have hsnapshot := statusSnapshot_of_tenant hcls htenant hop hrecord
  exact ⟨fun hsame => run_vendor_of hv (hsnapshot.trans (if_neg (not_not_intro hsame))),
    fun hother => run_vendor_of hv (hsnapshot.trans (if_pos hother))⟩

section
variable {d : Dev} {p l dpa : Nat}

theorem poisonInject_of_private {line : Nat} (h : privateLine d p l dpa = some line) :
    poisonInject (.ld p l) dpa d = answerCxl (.ld p l) .success [] (poisonLine line d) := by
  simp only [poisonInject, ofLd, h]

theorem poisonInject_of_none (h : privateLine d p l dpa = none) :
    poisonInject (.ld p l) dpa d = answerCxl (.ld p l) .invalidInput [] d := by
  simp only [poisonInject, ofLd, h]

theorem poisonClear_of_private {line : Nat} (h : privateLine d p l dpa = some line) (data : List Byte) :
    poisonClear (.ld p l) dpa data d
      = answerCxl (.ld p l) .success [] (regionStore (64 * line) ((data ++ List.replicate 64 0).take 64) d) := by
  simp only [poisonClear, ofLd, h]

theorem poisonClear_of_none (h : privateLine d p l dpa = none) (data : List Byte) :
    poisonClear (.ld p l) dpa data d = answerCxl (.ld p l) .invalidInput [] d := by
  simp only [poisonClear, ofLd, h]

end

/-- Settles O56: poison by a line of the region that is the LD's alone, the allocations of a port, and CDAT. -/
theorem poisonAndAllocations : Obligations.PoisonAndAllocations := by
  unfold Obligations.PoisonAndAllocations
  refine ⟨fun s t p l ha hphase hfenced => ⟨?_, fun dpa line hline => ?_, fun dpa hnone => ?_⟩,
    fun s t p ha hphase hfenced => ⟨run_standard_of ha hphase hfenced rfl, run_standard_of ha hphase hfenced rfl,
      fun first a hfits => run_standard_of ha hphase hfenced (if_neg (Nat.not_lt.mpr hfits)),
      fun entry hentry => run_standard_of ha hphase hfenced (if_neg (Nat.not_le.mpr hentry))⟩⟩
  · intro dpa len hit
    exact run_standard_of ha hphase hfenced rfl
  · exact ⟨run_standard_of ha hphase hfenced (poisonInject_of_private hline),
      fun data => run_standard_of ha hphase hfenced (poisonClear_of_private hline data)⟩
  · exact ⟨run_standard_of ha hphase hfenced (poisonInject_of_none hnone),
      fun data => run_standard_of ha hphase hfenced (poisonClear_of_none hnone data)⟩

section
variable {s : State} {t : Time} {d : Dev} {rq : Requester} {f : Dev → Dev}

/-- A standard command that recovery accepts takes its effect there and in RUN. -/
theorem run_standard_of_either (ha : Awake s) (h : (s.at t).cfg.phase = .recovery ∨ ((s.at t).cfg.phase = .run ∧ (s.at t).ras.selfFenced = false))
    (hf : f (s.at t) = d) : run (standard t rq true f) s = .next ⟨s.pending, d⟩ := by
  cases h with
  | inl hrecovery => exact run_awake_of ha ((if_pos hrecovery).trans ((if_pos rfl).trans hf))
  | inr hrun => exact run_standard_of ha hrun.1 hrun.2 hf

theorem operatorCmd_of (hop : isOperator d rq = true) : operatorCmd rq f d = f d := if_pos hop

theorem fwTransfer_of_busy (hop : isOperator d rq = true) (hjobs : d.cfg.nvmJobs ≠ []) (img : Image) :
    fwTransfer rq img d = answerCxl rq .busy [] d :=
  (operatorCmd_of hop).trans (if_pos (by simpa using hjobs))

theorem fwTransfer_of_free (hop : isOperator d rq = true) (hjobs : d.cfg.nvmJobs = []) (img : Image) :
    fwTransfer rq img d = if imageFault d img ≠ St.ok then answerCxl rq .invalidInput [(imageFault d img).toNat] d
      else answerCxl rq .background [] { d with cfg.nvmJobs := [.firmware img] } :=
  (operatorCmd_of hop).trans (if_neg (by rw [hjobs]; decide))

theorem bundleTransfer_of_fault {b : IdentityCopy} {derived : BitVec 256} {r : Nat} (hop : isOperator d rq = true)
    (hjobs : d.cfg.nvmJobs = []) (hfault : bundleFault d b derived = some r) :
    bundleTransfer rq b derived d
      = answerCxl rq .invalidInput [] (raise St.secBundleInvalid deviceWide [r] { d with sec.bundleRefused := true }) := by
  rw [bundleTransfer, operatorCmd_of hop]
  simp only [hjobs, List.isEmpty_nil, Bool.not_true, Bool.false_eq_true, if_false, hfault]

theorem bundleTransfer_of_good {b : IdentityCopy} {derived : BitVec 256} (hop : isOperator d rq = true)
    (hjobs : d.cfg.nvmJobs = []) (hgood : bundleFault d b derived = none) :
    bundleTransfer rq b derived d = answerCxl rq .background [] { d with
      cfg.nvmJobs := [.identity { b with storeSeq := if d.sec.identity = .none then 1 else d.sec.storeSeq + 1 }] } := by
  rw [bundleTransfer, operatorCmd_of hop]
  simp only [hjobs, List.isEmpty_nil, Bool.not_true, Bool.false_eq_true, if_false, hgood]

/-- Activate FW of another slot than the identity's, on the next cold reset. -/
theorem fwActivate_of_reset {slot : Nat} (hop : isOperator d rq = true) (hslot : slot ≠ 4) :
    fwActivate rq slot false d = if d.cfg.phase = .recovery then internalReset (answerCxl rq .success [] d)
      else answerCxl rq .success [] d :=
  (operatorCmd_of hop).trans (if_neg fun h => h.elim hslot Bool.noConfusion)

theorem fwActivate_of_online (hop : isOperator d rq = true) (slot : Nat) :
    fwActivate rq slot true d = answerCxl rq .invalidInput [] d :=
  (operatorCmd_of hop).trans (if_pos (.inr rfl))

end

/-- Settles O57: the firmware's and the bundle's transfer by the NVM's job and their faults, and the activation by its phase. -/
theorem firmwareCommands : Obligations.FirmwareCommands := by
  unfold Obligations.FirmwareCommands
  refine fun s t rq ha hphase => ⟨run_standard_of_either ha hphase rfl, fun hop => ⟨fun img => ⟨fun hjobs => ?_, fun hjobs hok => ?_,
      fun hjobs hbad => ?_⟩,
    fun b derived hjobs => ⟨fun r hfault => run_standard_of_either ha hphase (bundleTransfer_of_fault hop hjobs hfault),
      fun hgood => run_standard_of_either ha hphase (bundleTransfer_of_good hop hjobs hgood)⟩,
    fun slot hslot => ⟨fun hrun => ?_, fun hrecovery => ?_, run_standard_of_either ha hphase (fwActivate_of_online hop slot)⟩⟩⟩
  · exact run_standard_of_either ha hphase (fwTransfer_of_busy hop hjobs img)
  · exact run_standard_of_either ha hphase ((fwTransfer_of_free hop hjobs img).trans (if_neg (not_not_intro hok)))
  · exact run_standard_of_either ha hphase ((fwTransfer_of_free hop hjobs img).trans (if_pos hbad))
  · exact run_standard_of_either ha hphase ((fwActivate_of_reset hop hslot).trans (if_neg (by rw [hrun]; decide)))
  · exact run_standard_of_either ha hphase ((fwActivate_of_reset hop hslot).trans (if_pos hrecovery))

end Sys2Proof
end

section
/-! PROOFS. SPDM (R535 to R539) and configuration transactions (R513 to R518, R522). -/

namespace Sys2Proof

open Machine

section
variable {d : Dev} {tr : Nat}

theorem negotiated_of_done (h : spdmStage d tr = 3) (f : Dev → Dev) : negotiated tr f d = f d := if_pos h

theorem spdmCapabilities_of_version (h : spdmStage d tr = 1) :
    spdmCapabilities tr d = spdmAnswer tr .capabilities (setStage tr 2 d) := if_pos (.inl h)

theorem spdmAlgorithms_of_capabilities (h : spdmStage d tr = 2) (dmtf : Bool) :
    spdmAlgorithms tr true true dmtf d = spdmAnswer tr (.algorithms true true dmtf) (setStage tr 3 d) :=
  (if_neg (by rw [h]; decide)).trans (if_neg (by decide))

theorem spdmDigests_of_none (h : spdmStage d tr = 3) (hid : identityCopy d = none) :
    spdmDigests tr d = spdmAnswer tr .errorUnspecified d :=
  (negotiated_of_done h _).trans (by rw [hid])

theorem spdmDigests_of_some {c : IdentityCopy} (h : spdmStage d tr = 3) (hid : identityCopy d = some c) :
    spdmDigests tr d = spdmAnswer tr (.digests c.chainDigest) d :=
  (negotiated_of_done h _).trans (by rw [hid])

theorem spdmCertificate_of_none (h : spdmStage d tr = 3) (hid : identityCopy d = none) (slot off len : Nat) :
    spdmCertificate tr slot off len d = spdmAnswer tr .errorUnspecified d :=
  (negotiated_of_done h _).trans (by rw [hid])

theorem spdmCertificate_of_some {c : IdentityCopy} {off : Nat} (h : spdmStage d tr = 3) (hid : identityCopy d = some c)
    (hoff : off < c.chain.length) (len : Nat) :
    spdmCertificate tr 0 off len d = spdmAnswer tr (.certificate ((c.chain.drop off).take len)
      (c.chain.length - off - ((c.chain.drop off).take len).length)) d := by
  rw [spdmCertificate, negotiated_of_done h, hid]
  exact if_neg fun hbad => hbad.elim (fun hslot => hslot rfl) fun hbeyond => absurd hoff (Nat.not_lt.mpr hbeyond)

theorem spdmChallenge_of_none (h : spdmStage d tr = 3) (hid : identityCopy d = none) (slot : Nat) (nonce : BitVec 256) (summary : Nat) :
    spdmChallenge tr slot nonce summary d = spdmAnswer tr .errorUnspecified d :=
  (negotiated_of_done h _).trans (if_pos (by rw [hid]; rfl))

theorem signLater_of_room (hroom : (d.sec.jobs.filter fun j => !j.ready).length < 2) (req : SpdmSigned) (snap : List (BitVec 256)) :
    signLater tr req snap d = { d with
      sec.jobs := d.sec.jobs ++ [{ transport := tr, req, snapshot := snap, since := d.now, token := none, ready := false }] } :=
  if_pos hroom

theorem spdmChallenge_of_some {c : IdentityCopy} (h : spdmStage d tr = 3) (hid : identityCopy d = some c) (nonce : BitVec 256)
    (summary : Nat) :
    spdmChallenge tr 0 nonce summary d
      = signLater tr (.challenge 0 nonce summary) (if summary = 0 then [] else measurements d) d :=
  (negotiated_of_done h _).trans ((if_neg (by rw [hid]; exact Bool.false_ne_true)).trans (if_neg fun hslot => hslot rfl))

theorem spdmMeasurements_of_unsigned {index : Nat} {b : List (BitVec 256)} (h : spdmStage d tr = 3)
    (hb : blocksOf index (measurements d) = some b) (nonce : BitVec 256) :
    spdmMeasurements tr index false nonce d = spdmAnswer tr (.measurements b none) d := by
  rw [spdmMeasurements, negotiated_of_done h, hb]
  rfl

/-- The only job leaves the list, its response signed with the next free value. -/
def answerJob (j : SpdmJob) (d : Dev) : Dev :=
  (fun e : Dev => spdmAnswer j.transport (signedResp e j (Config.signature d.free)) { e with sec.jobs := [] })
    { d with free := d.free + 1 }

theorem dropJob_of_one {j : SpdmJob} (hjobs : d.sec.jobs = [j]) : dropJob j d = { d with sec.jobs := [] } := by
  rw [dropJob, hjobs, List.erase_cons_head]

theorem spdmRespond_of_waiting {j : SpdmJob} {token : Nat} (h : spdmStage d tr = 3) (hjobs : d.sec.jobs = [j]) (htr : j.transport = tr)
    (htoken : j.token = some token) (hready : j.ready = false) :
    spdmRespond tr token d = spdmAnswer tr (.notReady token) d := by
  have hfound : (d.sec.jobs.find? fun x => decide (x.transport = tr) && decide (x.token = some token)) = some j := by
    simp [hjobs, htr, htoken]
  rw [spdmRespond, negotiated_of_done h, hfound]
  exact if_pos (by rw [hready]; rfl)

theorem spdmRespond_of_ready {j : SpdmJob} {token : Nat} (h : spdmStage d tr = 3) (hjobs : d.sec.jobs = [j]) (htr : j.transport = tr)
    (htoken : j.token = some token) (hready : j.ready = true) : spdmRespond tr token d = answerJob j d := by
  have hfound : (d.sec.jobs.find? fun x => decide (x.transport = tr) && decide (x.token = some token)) = some j := by
    simp [hjobs, htr, htoken]
  rw [spdmRespond, negotiated_of_done h, hfound, answerJob, htr]
  refine (if_neg (by rw [hready]; decide)).trans ?_
  exact congrArg (spdmAnswer tr _) (dropJob_of_one (d := { d with free := d.free + 1 }) hjobs)

theorem signatureDone_of_early {j : SpdmJob} (hjobs : d.sec.jobs = [j]) (hready : j.ready = false) (htoken : j.token = none)
    (hearly : past j.since (ctTime + 1) d.now = false) : signatureDone d = answerJob j d := by
  have hfound : (d.sec.jobs.find? fun x => !x.ready) = some j := by simp [hjobs, hready]
  rw [signatureDone, hfound, answerJob]
  refine (if_neg (by rw [htoken]; decide)).trans ((if_neg (by rw [hearly]; decide)).trans ?_)
  exact congrArg (spdmAnswer j.transport _) (dropJob_of_one (d := { d with free := d.free + 1 }) hjobs)

end

/-- Settles O58: the three requests of a negotiation by its stage, and those of a negotiated connection by identity and jobs. -/
theorem spdmRequests : Obligations.SpdmRequests := by
  unfold Obligations.SpdmRequests
  refine ⟨fun s t tr ha hphase hfenced => ⟨run_spdm_of ha hphase hfenced rfl,
      fun h => run_spdm_of ha hphase hfenced (spdmCapabilities_of_version h),
      fun h dmtf => run_spdm_of ha hphase hfenced (spdmAlgorithms_of_capabilities h dmtf)⟩,
    fun s t tr ha hphase hfenced h => ⟨fun hid => ⟨?_, fun slot off len => ?_, fun slot nonce summary => ?_⟩,
      fun c hid => ⟨?_, fun off len hoff => ?_, fun nonce summary hroom => ?_⟩,
      fun index b nonce hb => run_spdm_of ha hphase hfenced (spdmMeasurements_of_unsigned h hb nonce),
      fun j hjobs htr token htoken => ⟨fun hready => ?_, fun hready => ?_⟩⟩,
    fun s t j ha hphase hfenced hjobs hready htoken hearly =>
      run_spdm_of ha hphase hfenced (signatureDone_of_early hjobs hready htoken hearly)⟩
  · exact run_spdm_of ha hphase hfenced (spdmDigests_of_none h hid)
  · exact run_spdm_of ha hphase hfenced (spdmCertificate_of_none h hid slot off len)
  · exact run_spdm_of ha hphase hfenced (spdmChallenge_of_none h hid slot nonce summary)
  · exact run_spdm_of ha hphase hfenced (spdmDigests_of_some h hid)
  · exact run_spdm_of ha hphase hfenced (spdmCertificate_of_some h hid hoff len)
  · exact run_spdm_of ha hphase hfenced ((spdmChallenge_of_some h hid nonce summary).trans (signLater_of_room hroom _ _))
  · exact run_spdm_of ha hphase hfenced (spdmRespond_of_waiting h hjobs htr htoken hready)
  · subst htr
    exact run_spdm_of ha hphase hfenced (spdmRespond_of_ready h hjobs rfl htoken hready)

section
variable {d : Dev} {rq : Requester} {id : BitVec 32}

/-- The idle timer has nothing to roll back where it is not due. -/
theorem afterExpiry_of_not_due (h : txnDue d = false) (f : Dev → Dev) : afterExpiry f d = f d :=
  congrArg f (if_neg (by rw [h]; decide))

theorem txnDue_of_idle (h : d.cfg.txn.state = .idle) : txnDue d = false := by
  simp [txnDue, h]

theorem txnFault_of_idle (h : d.cfg.txn.state = .idle) : txnFault d rq id = St.cfgNoTxn := if_pos h

theorem txnFault_of_holder (hopen : d.cfg.txn.state = .opened) (hmine : d.cfg.txn.mine = true) (hholder : d.cfg.txn.holder = some rq) :
    txnFault d rq d.cfg.txn.id = St.ok := by
  simp [txnFault, hopen, hmine, hholder]

theorem txnWrite_of_idle (h : d.cfg.txn.state = .idle) (items : List TxnItem) : txnWrite rq id items d = reply rq St.cfgNoTxn [] d := by
  rw [txnWrite, txnFault_of_idle h]
  exact (if_neg (by decide)).trans (if_pos (by decide))

theorem txnCommit_of_idle (h : d.cfg.txn.state = .idle) (persistent : Bool) (activation : Time) :
    txnCommit rq id persistent activation d = reply rq St.cfgNoTxn [] d := by
  rw [txnCommit, txnFault_of_idle h]
  exact (if_neg (by decide)).trans (if_pos (by decide))

theorem txnRollback_of_idle (h : d.cfg.txn.state = .idle) : txnRollback rq id d = reply rq St.cfgNoTxn [] d := by
  rw [txnRollback, txnFault_of_idle h]
  exact (if_pos (by decide)).trans (congrArg (reply rq St.cfgNoTxn []) (if_neg (by decide)))

/-- A WRITE of the holder: its items are staged, or the first that does not pass is named. -/
theorem txnWrite_of_holder {items : List TxnItem} (hok : txnFault d rq id = St.ok) (hsome : items ≠ []) (hfits : items.length ≤ 4096) :
    txnWrite rq id items d = (fun e : Dev => match firstItemFault e e.cfg.txn.items e.cfg.txn.bytes 0 items with
      | some (st, i) => reply rq st [i] e
      | none => reply rq St.ok [0] (stage items e)) (touchTxn d) := by
  have hpass : ¬ (items.isEmpty = true ∨ 4096 < items.length) := by
    simp [hsome, Nat.not_lt.mpr hfits]
  rw [txnWrite, hok]
  exact (if_neg (by decide)).trans ((if_neg (by decide)).trans (if_neg hpass))

/-- The boundary of a commit that asks for none: the first one a frame from now. -/
def soonestBoundary (d : Dev) : Time := boundaryAfter d (d.now + BitVec.ofNat 64 d.frameUnits)

theorem txnCommit_of_holder {persistent : Bool} (hok : txnFault d rq id = St.ok)
    (hhorizon : (touchTxn d).timeInHorizon (soonestBoundary (touchTxn d)) = true)
    (hcheck : txnCheck (touchTxn d) d.cfg.txn.items persistent d.now (soonestBoundary (touchTxn d)) = St.ok) :
    txnCommit rq id persistent 0 d = commitTxn rq persistent false (soonestBoundary (touchTxn d)) (touchTxn d) := by
  have hopen : ¬ St.ok = St.cfgTxnState := by decide
  rw [soonestBoundary] at hhorizon hcheck ⊢
  simp only [txnCommit, hok, if_neg hopen, ne_eq, not_true_eq_false, if_false, decide_false, Bool.false_and, false_and, hhorizon,
    Bool.not_true, Bool.false_eq_true]
  exact if_neg (not_not_intro hcheck)

theorem commitTxn_of_solo {persistent : Bool} {b : Time} (hsolo : d.par.state = .solo) :
    commitTxn rq persistent false b d
      = scheduleTxn d.cfg.txn.items persistent false b d.now none none { d with par.commitSeq := d.par.commitSeq + 1 } := by
  simp only [commitTxn, hsolo]

theorem txnRollback_of_holder (hok : txnFault d rq id = St.ok) (hsolo : d.par.state = .solo) :
    txnRollback rq id d = leaderApply rq .txnRollback none applyRollback d :=
  (if_neg (not_not_intro hok)).trans (pairChange_of_solo hsolo _ _ _ _)

end

/-- Settles O59: without a transaction, on an open one of its holder, and at the idle limit. -/
theorem transactions : Obligations.Transactions := by
  unfold Obligations.Transactions
  refine ⟨fun s t rq hv hsolo hidle => ?_, ?_, fun s t ha => ⟨fun hdue => run_awake_of ha (if_pos hdue),
    fun hnot => run_awake_of ha (if_neg (by rw [hnot]; decide))⟩⟩
  · have hquiet := afterExpiry_of_not_due (txnDue_of_idle hidle)
    exact ⟨run_vendor_of hv ((hquiet _).trans (pairChange_of_solo hsolo _ _ _ _)),
      fun id items => run_vendor_of hv ((hquiet _).trans (txnWrite_of_idle hidle items)),
      fun id p a => run_vendor_of hv ((hquiet _).trans (txnCommit_of_idle hidle p a)),
      fun id => run_vendor_of hv ((hquiet _).trans (txnRollback_of_idle hidle))⟩
  · intro s t rq hv hsolo hopen hmine hholder hnot id d
    have hquiet := afterExpiry_of_not_due hnot
    have hok := txnFault_of_holder hopen hmine hholder
    refine ⟨fun items hsome hfits => ⟨fun hpass => ?_, fun st i hfault => ?_⟩, fun persistent => ?_,
      run_vendor_of hv ((hquiet _).trans (txnRollback_of_holder hok hsolo))⟩
    · exact run_vendor_of hv ((hquiet _).trans ((txnWrite_of_holder hok hsome hfits).trans (by simp only [d, hpass])))
    · exact run_vendor_of hv ((hquiet _).trans ((txnWrite_of_holder hok hsome hfits).trans (by simp only [d, hfault])))
    · intro b hhorizon hcheck
      exact run_vendor_of hv ((hquiet _).trans ((txnCommit_of_holder hok hhorizon hcheck).trans
        (commitTxn_of_solo (d := touchTxn (s.at t)) hsolo)))

end Sys2Proof
end
